-- ==== Sys2Proof/Word.lean ====
section
/-!
DEFINITION. Word.lean: the word types of the device (R10, R11, R31) and their plainest arithmetic.
-/
namespace Sys2Proof

/-- A register, record or table-entry word: 32 bits (R10, R11). -/
abbrev Word := BitVec 32

/-- One byte on a lane or in a memory. -/
abbrev Byte := BitVec 8

/-- A byte string in wire order: the first byte on the wire first (R11). -/
abbrev Bytes := List Byte

end Sys2Proof
end

