-- ==== Sys2Proof/Syntax.lean ====
section
/-!
DEFINITION. Syntax.lean: the commands of the block, one constructor of `Instr` for each row of
opcode_table.json, with the operands a command brings from outside (the commands' own words: the table
gives no row any field or bits).
-/
namespace Sys2Proof

/-- The issuer of a control operation: its host context and whether it acts as the guard context (R44). -/
structure Who where
  ctx : Nat
  acting : Bool
deriving DecidableEq, Repr

/-- The straps sampled into RST_STRAPS (R94, R453). -/
structure Straps where
  twinId : Bool
  bsetId : Nat
  bootSrc : Nat
deriving DecidableEq, Repr

/-- The fuse fields the spec names: PART and STEPPING (R6), ROAST_KEY_HASH and ROAST_SIG_REQUIRED (R64),
the guard key (R56) and BOOT_MAC (R98). -/
structure Fuses where
  part : Nat
  stepping : Nat
  keyHash : Nat
  sigRequired : Bool
  guardKey : Nat
  bootMac : Nat
deriving DecidableEq, Repr

/-- What a self-test round measures at the balls (R425): edges on HB_IN per second over the period, whether HB_OUT reads back
its toggles, the deviations of the PPS outputs watched in 0.5 ns, ROLE_CLAIM_N and PEER_CLAIM_N as read at their balls (`true`
for high), and whether a read of the snapshot area met no uncorrectable error. -/
structure Measured where
  hbRate : Nat
  hbBack : Bool
  watch : List Int
  claimHigh : Bool
  peerHigh : Bool
  ramOk : Bool
deriving DecidableEq, Repr

/-- The commands of the block: one constructor for each row of opcode_table.json. -/
inductive Instr where
  /-- POWER_ON_RESET (R85): Power-on reset, including a brown-out of VDD_HOT, is held until VDD_HOT is good and 256 XO_IN
  periods have passed, and it causes a full device reset. -/
  | powerOnReset
  /-- RESET_N_ASSERT (R84): A RESET_N assertion that outlasts the reset filter acts asynchronously on the outputs and causes
  a full device reset. -/
  | resetNAssert
  /-- RESET_N_RELEASE (R84): Once RESET_N has read high for 4 consecutive Hotplate ticks, the boot begins at step 3. -/
  | resetNRelease
  /-- RAIL_LOSS (R86): A supervised rail is lost after the Rails state, so every output takes its reset state and the device
  enters Rail-fault. -/
  | railLoss (rail : Nat)
  /-- FUSE_LOAD_DONE (R94): The fuse load completes, and its check passes or sets FUSE_FAIL, after which the boot moves to
  Rails. -/
  | fuseLoadDone (fuses : Fuses) (pass : Bool)
  /-- RAILS_GOOD (R94): All power-good detectors report good, so the straps are sampled into RST_STRAPS and the boot moves to
  Clocks. -/
  | railsGood (straps : Straps)
  /-- BOOT_CLOCKS_LOCKED (R94): The core and time PLLs are locked and stable, so the boot domains are woken and the device
  enters Load, or enters Boot-failed after a failed fuse check. -/
  | bootClocksLocked
  /-- CLOCK_LOCK_TIMEOUT (R94): The PLLs have not locked within 2 ms, so the boot enters Boot-failed. -/
  | clockLockTimeout
  /-- IMAGE_CHECK (R79): An image source has been read and its checks complete, so the image is accepted or its fault code is
  recorded and the next source is tried. -/
  | imageCheck (image : Option Bytes)
  /-- IMAGE_APPLY (R77): An accepted image is applied section by section, ending with the strobe of all 16 groups and entry
  into Running. -/
  | imageApply
  /-- BOOT_OFFER (R98): Every 10 ms during a host-link boot or in Boot-failed, a BOOT_OFFER is sent on both host lanes. -/
  | bootOffer
  /-- BOOT_BLOCK (R98): A received BOOT_BLOCK is accepted or refused by its OFFSET and answered with BOOT_ACK, and the image
  is checked once it is complete. -/
  | bootBlock (lane : Nat) (frame : Bytes)
  /-- CONTROL_FRAME (R44): A frame with the control EtherType arrives on a host lane and is matched, credited, replayed or
  checked, its operations are executed in order, and its response is cached and sent. -/
  | controlFrame (lane : Nat) (waiting : List Nat) (frame : Bytes)
  /-- READ (R33): The READ operation returns one register word. -/
  | read (who : Who) (addr : Word)
  /-- WRITE (R47): The WRITE operation writes one word to a register that has no row of its own, subject to its access type
  and the guard check. -/
  | write (who : Who) (addr data : Word)
  /-- RMW (R34): The RMW operation reads and writes a register in one indivisible access and returns the old value. -/
  | rmw (who : Who) (addr mask value : Word)
  /-- BURST_READ (R52): The BURST_READ operation reads COUNT words through an indirect window and stops with DOMAIN_OFF at a
  powered-down word. -/
  | burstRead (who : Who) (window start : Word) (count : Nat)
  /-- BURST_WRITE (R52): The BURST_WRITE operation writes COUNT words through an indirect window. -/
  | burstWrite (who : Who) (window start : Word) (data : List Word)
  /-- FENCE (R53): The FENCE operation waits until every frame whose lookup began before it has left the device or been
  discarded. -/
  | fence (who : Who)
  /-- FENCE_COMPLETE (R53): The frames a fence waits for are gone, so the rest of the fenced request resumes. -/
  | fenceComplete (ctx : Nat)
  /-- UPDATE_IMMEDIATE (R48): An UPDATE without TIMED strobes the named groups at once, unless one of them holds an armed
  strobe. -/
  | updateImmediate (who : Who) (groups : Nat)
  /-- UPDATE_TIMED (R49): An UPDATE with TIMED arms a strobe of the named groups for a Timekeeper time, or fires it at once
  with UPDATE_LATE if that time has passed. -/
  | updateTimed (who : Who) (groups : Nat) (sec ns : Nat)
  /-- UPDATE_CANCEL (R50): An UPDATE with CANCEL disarms every named group that the issuing context armed. -/
  | updateCancel (who : Who) (groups : Nat)
  /-- TIMED_STROBE_FIRE (R49): At the first Timekeeper tick at or after its armed time, an armed strobe fires. -/
  | timedStrobeFire (group : Nat)
  /-- EVENT_CLAIM (R384): EVENT_CLAIM makes a Pending source Claimed by its holder, or returns NOT_PENDING or NOT_TARGET. -/
  | eventClaim (who : Who) (source : Nat)
  /-- EVENT_COMPLETE (R385): EVENT_COMPLETE returns a Claimed source to Idle or Pending, or is ignored as a stray completion.
  -/
  | eventComplete (who : Who) (source : Nat)
  /-- BLOCK_RESET_PULSE (R103): A BLOCK_RESET pulse isolates each named block, holds it in reset for 64 cycles and then
  releases it. -/
  | blockResetPulse (who : Who) (mask : Nat)
  /-- BLOCK_RESET_HOLD (R103): A BLOCK_RESET hold isolates each named block and keeps it in reset until a release. -/
  | blockResetHold (who : Who) (mask : Nat)
  /-- BLOCK_RESET_RELEASE (R103): A BLOCK_RESET release releases each held block, or marks the release pending while the
  block is isolating. -/
  | blockResetRelease (who : Who) (mask : Nat)
  /-- ISOLATION_COMPLETE (R104): Isolation of a block completes, the frames inside it are discarded, and reset is asserted
  inside the wrapper. -/
  | isolationComplete (block : Nat)
  /-- RESET_PULSE_END (R103): The 64-cycle reset of a pulsed block ends, and its release (or a pending release) is started.
  -/
  | resetPulseEnd (block : Nat)
  /-- BLOCK_RELEASE (R108): The block's clock has been good for 32 stable cycles, so the block is released to RUN and its
  release event is raised. -/
  | blockRelease (block : Nat)
  /-- CLOCK_FAIL (R108): A release is abandoned when the clock is not good within 2 ms, and the block stays isolated with
  state CLOCK_FAIL. -/
  | clockFail (block : Nat)
  /-- FREE_LIST_REBUILD_DONE (R105): The Carafe free lists finish rebuilding after a release of block 17, and admission
  resumes. -/
  | freeListRebuildDone
  /-- SEQUENCE_CLEAR (R51): A write to an SQ register clears each flag written as 1 only when the written SEQ equals the
  current SEQ. -/
  | sequenceClear (who : Who) (addr data : Word)
  /-- IND_DATA_ACCESS (R52): An access to IND_DATA reads or writes the word at IND_ADDR and then increments IND_ADDR.  A read
  of a Carafe cell is the first to meet a single-bit (`some false`) or uncorrectable (`some true`) error there (R230). -/
  | indDataAccess (who : Who) (addr : Word) (write : Option Word) (ecc : Option Bool := none)
  /-- GUARD_SEAL (R58): Writing 1 to SEAL seals guard state until the next device reset and discards the pending guard
  shadows. -/
  | guardSeal (who : Who) (data : Word)
  /-- TIME_LATCH_READ (R309): A READ of TK_TIME_SEC_HI or TIO_PPS_IN_SEC_HI latches all four time words for the reading
  context. -/
  | timeLatchRead (who : Who) (addr : Word)
  /-- HOTPLATE_TICK (R122): On each 320 ns Hotplate tick, HOT_TICK advances and the wake scheduler starts up to WAKE_BUDGET
  domain transitions in class order. -/
  | hotplateTick (peerHigh : Bool)
  /-- DOMAIN_READY (R117): A waking domain completes its wake and is released by R108, and it applies any strobe it missed.
  -/
  | domainReady (domain : Nat)
  /-- DOMAIN_IDLE_SLEEP (R119): The sleep conditions of an AUTO domain have held for HOT_IDLE_TIME, so its sleep is queued.
  -/
  | domainIdleSleep (domain : Nat)
  /-- DOMAIN_SHUTDOWN_DONE (R121): A domain's drain and sleep end, and a held wake then enters the wake scheduler. -/
  | domainShutdownDone (domain : Nat)
  /-- DOMAIN_WAKE_CMD (R119): HOT_DOM_CMD with action wake queues a host-command wake of the named domain. -/
  | domainWakeCmd (who : Who) (data : Word)
  /-- DOMAIN_SLEEP_CMD (R121): HOT_DOM_CMD with action sleep drains the named domain and puts it to sleep, or is refused for
  a domain that is ON or held awake. -/
  | domainSleepCmd (who : Who) (data : Word)
  /-- DOM_MODE_WRITE (R119): A write of HOT_DOM_MODE_n changes domain modes, and queues a wake for each sleeping domain that
  it makes ON. -/
  | domModeWrite (who : Who) (addr data : Word)
  /-- DOZE_ENTRY (R124): A port with DOZE_EN has both directions in low-power idle with enough receive wake time, so its
  MAC/PCS domain turns off and its lane goes idle. -/
  | dozeEntry (port : Nat)
  /-- RX_WAKE_SIGNAL (R119): Receive wake signalling on a dozing port queues receive-class wakes of its domains and of its
  slice ingress. -/
  | rxWakeSignal (port : Nat)
  /-- TRANSMIT_PATH_SLEEP (R125): A port's transmit path goes to sleep when LEAD is set and no gate opens soon, after posting
  its next opening to the Hotplate. -/
  | transmitPathSleep (port : Nat)
  /-- GATE_LEAD_WAKE (R125): At the next gate opening less LEAD ticks, gate-lead wakes are queued for the sleeping domains on
  the transmit path. -/
  | gateLeadWake (port : Nat)
  /-- XO_LOST (R115): No XO_IN edge arrives for 1 µs, so the Hotplate runs on its backup oscillator and the blocks whose
  clocks fail are held in CLOCK_FAIL. -/
  | xoLost
  /-- XO_RETURN (R115): XO_IN returns, the PLLs relock, and the blocks held for that cause alone are released. -/
  | xoReturn
  /-- SREF_WINDOW (R114): A 1,024 µs count window of SREF0 or SREF1 against XO_IN ends, and the reference's good bit is
  cleared or set again. -/
  | srefWindow (ref count : Nat)
  /-- TEMP_SAMPLE (R459): Every 1 ms the on-die sensor updates DEV_TEMP and raises ALARM when the reading reaches
  DEV_TEMP_LIMIT. -/
  | tempSample (degrees : Int)
  /-- LANE_PLL_GOOD (R143): A lane PLL becomes good, so the lane moves from COLD to TRAINING or DOWN. -/
  | lanePllGood (lane : Nat)
  /-- TAP_UPDATE_REQUEST (R133): A training frame from the far receiver asks to move a transmitter tap, which is applied
  within 2 µs or answered with maximum or minimum. -/
  | tapUpdateRequest (lane tap : Nat) (up : Bool)
  /-- TRAINING_COMPLETE (R134): Both receivers are ready, so the lane holds its trained taps and enters DOWN. -/
  | trainingComplete (lane : Nat)
  /-- TRAINING_TIMEOUT (R134): Training has not ended after 500 ms, so TRAIN_FAIL is set and training restarts from the
  initialise taps. -/
  | trainingTimeout (lane : Nat)
  /-- LANE_SYNC_GAINED (R143): A lane gains code-group sync, block lock or stitch deskew, and reports link up to its MAC or
  stitch engine. -/
  | laneSyncGained (lane : Nat)
  /-- LANE_SYNC_LOST (R143): A lane in UP loses sync or CDR lock, sets LOCK_LOST and retrains or goes to DOWN. -/
  | laneSyncLost (lane : Nat)
  /-- LANE_WAKE_TIMEOUT (R143): A lane woken from IDLE has not reached UP within 10 µs, so it sets LOCK_LOST and retrains
  when TRAIN is 1. -/
  | laneWakeTimeout (lane : Nat)
  /-- ALIGNMENT_MARKER (R140): An alignment marker received on a stitch lane is checked against BIP3 and used for marker lock
  and deskew. -/
  | alignmentMarker (lane pos : Nat) (w0 w1 : Word) (bip : Nat)
  /-- RATE_MATCH_DELETE (R137): At the first gap in which a receive FIFO is more than three quarters full, one unit is
  deleted. -/
  | rateMatchDelete (lane sub fill : Nat) (gap : Nat := 2)
  /-- RATE_MATCH_INSERT (R137): At the first gap in which a receive FIFO is less than one quarter full, one unit is inserted.
  -/
  | rateMatchInsert (lane sub fill : Nat)
  /-- LANE_TEST_WRITE (R144): A write of LN_TEST selects loopback and PRBS and takes the lane to TEST, or back to COLD when
  it is zero. -/
  | laneTestWrite (who : Who) (lane : Nat) (data : Word)
  /-- PRBS_CLEAR (R144): Writing CLR in LN_TEST clears LN_PRBS_ERR. -/
  | prbsClear (who : Who) (lane : Nat) (data : Word)
  /-- TX_TAPS_WRITE (R135): A write of LN_TX_TAPS on an untrained lane sets the taps, clamped to their ranges and sum. -/
  | txTapsWrite (who : Who) (lane : Nat) (data : Word)
  /-- EYE_SCAN_START (R145): Writing START in LN_EYE_CMD starts an eye scan of 4,096 points, or ends it at once outside UP
  and TEST. -/
  | eyeScanStart (who : Who) (lane : Nat) (data : Word)
  /-- EYE_SCAN_DONE (R145): An eye scan completes, its counts are stored and EYE_DONE is set. -/
  | eyeScanDone (lane : Nat) (counts : List Word)
  /-- FRAME_START (R24): The first byte of a received frame arrives at B2 and is admitted for reception, or the frame is
  discarded whole for lack of credit. -/
  | frameStart (port half : Nat) (fifoErr : Bool)
  /-- FRAGMENT_RX (R163): A preemption mPacket (SMD-S or SMD-C fragment) is received and reassembled, or counted as an SMD or
  assembly error. -/
  | fragmentRx (port half smd frag : Nat) (data : Bytes) (final mcrcOk : Bool)
  /-- LOOKUP_START (R193): At the 96th byte or at end of frame, the parser and stages S0 to S4 resolve the frame, and the
  stream unit applies its window, policer and at-lookup duplicate decision. -/
  | lookupStart (port : Nat) (bytes : Bytes)
  /-- ADMISSION (R242): At the last slot boundary within 80 ns of the lookup start, each destination queue of the frame is
  admitted or refused against F, USED and EXCESS. -/
  | admission (port : Nat)
  /-- FCS_VERDICT (R245): The MAC's verdict on a received frame reaches the Carafe, the stream unit and the learning engine
  in one cycle, with all its consequences.  `err` is the error that fell in the frame (R138, R147, R151): 0 none, 1 a code error, 2 an
  overflow or underrun of a receive FIFO, 3 an uncorrectable FEC block. -/
  | fcsVerdict (port : Nat) (pre : Bool) (tail : Bytes) (err : Nat)
  /-- CARAFE_SLOT (R232): In each 4 ns slot, every feed writes its due cell to its bank and every drain reads its due cell,
  and the egress pipeline then edits the copy. -/
  | carafeSlot (rx : List (Nat × Bytes)) (ecc : List (Nat × Bool))
  /-- SCRUB_READ (R231): Every 1,024 ns, the scrubber reads one cell of each bank and writes back any cell that it corrected.
  -/
  | scrubRead (errs : List (Nat × Bool))
  /-- COPY_AGED (R253): A copy not yet begun exceeds MAX_RES, so it is discarded and counted in CAR_AGED. -/
  | copyAged (port queue pos : Nat)
  /-- SCHEDULER_SELECT (R261): When a port can accept a copy, its scheduler issues one candidate by strict priority, then by
  deficit round robin. -/
  | schedulerSelect (port : Nat)
  /-- TRANSMIT_START (R257): A copy begins at its ball time, with its timestamp, one-step insertion and transparent-clock
  correction applied. -/
  | transmitStart (port half : Nat)
  /-- PREEMPT (R162): Under hold or for an express frame, the MAC ends a preemptable frame's fragment at the first point that
  R160 allows. -/
  | preempt (port sent : Nat)
  /-- TRANSMIT_END (R263): A copy's last byte is sent, its shapers are charged, its queue charge and reference are released,
  and an overrun is counted if the gate had closed. -/
  | transmitEnd (port sent : Nat)
  /-- PORT_ENABLE (R171): Writing PORT_EN to 1 wakes the port's domains, releases TX_DISABLE and starts its lane, or sets
  EN_PENDING during a disable. -/
  | portEnable (who : Who) (port : Nat) (data : Word)
  /-- PORT_DISABLE (R172): Writing PORT_EN to 0 stops new queuing and starts the disable, which drains when DRAIN is 1. -/
  | portDisable (who : Who) (port : Nat) (data : Word)
  /-- DISABLE_DRAIN_LIMIT (R172): DRAIN_LIMIT expires during a disable, which ends the drain step. -/
  | disableDrainLimit (port : Nat)
  /-- DISABLE_END (R172): The disable completes its frame in progress, discards the queued frames, asserts TX_DISABLE, sets
  DISABLED and starts the link-down flush. -/
  | disableEnd (port : Nat)
  /-- LINK_UP (R171): A port's link comes up when its lane reaches UP and any auto-negotiation completes, which starts
  preemption verification. -/
  | linkUp (port speed : Nat)
  /-- LINK_DOWN (R174): A port's link goes down, so its frame in progress and queued frames are discarded and a link-down
  flush starts. -/
  | linkDown (port : Nat)
  /-- REMOTE_FAULT_RX (R155): Remote fault is received, so the MAC sends idle, sets FAULT and treats the link as down. -/
  | remoteFaultRx (port : Nat)
  /-- LOCAL_FAULT_RX (R155): Local fault is received, so the link is down and the MAC transmits remote fault. -/
  | localFaultRx (port : Nat)
  /-- VERIFY_MPACKET_RX (R159): A received verify mPacket is answered with a respond mPacket. -/
  | verifyMpacketRx (port : Nat)
  /-- RESPOND_MPACKET_RX (R159): A respond mPacket is received during verification, so verification succeeds. -/
  | respondMpacketRx (port : Nat)
  /-- VERIFY_TIMEOUT (R159): VERIFY_TIME passes without a response, so verification is retried, or fails after three
  attempts. -/
  | verifyTimeout (port : Nat)
  /-- TX_LPI_ENTRY (R169): The transmit queues have been empty for IDLE µs, so the MAC asserts transmit low-power idle. -/
  | txLpiEntry (port : Nat)
  /-- TX_LPI_EXIT (R169): A frame reaches a port in low-power idle, so the MAC ends LPI and transmits after TW_TX. -/
  | txLpiExit (port : Nat)
  /-- RX_LPI_CHANGE (R169): The partner enters or leaves receive low-power idle, which also sets or clears DORMANT_LANE on
  host lanes. -/
  | rxLpiChange (port : Nat) (lpi : Bool)
  /-- DRIP_BURST_WRITE (R198): A write of DRIP_BURST_c sets the bucket size and reduces a fuller bucket to it. -/
  | dripBurstWrite (who : Who) (ctx : Nat) (data : Word)
  /-- TABLE_READ (R210): The table command READ copies entry INDEX into the context's buffer. -/
  | tableRead (who : Who) (region index : Nat) (args : List Word)
  /-- TABLE_WRITE (R210): The table command WRITE writes the buffer to entry INDEX, subject to the guard check. -/
  | tableWrite (who : Who) (region index : Nat) (args : List Word)
  /-- TABLE_INSERT (R210): The table command INSERT replaces the entry with the buffer's key, or writes the lowest free slot
  or overflow entry, or returns FULL. -/
  | tableInsert (who : Who) (region : Nat) (args : List Word)
  /-- TABLE_LOOKUP (R210): The table command LOOKUP finds the buffer's key as a lookup does and copies the entry. -/
  | tableLookup (who : Who) (region : Nat) (args : List Word)
  /-- TABLE_DELETE (R210): The table command DELETE finds the buffer's key and zeroes the entry. -/
  | tableDelete (who : Who) (region : Nat) (args : List Word)
  /-- TABLE_NEXT (R210): The table command NEXT copies the first valid entry at or above INDEX. -/
  | tableNext (who : Who) (region index : Nat) (args : List Word)
  /-- TABLE_FLUSH (R222): The table command FLUSH starts the FDB flush sweep with the buffer's filter, or returns FLUSH_BUSY.
  -/
  | tableFlush (who : Who) (args : List Word)
  /-- TABLE_LOAD (R210): The table command LOAD copies its argument words into the buffer from OFFSET. -/
  | tableLoad (who : Who) (offset : Nat) (args : List Word)
  /-- TABLE_FETCH (R210): The table command FETCH returns buffer words from OFFSET. -/
  | tableFetch (who : Who) (offset count : Nat)
  /-- LEARN_COMMIT (R215): Every 10 ns the learning engine takes a request, re-reads its bucket, and creates, refreshes,
  moves or refuses the entry. -/
  | learnCommit
  /-- AGING_SWEEP (R221): The aging sweep visits each FDB index, advancing AGE or deleting entries whose AGE is 3. -/
  | agingSweep
  /-- FLUSH_SWEEP (R222): The flush sweep visits one bucket every 10 ns and then the overflow store, deletes matching
  entries, and sets FLUSH_DONE at its end. -/
  | flushSweep
  /-- GATE_ENTRY_START (R266): An entry of the operating gate list starts and sets the gates and hold by its OP. -/
  | gateEntryStart (port : Nat)
  /-- HOLD_ADVANCE (R268): HOLD_ADVANCE ns before a Set-And-Hold-MAC entry, hold is asserted at the MAC. -/
  | holdAdvance (port : Nat)
  /-- CONFIG_CHANGE (R271): At CHANGE_TIME, the administrative gate list becomes operating and starts at entry 0. -/
  | configChange (port : Nat)
  /-- NODE_RESET_SWEEP (R298): The node reset sweep clears ACT, or sets TAKE_ANY on idle node entries. -/
  | nodeResetSweep
  /-- RECORD_RESET_SWEEP (R298): The record reset sweep clears ACT, or sets TAKE_ANY on idle stream records with FRER
  recovery. -/
  | recordResetSweep
  /-- NODE_FORGET_SWEEP (R298): The node forget sweep ages node entries and deletes those whose AGE is 3. -/
  | nodeForgetSweep
  /-- LATENT_ERROR_SWEEP (R298): Each LE_PERIOD, entries whose LE_DIFF exceeds LE_LIMIT are reported as latent errors, and
  LE_DIFF is reset. -/
  | latentErrorSweep
  /-- TIMEKEEPER_TICK (R306): On each 4 ns time-PLL tick, the Timekeeper adds INCR to the time. -/
  | timekeeperTick
  /-- TIME_PLL_RELOCK (R310): The time PLL locks again after a loss, so TIME_LOST is set, the servo enters HOLDOVER and the
  automatic step is armed. -/
  | timePllRelock
  /-- SET (R331): TK_CMD SET makes the time equal to the step operand at the next tick. -/
  | set (who : Who) (data : Word)
  /-- ADD (R331): TK_CMD ADD moves the time forward by the step operand at the next tick. -/
  | add (who : Who) (data : Word)
  /-- SUBTRACT (R331): TK_CMD SUBTRACT moves the time back by the step operand at the next tick. -/
  | subtract (who : Who) (data : Word)
  /-- ARM_AUTO (R328): TK_CMD ARM_AUTO arms the automatic step. -/
  | armAuto (who : Who) (data : Word)
  /-- DISARM_AUTO (R328): TK_CMD DISARM_AUTO clears the automatic step. -/
  | disarmAuto (who : Who) (data : Word)
  /-- SYNC_RX (R325): A Sync from the parent gives a servo sample, or awaits its Follow_Up in a two-step domain. -/
  | syncRx (port : Nat) (frame : Bytes) (t : Nat)
  /-- FOLLOW_UP_RX (R324): A Follow_Up completes a two-step Sync sample, or is counted in TK_FU_MISMATCH. -/
  | followUpRx (port : Nat) (frame : Bytes)
  /-- ANNOUNCE_RX (R324): A parent Announce records its grandmasterIdentity and raises GM_CHANGE when that identity changes.
  -/
  | announceRx (port : Nat) (frame : Bytes)
  /-- DELAY_REQ_RX (R321): A Delay_Req on a MASTER port of an end-to-end domain is answered with a Delay_Resp. -/
  | delayReqRx (port : Nat) (frame : Bytes) (t : Nat)
  /-- DELAY_RESP_RX (R321): A Delay_Resp on the parent port gives a path-delay sample, filtered into TK_PATH_DELAY. -/
  | delayRespRx (port : Nat) (frame : Bytes)
  /-- PDELAY_REQ_RX (R319): A Pdelay_Req on a port with PD_RESP set is answered with Pdelay_Resp, one-step or two-step. -/
  | pdelayReqRx (port : Nat) (frame : Bytes) (t : Nat)
  /-- PDELAY_RESP_RX (R320): A Pdelay_Resp answering this port's request gives a link-delay sample, or awaits its follow-up.
  -/
  | pdelayRespRx (port : Nat) (frame : Bytes) (t : Nat)
  /-- PDELAY_RESP_FOLLOW_UP_RX (R320): A Pdelay_Resp_Follow_Up completes a two-step peer-delay sample. -/
  | pdelayRespFollowUpRx (port : Nat) (frame : Bytes)
  /-- FOLLOW_UP_SEND (R322): Once its Sync's t1 is taken, a two-step Follow_Up is sent carrying t1. -/
  | followUpSend
  /-- PDELAY_RESP_FOLLOW_UP_SEND (R319): Once t3 is taken, a two-step responder sends Pdelay_Resp_Follow_Up. -/
  | pdelayRespFollowUpSend
  /-- SYNC_DUE (R322): At each Sync interval, Sync is sent on every MASTER port of a boundary-clock domain. -/
  | syncDue (dom : Nat)
  /-- ANNOUNCE_DUE (R322): At each Announce interval, an Announce built from the template is sent on every MASTER port. -/
  | announceDue (dom : Nat)
  /-- PDELAY_REQ_DUE (R320): Every 2^LOG_PDELAY s, a port with PD_EN sends a Pdelay_Req and counts a lost previous request.
  -/
  | pdelayReqDue (port : Nat)
  /-- DELAY_REQ_DUE (R321): Every 2^LOG_DELAY_REQ s, a Delay_Req is sent on the parent port of an end-to-end parent domain.
  -/
  | delayReqDue (dom : Nat)
  /-- SYNC_LOST (R324): No Sync arrives for 3 intervals, so SYNC_LOST is set and the servo enters HOLDOVER. -/
  | syncLost (dom : Nat)
  /-- ANN_LOST (R324): No Announce arrives for ANN_TIMEOUT intervals, so ANN_LOST is set and the servo enters HOLDOVER. -/
  | annLost (dom : Nat)
  /-- PPS_IN_EDGE (R332): A selected PPS_IN edge is timestamped and accepted (giving a sample when SRC is 2), or ignored as a
  glitch. -/
  | ppsInEdge (half : Nat)
  /-- PPS_IN_LOST (R332): No accepted PPS_IN edge arrives for 1.5 s, so PPS_IN_LOST is set. -/
  | ppsInLost
  /-- PPS_OUT_EDGE (R333): A PPS_OUTn edge falls due at a second boundary plus TIO_ADJ, or WIDTH later, and OUT_CORR slews.
  -/
  | ppsOutEdge (output : Nat)
  /-- IRIG_FRAME (R335): An IRIG-B frame starts at a second boundary, carrying the time, its control functions and any leap
  second. -/
  | irigFrame
  /-- ENDPOINT_FRAME (R345): A launch frame from the host is accepted into the launch store ordered by T, or is refused. -/
  | endpointFrame (lane : Nat) (frame : Bytes)
  /-- LAUNCH_HANDOFF (R347): At T − LEAD, a launch leaves the store and is handed to admission on feed 11. -/
  | launchHandoff
  /-- LAUNCH_LATE (R349): A launch copy has not begun by T + LATE_TOL, so it is discarded, or sent late and counted. -/
  | launchLate (port queue pos : Nat)
  /-- LINE_FRAME_TX (R362): At each 125 µs frame instant, a C37.94 frame is sent on LC_TX from the next jitter-buffer slot.
  -/
  | lineFrameTx (chan : Nat)
  /-- LINE_FRAME_RX (R366): A received C37.94 frame moves the framer's state and its data is delivered toward the packet
  side. -/
  | lineFrameRx (chan cands : Nat) (hdrErr : Bool) (n : Nat) (rdi : Bool) (data : Bytes)
  /-- DEFECT_SAMPLE (R368): Every 125 µs the defect raw conditions are sampled, and defects are declared or cleared. -/
  | defectSample (chan : Nat) (los ais : Bool)
  /-- CE_PACKET_FORM (R370): Every F frames, a circuit-emulation packet is formed and handed to feed 11. -/
  | cePacketForm (chan : Nat)
  /-- CE_PACKET_RX (R375): A circuit-emulation packet from ingress port `port` that reaches a channel is placed in the jitter
  buffer, or discarded as late, overrun, duplicate or bad length. -/
  | cePacketRx (frame : Bytes) (port : Nat := 130)
  /-- CHANNEL_BUFFER_RETRY (R377): Every 125 µs, a failed ring-buffer request is retried. -/
  | channelBufferRetry (chan : Nat)
  /-- CHANNEL_DISABLE (R377): A line channel's disable runs to completion at the end of the frame in progress. -/
  | channelDisable (chan : Nat)
  /-- OFFER_SEND (R391): An offer frame of up to 8 records is formed for a context and handed to the MAC, which starts the
  offer timers. -/
  | offerSend (ctx : Nat)
  /-- OFFER_TIMEOUT (R392): An outstanding offer times out and is withdrawn, and its source is offered again to its current
  target. -/
  | offerTimeout (source : Nat)
  /-- OFFER_NOBUF_RETRY (R394): Every 1 µs after a failed buffer request, formation of an offer frame is retried. -/
  | offerNobufRetry (ctx : Nat)
  /-- SET_DORMANT_HOST (R388): EVT_CTX_CMD with action 0b01 sets DORMANT_HOST of a context. -/
  | setDormantHost (who : Who) (data : Word)
  /-- CLEAR_DORMANT_HOST (R389): EVT_CTX_CMD with action 0b10 clears DORMANT_HOST, and the context is offered its Pending
  sources. -/
  | clearDormantHost (who : Who) (data : Word)
  /-- TARGET_WRITE (R387): A write of an EVT_TGT_n field retargets sources and offers Pending, unoffered ones to the new
  target. -/
  | targetWrite (who : Who) (addr data : Word)
  /-- DELIVER_EN_WRITE (R390): A write of DELIVER_EN stops offers, or resumes them and offers every Pending source that has
  no outstanding offer. -/
  | deliverEnWrite (who : Who) (data : Word)
  /-- COUNTER_SWEEP_SLOT (R403): Every 32 ns the collector copies one counter, or one chained pair, into its mirror. -/
  | counterSweepSlot
  /-- COUNTER_LATCH_READ (R405): A READ of PCT_VAL_HI_b_i latches the counter's mirror, or the chained pair, for the reading
  context. -/
  | counterLatchRead (who : Who) (addr : Word)
  /-- CLEAR_COUNTERS (R401): PCT_CMD action 0b01 clears the named counters. -/
  | clearCounters (who : Who) (data : Word)
  /-- CLEAR_PEAKS (R406): PCT_CMD action 0b10 clears every bandwidth peak. -/
  | clearPeaks (who : Who) (data : Word)
  /-- BANDWIDTH_WINDOW_END (R406): At each window end, every port's totals are written and its peaks are raised. -/
  | bandwidthWindowEnd
  /-- TELEMETRY_EXPORT (R407): At each PERIOD, an export of counter and bandwidth records is built and handed to feed 10, or
  skipped. -/
  | telemetryExport (busy : Bool)
  /-- PIN_HEARTBEAT (R412): HB_OUT toggles on its 250 µs grid while the device is Running. -/
  | pinHeartbeat
  /-- HEARTBEAT_SEND (R412): Every 100 µs, a HEARTBEAT message is sent on S0. -/
  | heartbeatSend
  /-- HB_IN_EDGE (R412): An edge on HB_IN is a pin-path heartbeat event, which clears a failure and sets PEER_BACK. -/
  | hbInEdge
  /-- HEARTBEAT (R430): A received HEARTBEAT is a link-path heartbeat event and reports the peer's role, which may trigger a
  claim or a DUAL_CLAIM. -/
  | heartbeat (link half : Nat) (msg : Bytes)
  /-- PATH_SILENT (R413): A heartbeat path has had no event for FAIL_TIME, so Degraded or Failure is declared. -/
  | pathSilent (pin : Bool)
  /-- ROLE_CLAIM (R414): A claim trigger holds and PEER_CLAIM_N has read high for 157 ticks, so the standby drives
  ROLE_CLAIM_N low and enters CLAIMING. -/
  | roleClaim
  /-- CLAIM_RESOLVE (R414): 63 ticks after a claim, PEER_CLAIM_N decides ACTIVE, continued claiming or DUAL_CLAIM back to
  STANDBY. -/
  | claimResolve
  /-- FLASH_POLL (R421): Every 100 µs after takeover, the shared flash's status is polled until ready, when authority is
  taken. -/
  | flashPoll (ready : Bool)
  /-- FLASH_RESET_TIMEOUT (R421): The flash is still busy 8 ms after takeover, so the JEDEC reset commands are sent. -/
  | flashResetTimeout
  /-- HANDOVER (R414): TWN_CMD HANDOVER takes the active device to RELEASING and sends a snapshot. -/
  | handover (who : Who) (data : Word)
  /-- ROLE_RELEASE (R414): The snapshot has been sent and the output in progress has ended, so the device releases its role
  and enters STANDBY. -/
  | roleRelease
  /-- SNAPSHOT_DUE (R417): At each SNAP_PERIOD, the active device takes a snapshot and sends it on S0 in SNAPSHOT messages.
  -/
  | snapshotDue
  /-- SNAP_NOW (R417): TWN_CMD SNAP_NOW takes and sends a snapshot at once. -/
  | snapNow (who : Who) (data : Word)
  /-- SNAPSHOT (R417): A received SNAPSHOT message is written into the spare buffer, which becomes the latest valid snapshot
  when the record is complete and good. -/
  | snapshot (link half : Nat) (msg : Bytes)
  /-- SELFTEST_DUE (R425): Every ST_PERIOD, the self-test round runs and its health report is written and sent. -/
  | selftestDue (meas : Measured)
  /-- SELFTEST_NOW (R425): TWN_CMD SELFTEST_NOW runs a self-test round at once. -/
  | selftestNow (who : Who) (data : Word) (meas : Measured)
  /-- HEALTH (R425): A received HEALTH message is stored in TWN_PEER_HEALTH. -/
  | health (link half : Nat) (msg : Bytes)
  /-- SEG (R427): A stitch segment with its data blocks is received and carries part of a frame or a message, or ends a frame
  with BAD. -/
  | seg (link half : Nat) (w0 : Word) (data : Bytes) (fifoErr : Bool := false)
  /-- CREDIT (R428): A received CREDIT block restores a link's DATA and MSG credits, and the first one brings the link up. -/
  | credit (link : Nat) (w0 : Word)
  /-- CREDIT_DUE (R427): A CREDIT block is sent when enough cells or messages have been freed, or after 1 µs. -/
  | creditDue (link : Nat)
  /-- STITCH_LINK_TIMEOUT (R431): No CREDIT block arrives for 10 µs, so the stitch link goes down and the frames in progress
  are found bad. -/
  | stitchLinkTimeout (link : Nat)
  /-- TIME_SEND (R432): At each whole millisecond, a TIME message is sent on every stitch link that is up. -/
  | timeSend (link half : Nat)
  /-- TIME (R432): A received TIME message completes a set from which the link offset and delay are computed. -/
  | time (link half : Nat) (msg : Bytes)
  /-- LEARN (R224): A received LEARN message puts each of its notices into the learning queue as a learn request. -/
  | learn (link half : Nat) (msg : Bytes)
  /-- IMAGE_BLOCK (R434): A received IMAGE_BLOCK adds image bytes during a stitch-link boot, and the image is checked at its
  end. -/
  | imageBlock (link half : Nat) (msg : Bytes)
  /-- IMAGE_ACK (R434): A received IMAGE_ACK makes the sending twin continue or resume image passing from the byte expected.
  -/
  | imageAck (link half : Nat) (msg : Bytes)
  /-- IMAGE_ACK_DUE (R434): Every 10 ms, a device in a stitch-link boot sends IMAGE_ACK with OFFSET 0 until blocks arrive. -/
  | imageAckDue
  /-- FLASH_READ (R424): TWN_FLASH_CMD READ reads LEN bytes of flash into TWN_FLASH_BUF, or returns NOT_AUTHORITY. -/
  | flashRead (who : Who) (data : Word)
  /-- FLASH_PROGRAM (R424): TWN_FLASH_CMD PROGRAM programs one page from TWN_FLASH_BUF. -/
  | flashProgram (who : Who) (data : Word)
  /-- FLASH_ERASE_4K (R424): TWN_FLASH_CMD ERASE_4K erases 4 KiB at TWN_FLASH_ADDR. -/
  | flashErase4k (who : Who) (data : Word)
  /-- FLASH_ERASE_64K (R424): TWN_FLASH_CMD ERASE_64K erases 64 KiB at TWN_FLASH_ADDR. -/
  | flashErase64k (who : Who) (data : Word)
  /-- FLASH_OP_DONE (R424): A flash operation completes, so BUSY clears and RESULT is set. -/
  | flashOpDone (timeout : Bool) (data : Bytes)
  /-- PTP_ENGINE_RETRY (R357): Every 1 µs after a failed local-store request, the PTP engine retries the request, and it
  skips a Sync or Announce whose allowance of R322 has passed. -/
  | ptpEngineRetry
  /-- LEARN_MESSAGE_DUE (R433): The stitch engine sends a LEARN message carrying the notices it has gathered once 8 notices
  have accumulated or 1 µs has passed. -/
  | learnMessageDue (link : Nat)
  /-- LOS_RAW (R366): When LC_RX[c] has had no transition for 32 bit periods, the LOS raw condition arises, and a framer in
  SYNC drops to HUNT. -/
  | losRaw (chan : Nat)
  /-- TCK_EDGE (R457): An edge on TCK steps the IEEE 1149.1 test access port, which may capture or drive balls under
  SAMPLE/PRELOAD, EXTEST, EXTEST_PULSE or EXTEST_TRAIN unless TRST_N is low. -/
  | tckEdge (rising tms tdi trst : Bool)
deriving DecidableEq, Repr

end Sys2Proof
end

