-- ==== Sys2Proof/Decode.lean ====
section
/-!
DEFINITION. Decode.lean: the command that a word spells by the bits of opcode_table.json.  The table gives no row any field or
bits, so no word spells a command.
-/
namespace Sys2Proof

/-- No row of the table has bits: no word of any length spells a command. -/
def decodeTableWord (_nbits _w : Nat) : Option Instr := none

end Sys2Proof
end

