-- ==== Sys2Proof/Machine/Bits.lean ====
section
/-!
DEFINITION. Machine/Bits.lean: bit fields, byte order, signed readings and the sparse maps that State
holds its memories and its per-port, per-lane and per-block records in.
-/
namespace Sys2Proof.Machine

/-! ## Fields of words (00_scope.md, "Writing conventions") -/

/-- The field of `n` bits at bit `lo` of a word. -/
def fld (w : Word) (lo n : Nat) : Nat := (w.toNat >>> lo) % 2 ^ n

/-- Bit `i` of a word. -/
def tst (w : Word) (i : Nat) : Bool := w.toNat.testBit i

/-- A word that is zero but for value `v` in the field of `n` bits at bit `lo`. -/
def put (lo n v : Nat) : Word := BitVec.ofNat 32 ((v % 2 ^ n) <<< lo)

/-- A word that is zero but for bit `i`, which is `b`. -/
def bitw (i : Nat) (b : Bool) : Word := if b then BitVec.ofNat 32 (1 <<< i) else 0

/-- `w` with value `v` in the field of `n` bits at bit `lo`. -/
def setFld (w : Word) (lo n v : Nat) : Word :=
  (w &&& ~~~ BitVec.ofNat 32 ((2 ^ n - 1) <<< lo)) ||| put lo n v

/-- 1 for true, 0 for false. -/
def b2n (b : Bool) : Nat := if b then 1 else 0

/-- The low `n` bits of a number. -/
def low (n v : Nat) : Nat := v % 2 ^ n

/-- Bit `i` of a number. -/
def nbit (v i : Nat) : Bool := v.testBit i

/-- Bits `lo` up to `lo + n - 1` of a number. -/
def nfld (v lo n : Nat) : Nat := (v >>> lo) % 2 ^ n

/-- A number of `n` bits read as two's complement. -/
def sgn (n v : Nat) : Int :=
  let u := v % 2 ^ n
  if u < 2 ^ (n - 1) then (u : Int) else (u : Int) - (2 ^ n : Nat)

/-- An integer as `n` bits, two's complement. -/
def unsgn (n : Nat) (v : Int) : Nat := (v % ((2 ^ n : Nat) : Int)).toNat

/-- An integer as a word. -/
def wOfInt (v : Int) : Word := BitVec.ofNat 32 (unsgn 32 v)

/-- A number as a word. -/
def wd (v : Nat) : Word := BitVec.ofNat 32 v

/-- The quotient rounded up. -/
def ceilDiv (a b : Nat) : Nat := if b = 0 then 0 else (a + b - 1) / b

/-! ## Byte order (R11) -/

/-- The number that a byte string spells, most significant byte first. -/
def be (bs : Bytes) : Nat := bs.foldl (fun a b => a * 256 + b.toNat) 0

/-- `n` bytes that spell `v`, most significant byte first. -/
def beBytes : Nat → Nat → Bytes
  | 0, _ => []
  | n + 1, v => BitVec.ofNat 8 (v >>> (8 * n)) :: beBytes n v

/-- The `n` bytes of a frame from byte `o` (a byte beyond the end reads as zero). -/
def slice (bs : Bytes) (o n : Nat) : Bytes :=
  let t := (bs.drop o).take n
  t ++ List.replicate (n - t.length) 0

/-- The number that bytes `o` to `o + n - 1` of a frame spell. -/
def beAt (bs : Bytes) (o n : Nat) : Nat := be (slice bs o n)

/-- Word `i` of a byte string (R11). -/
def wordAt (bs : Bytes) (i : Nat) : Word := BitVec.ofNat 32 (beAt bs (4 * i) 4)

/-- The four bytes of a word, in the order of R11. -/
def wBytes (w : Word) : Bytes := beBytes 4 w.toNat

/-- The bytes of a list of words, in the order of R11. -/
def wsBytes (ws : List Word) : Bytes := ws.flatMap wBytes

/-- The words of a byte string, at most `n` of them. -/
def bytesWs : Nat → Bytes → List Word
  | 0, _ => []
  | n + 1, bs => if bs = [] then [] else BitVec.ofNat 32 (beAt bs 0 4) :: bytesWs n (bs.drop 4)

/-- A byte string with the bytes `v` in place of those from byte `o`. -/
def patch (bs : Bytes) (o : Nat) (v : Bytes) : Bytes :=
  bs.take o ++ (v.take (bs.length - o)) ++ bs.drop (o + v.length)

/-! ## Sparse maps keyed by numbers, in one canonical form: keys strictly rising -/

/-- What a sparse map lists at key `k`. -/
def mfind {α : Type} : List (Nat × α) → Nat → Option α
  | [], _ => none
  | (a, x) :: t, k => if a = k then some x else mfind t k

/-- What a sparse map holds at key `k`, `d` where it lists nothing. -/
def mget {α : Type} (d : α) (m : List (Nat × α)) (k : Nat) : α := (mfind m k).getD d

/-- A sparse map with `v` listed at key `k`. -/
def mins {α : Type} : List (Nat × α) → Nat → α → List (Nat × α)
  | [], k, v => [(k, v)]
  | (a, x) :: t, k, v =>
    if k < a then (k, v) :: (a, x) :: t
    else if k = a then (k, v) :: t
    else (a, x) :: mins t k v

/-- A sparse map with nothing listed at key `k`. -/
def mdel {α : Type} : List (Nat × α) → Nat → List (Nat × α)
  | [], _ => []
  | (a, x) :: t, k => if a = k then mdel t k else (a, x) :: mdel t k

/-- A sparse map that holds `v` at key `k`: an entry equal to the default is not listed. -/
def mput {α : Type} [DecidableEq α] (d : α) (m : List (Nat × α)) (k : Nat) (v : α) : List (Nat × α) :=
  if v = d then mdel m k else mins m k v

/-- A sparse map with `f` applied to what it holds at key `k`. -/
def mmod {α : Type} [DecidableEq α] (d : α) (m : List (Nat × α)) (k : Nat) (f : α → α) : List (Nat × α) :=
  mput d m k (f (mget d m k))

/-- The keys of a sparse map rise strictly and no entry is the default. -/
def mwf {α : Type} [DecidableEq α] (d : α) : List (Nat × α) → Bool
  | [] => true
  | [(_, x)] => decide (x ≠ d)
  | (a, x) :: (b, y) :: t => decide (x ≠ d) && decide (a < b) && mwf d ((b, y) :: t)

/-! ## Lists -/

/-- The list with the element at place `i` replaced. -/
def setAt {α : Type} : List α → Nat → α → List α
  | [], _, _ => []
  | _ :: t, 0, v => v :: t
  | a :: t, i + 1, v => a :: setAt t i v

/-- The first place in a list where `p` holds. -/
def findIdx {α : Type} (p : α → Bool) : List α → Nat → Option Nat
  | [], _ => none
  | a :: t, n => if p a then some n else findIdx p t (n + 1)

/-- The sum of a list of numbers. -/
def sumN (l : List Nat) : Nat := l.foldl (· + ·) 0

/-- The greatest of a list of numbers, 0 for none. -/
def maxN (l : List Nat) : Nat := l.foldl max 0

/-- The places `0 ≤ i < n` of the bits that are 1 in `v`. -/
def onesOf (n v : Nat) : List Nat := (List.range n).filter (fun i => v.testBit i)

end Sys2Proof.Machine
end

