-- ==== Sys2Proof/Machine/Crypto.lean ====
section
/-!
DEFINITION. Machine/Crypto.lean: the checks the spec names by their public standards: the CRC-32 of the
IEEE 802.3 FCS (R63), SHA-256 and ECDSA on curve P-256 (R64), AES-128-CMAC (R56), and the CRC-16 the
stitch headers use.  PRESUMED: the algorithms themselves are those of FIPS 180-4, FIPS 186-4, FIPS 197 and
RFC 4493; the spec names them and gives none of their constants but the CRC-32's.
-/
namespace Sys2Proof.Machine

/-! ## CRC-32 (R63) -/

/-- `n` bit steps of the reflected CRC-32. -/
def crc32Bits : Nat → Nat → Nat
  | 0, c => c
  | n + 1, c => crc32Bits n (if c.testBit 0 then (c >>> 1) ^^^ 0xEDB88320 else c >>> 1)

/-- The CRC register after a byte string. -/
def crc32Reg (c : Nat) (bs : Bytes) : Nat := bs.foldl (fun a b => crc32Bits 8 (a ^^^ b.toNat)) c

/-- CRC-32: initial value all ones, reflected, final complement (R63). -/
def crc32 (bs : Bytes) : Nat := crc32Reg 0xFFFFFFFF bs ^^^ 0xFFFFFFFF

/-- The four FCS bytes that follow a frame's bytes on the wire (IEEE 802.3: the low byte of the register first). -/
def fcsBytes (bs : Bytes) : Bytes := (beBytes 4 (crc32 bs)).reverse

/-- A frame, FCS included, has a good FCS. -/
def fcsGood (bs : Bytes) : Bool := decide (4 ≤ bs.length) && bs.drop (bs.length - 4) == fcsBytes (bs.take (bs.length - 4))

/-! ## CRC-16 of polynomial 0x1021 -/

/-- `n` bit steps of the CRC-16. -/
def crc16Bits : Nat → Nat → Nat
  | 0, c => c
  | n + 1, c => crc16Bits n (if c.testBit 15 then ((c <<< 1) ^^^ 0x1021) % 65536 else (c <<< 1) % 65536)

/-- CRC-16 with initial value `init`, most significant bit first. -/
def crc16 (init : Nat) (bs : Bytes) : Nat := bs.foldl (fun a b => crc16Bits 8 (a ^^^ (b.toNat <<< 8))) init

/-! ## SHA-256 (R64) -/

/-- The greatest number below `2 ^ n` added to `r` whose power `e` is at most `v`: a root, one bit at a time. -/
def rootBits (e v : Nat) : Nat → Nat → Nat
  | 0, r => r
  | n + 1, r => rootBits e v n (if (r + 2 ^ n) ^ e ≤ v then r + 2 ^ n else r)

/-- The first 32 bits of the fractional part of the `e`-th root of `p`, for roots below 32. -/
def rootFrac (e p : Nat) : Nat := rootBits e (p * 2 ^ (32 * e)) 37 0 % 2 ^ 32

/-- The primes below 312, 64 of them. -/
def primes64 : List Nat := (List.range 312).filter (fun n => 2 ≤ n && ((List.range 18).drop 2).all (fun d => d ≥ n || n % d != 0))

/-- The round constants: FIPS 180-4 takes them from the cube roots of the first 64 primes. -/
def shaConsts : List Word := primes64.map (fun p => wd (rootFrac 3 p))

/-- The hash before the first block: FIPS 180-4 takes it from the square roots of the first eight primes. -/
def shaInit : List Word := (primes64.take 8).map (fun p => wd (rootFrac 2 p))

/-- Exclusive or of a word's rotations to the right. -/
def rotMix (x : Word) (ns : List Nat) : Word := ns.foldl (fun y n => y ^^^ x.rotateRight n) 0

/-- The last 16 words of the message schedule, newest first, one word later. -/
def shaNext (w : List Word) : List Word :=
  let old := w.getD 14 0
  let new := w.getD 1 0
  ((rotMix old [7, 18] ^^^ (old >>> 3)) + (rotMix new [17, 19] ^^^ (new >>> 10)) + w.getD 15 0 + w.getD 6 0) :: w.take 15

/-- One round on the hash's eight words, with the sum of its constant and its schedule word. -/
def shaStep : List Word → Word → List Word
  | [a, b, c, d, e, f, g, h], kw =>
    let t := kw + h + rotMix e [6, 11, 25] + (((f ^^^ g) &&& e) ^^^ g)
    [t + rotMix a [2, 13, 22] + ((a &&& b) ||| ((a ||| b) &&& c)), a, b, c, d + t, e, f, g]
  | st, _ => st

/-- The rounds of one block: the constants left, the schedule's last 16 words, newest first, and the eight words. -/
def shaRounds : List Word → List Word → List Word → List Word
  | [], _, st => st
  | k :: ks, w, st => shaRounds ks (shaNext w) (shaStep st (k + w.getD 15 0))

/-- The hash after the blocks of 64 bytes that fill `n`. -/
def shaFold : Nat → List Word → Bytes → List Word
  | 0, st, _ => st
  | n + 1, st, m => shaFold n (List.zipWith (· + ·) st (shaRounds shaConsts (bytesWs 16 m).reverse st)) (m.drop 64)

/-- SHA-256, as a number of 256 bits. -/
def sha256 (bs : Bytes) : Nat :=
  let blocks := (bs.length + 72) / 64
  let tail := beBytes (64 * blocks - bs.length) (2 ^ (8 * (64 * blocks - bs.length) - 1) + 8 * bs.length)
  be (wsBytes (shaFold blocks shaInit (bs ++ tail)))

/-! ## ECDSA on P-256 (R64) -/

/-- The field prime of P-256. -/
def pP : Nat := 0xffffffff00000001000000000000000000000000ffffffffffffffffffffffff
/-- The order of the base point. -/
def pN : Nat := 0xffffffff00000000ffffffffffffffffbce6faada7179e84f3b9cac2fc632551
/-- The curve's coefficient b. -/
def pB : Nat := 0x5ac635d8aa3a93e7b3ebbd55769886bc651d06b0cc53b0f63bce3c3e27d2604b
/-- The base point. -/
def pG : Nat × Nat :=
  (0x6b17d1f2e12c4247f8bce6e563a440f277037d812deb33a0f4a13945d898c296,
   0x4fe342e2fe1a7f9b8ee7eb4a7c0f9e162bce33576b315ececbb6406837bf51f5)

/-- `b ^ e` modulo `m`, for an exponent of at most `n` bits. -/
def powMod (m : Nat) : Nat → Nat → Nat → Nat
  | 0, _, _ => 1 % m
  | n + 1, b, e =>
    let h := powMod m n (b * b % m) (e / 2)
    if e % 2 = 1 then h * b % m else h

/-- The inverse modulo a prime. -/
def invMod (m a : Nat) : Nat := powMod m 256 (a % m) (m - 2)

/-- The sum of two points; `none` is the point at infinity. -/
def ptAdd (a b : Option (Nat × Nat)) : Option (Nat × Nat) :=
  match a, b with
  | none, q => q
  | p, none => p
  | some (x1, y1), some (x2, y2) =>
    if x1 = x2 ∧ (y1 + y2) % pP = 0 then none
    else
      let l := if x1 = x2 then (3 * x1 * x1 + (pP - 3)) * invMod pP (2 * y1) % pP
        else (y2 + pP - y1) * invMod pP (x2 + pP - x1) % pP
      let x3 := (l * l + 2 * pP - x1 - x2) % pP
      some (x3, (l * (x1 + pP - x3) + pP - y1) % pP)

/-- `k` times a point, for `k` of at most `n` bits. -/
def ptMul : Nat → Nat → Option (Nat × Nat) → Option (Nat × Nat)
  | 0, _, _ => none
  | n + 1, k, p =>
    let h := ptMul n (k / 2) (ptAdd p p)
    if k % 2 = 1 then ptAdd p h else h

/-- ECDSA verification of digest `e` with key (x, y) and signature (r, s). -/
def ecdsaOk (x y r s e : Nat) : Bool :=
  if r = 0 ∨ r ≥ pN ∨ s = 0 ∨ s ≥ pN ∨ x ≥ pP ∨ y ≥ pP then false
  else if y * y % pP ≠ (x * x * x + (pP - 3) * x + pB) % pP then false
  else
    let w := invMod pN s
    match ptAdd (ptMul 256 (e * w % pN) (some pG)) (ptMul 256 (r * w % pN) (some (x, y))) with
    | none => false
    | some (vx, _) => vx % pN == r

/-- The signature block of an image verifies against ROAST_KEY_HASH (R64). -/
def signatureOk (keyHash : Nat) (img blk : Bytes) : Bool :=
  sha256 (blk.take 64) == keyHash &&
  ecdsaOk (beAt blk 0 32) (beAt blk 32 32) (beAt blk 64 32) (beAt blk 96 32) (sha256 img)

/-! ## AES-128-CMAC (R56) -/

/-- Multiplication by x in GF(2^8). -/
def xtime (a : Nat) : Nat := if a.testBit 7 then ((a <<< 1) ^^^ 0x11B) % 256 else a <<< 1

/-- Multiplication in GF(2^8), over the low `n` bits of `b`. -/
def gmul : Nat → Nat → Nat → Nat
  | 0, _, _ => 0
  | n + 1, a, b => (if b.testBit 0 then a else 0) ^^^ gmul n (xtime a) (b >>> 1)

/-- `a ^ (2 ^ n - 2)`: with n = 8 the inverse in GF(2^8). -/
def ginv : Nat → Nat → Nat
  | 0, _ => 1
  | n + 1, a => if n = 0 then 1 else
    let q := gmul 8 a a
    gmul 8 q (ginv n q)

/-- The AES S-box (FIPS 197). -/
def sbox (a : Nat) : Nat :=
  let b := ginv 8 a
  let r (n : Nat) : Nat := ((b <<< n) ||| (b >>> (8 - n))) % 256
  b ^^^ r 1 ^^^ r 2 ^^^ r 3 ^^^ r 4 ^^^ 0x63

/-- Exclusive or of two byte lists. -/
def xorL (a b : List Nat) : List Nat := List.zipWith (· ^^^ ·) a b

/-- The next round key. -/
def nextKey (k : List Nat) (rc : Nat) : List Nat :=
  let g (i : Nat) : Nat := k.getD i 0
  let w0 := xorL (k.take 4) [sbox (g 13) ^^^ rc, sbox (g 14), sbox (g 15), sbox (g 12)]
  let w1 := xorL ((k.drop 4).take 4) w0
  let w2 := xorL ((k.drop 8).take 4) w1
  let w3 := xorL ((k.drop 12).take 4) w2
  w0 ++ w1 ++ w2 ++ w3

/-- The column mixing of one column. -/
def mixCol (c : List Nat) : List Nat :=
  let g (i : Nat) : Nat := c.getD (i % 4) 0
  (List.range 4).map (fun i => gmul 8 (g i) 2 ^^^ gmul 8 (g (i + 1)) 3 ^^^ g (i + 2) ^^^ g (i + 3))

/-- The rounds from key `k`, the last without column mixing. -/
def aesRounds : List Nat → List Nat → List Nat → List Nat
  | [], _, st => st
  | rc :: t, k, st =>
    let k' := nextKey k rc
    let sub := st.map sbox
    let sh := (List.range 16).map (fun i => sub.getD ((i + 4 * (i % 4)) % 16) 0)
    let mx := if t = [] then sh
      else mixCol (sh.take 4) ++ mixCol ((sh.drop 4).take 4) ++ mixCol ((sh.drop 8).take 4) ++ mixCol (sh.drop 12)
    aesRounds t k' (xorL mx k')

/-- AES-128 of one block of 16 bytes. -/
def aes (key blk : List Nat) : List Nat :=
  aesRounds [1, 2, 4, 8, 16, 32, 64, 128, 0x1B, 0x36] key (xorL blk key)

/-- The bytes of a 128-bit number. -/
def bytes16 (v : Nat) : List Nat := (beBytes 16 v).map (·.toNat)

/-- The number that 16 bytes spell. -/
def num16 (l : List Nat) : Nat := l.foldl (fun a b => a * 256 + b) 0

/-- The doubling of a CMAC subkey. -/
def cmacDbl (v : Nat) : Nat := if v.testBit 127 then (v * 2) % 2 ^ 128 ^^^ 0x87 else v * 2

/-- The CBC chain over `n` blocks. -/
def cbc (key : List Nat) : Nat → List Nat → List Nat → List Nat
  | 0, c, _ => c
  | n + 1, c, m => cbc key n (aes key (xorL c (m.take 16))) (m.drop 16)

/-- AES-128-CMAC of a message, as a number of 128 bits. -/
def cmac (key : Nat) (msg : Bytes) : Nat :=
  let k := bytes16 key
  let k1 := cmacDbl (num16 (aes k (bytes16 0)))
  let m := msg.map (·.toNat)
  let n := max 1 ((m.length + 15) / 16)
  let body := m.take (16 * (n - 1))
  let last := m.drop (16 * (n - 1))
  let fin := if last.length = 16 then xorL last (bytes16 k1)
    else xorL (last ++ [0x80] ++ List.replicate (15 - last.length) 0) (bytes16 (cmacDbl k1))
  num16 (aes k (xorL (cbc k (n - 1) (bytes16 0) body) fin))

end Sys2Proof.Machine
end

