-- ==== Sys2Proof/Machine/Parser.lean ====
section
/-!
DEFINITION. Machine/Parser.lean: what the parser extracts from a frame (08_classification.md R178 to R182).
-/
namespace Sys2Proof.Machine

/-- What the parser delivers: LAYERS, the number of VLAN tags, PARSE_CODE, DEPTH, the fields that are valid by FIELD code,
the offset of a PTP header with its transport (0 layer 2, 1 UDP/IPv4, 2 UDP/IPv6), and where the payload after ETYPE
starts. -/
structure Parsed where
  layers : Nat := 0
  tags : Nat := 0
  code : Nat := 0
  depth : Bool := false
  fields : List (Nat × Nat) := []
  ptp : Option (Nat × Nat) := none
  /-- Offset of the EtherType after tags, HSR tag and R-TAG. -/
  et : Nat := 12
  /-- Offset of the first byte after the VLAN tags. -/
  afterTags : Nat := 12
  /-- Parsing has stopped at a failure. -/
  stop : Bool := false
deriving DecidableEq, Repr

/-- The head bytes that a frame of `n` bytes has (R178); `ended` tells that its end has been received. -/
def headLen (n : Nat) (ended : Bool) : Nat := if ended && n < 100 then n - 4 else 96

/-- The bits of FIELD codes (R182); 0 for a code that is not known. -/
def fieldWidth (c : Nat) : Nat :=
  match c with
  | 0x00 | 0x14 | 0x15 | 0x16 | 0x1A | 0x1B | 0x20 | 0x30 => 8
  | 0x01 | 0x02 => 48
  | 0x03 | 0x04 | 0x05 | 0x06 | 0x07 | 0x09 | 0x0A | 0x0B | 0x0C | 0x0F | 0x18 | 0x19 | 0x1D => 16
  | 0x08 | 0x0D | 0x0E | 0x10 | 0x11 | 0x1C | 0x1E | 0x1F => 32
  | 0x12 | 0x13 | 0x80 => 128
  | 0x17 => 20
  | 0x31 => 4
  | _ => 0

section
variable (f : Bytes) (h : Nat) (short : Bool)

/-- The parser takes a field of `n` bytes at offset `o`: zero where it reaches beyond the head bytes, which sets DEPTH in
a frame of 100 bytes or more. -/
def Parsed.take (p : Parsed) (c o n : Nat) : Parsed :=
  if o + n ≤ h then { p with fields := p.fields ++ [(c, beAt f o n)] }
  else { p with depth := p.depth || !short }

/-- A field whose value is computed from head bytes `o` to `o + n - 1`. -/
def Parsed.calc (p : Parsed) (c o n v : Nat) : Parsed :=
  if o + n ≤ h then { p with fields := p.fields ++ [(c, v)] } else { p with depth := p.depth || !short }

/-- A header is recognised: its LAYERS bit. -/
def Parsed.layer (p : Parsed) (b : Nat) : Parsed := { p with layers := p.layers ||| (1 <<< b) }

/-- A check fails: parsing stops with its code (R180). -/
def Parsed.fail (p : Parsed) (c : Nat) : Parsed := { p with code := c, stop := true }

/-- A header of `n` bytes at `o` runs past the last byte before the FCS of a short frame. -/
def runsPast (o n : Nat) : Bool := short && decide (o + n > h)

/-- The header bytes at `o` lie within the head bytes. -/
def seen (o n : Nat) : Bool := decide (o + n ≤ h)

/-- A PTP header at `o` (R179): recognised only for versionPTP 2. -/
def parsePtp (p : Parsed) (o tr : Nat) : Parsed :=
  if !seen h (o + 1) 1 || beAt f (o + 1) 1 % 16 != 2 then p else
  let p := { p.layer 6 with ptp := some (o, tr) }
  if runsPast h short o 34 then p.fail 1
  else if seen h (o + 2) 2 && beAt f (o + 2) 2 < 34 then p.fail 7
  else ((p.take f h short 0x0D o 4).take f h short 0x0E (o + 4) 4).take f h short 0x0F (o + 30) 2

/-- UDP and TCP (R179, R180). -/
def parseL4 (p : Parsed) (o proto tr : Nat) : Parsed :=
  if proto = 17 then
    let p := p.layer 11
    if runsPast h short o 8 then p.fail 1
    else if seen h (o + 4) 2 && beAt f (o + 4) 2 < 8 then p.fail 4
    else
      let p := (p.take f h short 0x18 o 2).take f h short 0x19 (o + 2) 2
      let d := if seen h (o + 2) 2 then beAt f (o + 2) 2 else 0
      if d = 319 ∨ d = 320 then parsePtp f h short p (o + 8) tr
      else if d = 102 then
        let si := if seen h (o + 8) 1 then beAt f (o + 8) 1 else 0
        if si = 0xA1 ∨ si = 0xA2 then
          let p := p.layer (if si = 0xA1 then 14 else 15)
          if runsPast h short (o + 8) 12 then p.fail 1
          else (p.take f h short 0x1B (o + 8) 1).take f h short 0x1C (o + 16) 4
        else p.take f h short 0x1B (o + 8) 1
      else p
  else if proto = 6 then
    let p := p.layer 12
    if runsPast h short o 20 then p.fail 1
    else if seen h (o + 12) 1 && beAt f (o + 12) 1 / 16 < 5 then p.fail 5
    else if seen h (o + 12) 1 && runsPast h short o (4 * (beAt f (o + 12) 1 / 16)) then p.fail 1
    else ((p.take f h short 0x18 o 2).take f h short 0x19 (o + 2) 2).take f h short 0x1A (o + 13) 1
  else p

/-- IPv4 (R179, R180). -/
def parseV4 (p : Parsed) (o : Nat) : Parsed :=
  let p := p.layer 9
  if runsPast h short o 20 then p.fail 1 else
  let ihl := beAt f o 1 % 16
  if beAt f o 1 / 16 ≠ 4 ∨ ihl < 5 then p.fail 2
  else if runsPast h short o (4 * ihl) then p.fail 1
  else
    let p := ((((p.take f h short 0x10 (o + 12) 4).take f h short 0x11 (o + 16) 4).take f h short 0x14 (o + 1) 1).take f h short
      0x15 (o + 9) 1).take f h short 0x16 (o + 8) 1
    let fr := if seen h (o + 6) 2 then beAt f (o + 6) 2 else 0
    let p := if nbit fr 13 || fr % 8192 != 0 then p.layer 13 else p
    if fr % 8192 ≠ 0 ∨ !seen h (o + 9) 1 then p else parseL4 f h short p (o + 4 * ihl) (beAt f (o + 9) 1) 1

/-- The extension headers of IPv6, at most `n`: the L4 protocol, where it starts, and whether a fragment header with a
more-fragments bit or an offset, and one with an offset, was met.  The protocol is `none` where it lies beyond the head bytes. -/
def v6Ext : Nat → Parsed → Nat → Nat → Bool → Parsed × Nat × Option Nat × Bool
  | 0, p, o, nh, off => (p, o, some nh, off)
  | n + 1, p, o, nh, off =>
    if p.stop || !(nh == 0 || nh == 43 || nh == 44 || nh == 60) then (p, o, some nh, off)
    else if runsPast h short o 8 then (p.fail 1, o, none, off)
    else if !seen h o 2 then ({ p with depth := p.depth || !short }, o, none, off)
    else
      let len := if nh = 44 then 8 else 8 * (beAt f (o + 1) 1 + 1)
      let fr := if nh = 44 ∧ seen h (o + 2) 2 then beAt f (o + 2) 2 else 0
      let p := if nbit fr 0 || fr / 8 != 0 then p.layer 13 else p
      if runsPast h short o len then (p.fail 1, o, none, off)
      else v6Ext n p (o + len) (beAt f o 1) (off || fr / 8 != 0)

/-- IPv6 (R179, R180). -/
def parseV6 (p : Parsed) (o : Nat) : Parsed :=
  let p := p.layer 10
  if runsPast h short o 40 then p.fail 1 else
  if beAt f o 1 / 16 ≠ 6 then p.fail 3 else
  let w := beAt f o 4
  let p := (((p.take f h short 0x12 (o + 8) 16).take f h short 0x13 (o + 24) 16).calc h short 0x14 o 2 (nfld w 20 8)).calc h short
    0x17 o 4 (w % 2 ^ 20)
  let p := p.take f h short 0x16 (o + 7) 1
  if !seen h (o + 6) 1 then p else
  let r := v6Ext f h short 2 p (o + 40) (beAt f (o + 6) 1) false
  let p := r.1
  if p.stop then p else
  match r.2.2.1 with
  | none => p
  | some nh =>
    let p := { p with fields := p.fields ++ [(0x15, nh)] }
    if r.2.2.2 then p else parseL4 f h short p r.2.1 nh 2

/-- The header that ETYPE names (R179). -/
def parseEt (p : Parsed) (et o : Nat) : Parsed :=
  if et = 0x88F7 then parsePtp f h short p o 0
  else if et = 0x88B8 ∨ et = 0x88BA then
    let p := p.layer (if et = 0x88B8 then 4 else 5)
    if runsPast h short o 8 then p.fail 1
    else if seen h (o + 2) 2 && beAt f (o + 2) 2 < 8 then p.fail 6
    else (p.take f h short 0x0B o 2).take f h short 0x0C (o + 2) 2
  else if et = 0x0806 then
    let p := p.layer 7
    if runsPast h short o 28 then p.fail 1
    else if seen h o 6 && beAt f o 6 == 0x000108000604 then
      ((p.take f h short 0x1D (o + 6) 2).take f h short 0x1E (o + 14) 4).take f h short 0x1F (o + 24) 4
    else p
  else if et = 0x88CC then p.layer 8
  else if et = 0x0800 then parseV4 f h short p o
  else if et = 0x86DD then parseV6 f h short p o
  else p

/-- A VLAN TPID (R179). -/
def isTpid (alt : Option Nat) (t : Nat) : Bool := t == 0x8100 || t == 0x88A8 || alt == some t

/-- The parser on a frame's head bytes (R178 to R180). -/
def parseHead (alt : Option Nat) : Parsed :=
  let p : Parsed := ((({} : Parsed).take f h short 0x01 0 6).take f h short 0x02 6 6)
  let t1 := isTpid alt (beAt f 12 2)
  let p := if t1 then { ((p.layer 0).take f h short 0x04 12 2).take f h short 0x05 14 2 with tags := 1 } else p
  let o := if t1 then 16 else 12
  let t2 := t1 && isTpid alt (beAt f o 2)
  let p := if t2 then { ((p.layer 1).take f h short 0x06 o 2).take f h short 0x07 (o + 2) 2 with tags := 2 } else p
  let o := if t2 then o + 4 else o
  let p := { p with afterTags := o }
  let hsr := beAt f o 2 == 0x892F
  let p := if hsr then (p.layer 2).take f h short 0x08 (o + 2) 4 else p
  let o := if hsr then o + 6 else o
  let rt := beAt f o 2 == 0xF1C1
  let p := if rt then (p.layer 3).take f h short 0x09 (o + 4) 2 else p
  let o := if rt then o + 6 else o
  let et := beAt f o 2
  parseEt f h short { p with et := o, fields := p.fields ++ [(0x0A, et)] } et (o + 2)

end

/-- The parser on the bytes of a frame received so far. -/
def parse (alt : Option Nat) (f : Bytes) (ended : Bool) : Parsed :=
  parseHead f (headLen f.length ended) (ended && f.length < 100) alt

/-- A parsed field by FIELD code (R182), other than those of the ingress port, the copy and the carry. -/
def Parsed.get (p : Parsed) (c : Nat) : Nat :=
  if c = 0x03 then p.layers
  else if c = 0x20 then (if p.depth then 128 else 0) + 16 * p.tags + p.code
  else match p.fields.find? (fun q => q.1 == c) with
    | some q => q.2
    | none => 0

/-! ## Sample-counter decode (R181) -/

/-- A BER length at `o` in short form or in the forms 0x81 nn and 0x82 nn nn, within `lim` bytes: the length and the
offset after it. -/
def ber (f : Bytes) (lim o : Nat) : Option (Nat × Nat) :=
  let b := beAt f o 1
  if o + 1 > lim then none
  else if b < 0x80 then some (b, o + 1)
  else if b = 0x81 ∧ o + 2 ≤ lim then some (beAt f (o + 1) 1, o + 2)
  else if b = 0x82 ∧ o + 3 ≤ lim then some (beAt f (o + 1) 2, o + 3)
  else none

/-- The value of a tag at `o`: its length and where its contents start. -/
def berTag (f : Bytes) (lim o tag : Nat) : Option (Nat × Nat) :=
  if o + 1 ≤ lim ∧ beAt f o 1 = tag then ber f lim (o + 1) else none

/-- The place after an optional tag that is skipped. -/
def berSkip (f : Bytes) (lim o tag : Nat) : Option Nat :=
  if o + 1 ≤ lim ∧ beAt f o 1 = tag then (ber f lim (o + 1)).map (fun r => r.2 + r.1) else some o

/-- The sample-counter decode of a savPdu at `o`: NO_ASDU and SMPCNT, `none` for SMP_OK 0 (R181). -/
def smpDecode (f : Bytes) (o : Nat) : Option (Nat × Nat) :=
  let lim := min 192 (f.length - 4)
  (berTag f lim o 0x60).bind fun a =>
  (berTag f lim a.2 0x80).bind fun b =>
  if b.1 ≠ 1 then none else
  (berSkip f lim (b.2 + 1) 0x81).bind fun c =>
  (berTag f lim c 0xA2).bind fun d =>
  (berTag f lim d.2 0x30).bind fun e =>
  (berTag f lim e.2 0x80).bind fun g =>
  (berSkip f lim (g.2 + g.1) 0x81).bind fun i =>
  (berTag f lim i 0x82).bind fun j =>
  if j.1 ≠ 2 ∨ j.2 + 2 > lim then none else some (beAt f b.2 1, beAt f j.2 2)

end Sys2Proof.Machine
end

