-- ==== Sys2Proof/Config.lean ====
section
/-!
DEFINITION. Config.lean: what an implementation fixes and the spec leaves open, as constants without a body:
nothing can be proved about their values, so a claim holds for every value of them (log entries 1, 2).
-/
namespace Sys2Proof

/-- A FREE VALUE of the spec: the `n`-th open value that a run meets.  A meaning reads it at
`State.freeCtr` and advances that counter (log entry 1). -/
opaque Config.free : Nat → Nat

/-- A free value read as a word (log entry 1). -/
opaque Config.freeW : Nat → Word

/-- The length in bits of the boundary-scan instruction register (R457 gives none; log entry 2). -/
opaque Config.irLength : Nat

/-- Which boundary-scan instruction an instruction-register value selects (R457 gives no codes; log entry 2):
0 BYPASS, 1 IDCODE, 2 SAMPLE/PRELOAD, 3 EXTEST, 4 EXTEST_PULSE, 5 EXTEST_TRAIN, other values BYPASS. -/
opaque Config.irSelect : Nat → Nat

/-- The length in bits of the boundary-scan register (R457 gives none; log entry 2). -/
opaque Config.bsrLength : Nat

/-- Which cell of the Carafe holds the `n`-th 128 bytes of an image under check (R78 names none; log entry 88). -/
opaque Config.stageCell : Nat → Nat


end Sys2Proof
end

