-- ==== Sys2Proof/Machine/RegMap.lean ====
section
/-!
DEFINITION. Machine/RegMap.lean: the register map of 20_address_map.md (R464, R465) and of the block
summaries of every chapter: one name per register family, its address, its indices, its access type, its
reset value and the bits a host write can change.  Lane-window registers (R146) stand at `laneSpace`
plus their indirect address (R52).
-/
namespace Sys2Proof.Machine

/-- The access types of R464. -/
inductive Access where
  | ro | rw | rwu | sq | wa | gw
deriving DecidableEq, Repr

/-- The register families, named as the manual names them, less the index suffixes. -/
inductive Fam where
  | DEV_IDENT | DEV_ROAST_STATUS | DEV_ROAST_FAULT_A | DEV_ROAST_FAULT_B | DEV_ROAST_LENGTH | DEV_ROAST_CRC
  | DEV_ROAST_BUILD_HI | DEV_ROAST_BUILD_LO | DEV_TEMP | DEV_TEMP_LIMIT | DEV_TEMP_STATUS
  | RST_CAUSE | RST_BLOCK_CAUSE | RST_RAIL_FAULT | RST_STRAPS | RST_BOOT_TICKS | RST_BLOCK_STATE
  | RST_ISO_DISCARD | RST_ISO_ERROR
  | HOT_STATUS | HOT_CLK_GOOD | HOT_WAKE_BUDGET | HOT_IDLE_TIME | HOT_DOZE_NEED | HOT_DOM_CMD | HOT_LATE_WAKES
  | HOT_LATE_INFO | HOT_TICK | HOT_DOM_MODE | HOT_DOM_STATE | HOT_IND_ADDR | HOT_IND_DATA | HOT_PORT_PWR
  | CTL_ETYPE | CTL_DEV_MAC_HI | CTL_DEV_MAC_LO | CTL_GUARD_CFG | CTL_GUARD_SEAL | CTL_GUARD_EPOCH
  | CTL_GUARD_COUNT | CTL_UPD_ARMED | CTL_STATUS | CTL_RX_DISCARD | CTL_RX_UNKNOWN | CTL_TAG_FAIL
  | CTL_GUARD_REFUSED | CTL_REPLAYS | CTL_UPD_LATE | CTL_CTX_CFG | CTL_CTX_MAC_HI | CTL_CTX_MAC_LO
  | CTL_CTX_LAST
  | EVT_CFG | EVT_STATUS | EVT_OFFER_TIMEOUT | EVT_CTX_CMD | EVT_CTX_STATE | EVT_OFFERS | EVT_REOFFERS
  | EVT_WITHDRAWN | EVT_STRAY | EVT_NOBUF | EVT_OFFER_SEQ | EVT_PEND | EVT_CLAIMED | EVT_OUT | EVT_LEVEL
  | EVT_TGT
  | PCT_STATUS | PCT_CMD | PCT_SWEEPS | PCT_BW_CFG | PCT_TEL_CFG | PCT_TEL_PERIOD | PCT_TEL_SEQ | PCT_TEL_DROP
  | PCT_TEL_SKIP | PCT_OVF | PCT_TEL_HDR | PCT_TEL_BLOCKS | PCT_TEL_PORTS | PCT_CFG | PCT_VAL_LO | PCT_VAL_HI
  | PCT_BW_RX | PCT_BW_TX | PCT_PEAK_RX | PCT_PEAK_TX
  | TK_STATUS | TK_STATE | TK_SERVO_SRC | TK_SERVO_GAIN | TK_STEP_LIMIT | TK_LOCK_CFG | TK_MAX_FREQ
  | TK_FREQ_MANUAL | TK_FREQ | TK_INTEGRAL | TK_LAST_OFFSET | TK_PATH_DELAY | TK_CLOCK_ID_HI | TK_CLOCK_ID_LO
  | TK_GM_ID_HI | TK_GM_ID_LO | TK_TIME | TK_STEP | TK_CMD | TK_HOLD_TIME | TK_STEPS | TK_REFUSED | TK_SAMPLES
  | TK_FU_MISMATCH | TK_RX_IGNORED | TK_TC_NO_DELAY | TK_DOM_CFG | TK_DOM_INT | TK_DOM_TAG | TK_DOM_RX
  | TK_PSTATE | TK_ANN_TPL | TK_PORT_CFG | TK_PORT_ASYM | TK_PORT_DELAY | TK_PORT_PD_STATUS | TK_PORT_PD_SENT
  | TK_PORT_PD_OK | TK_PORT_PD_RESP | TK_PORT_TC
  | TIO_STATUS | TIO_PPS_OUT | TIO_ADJ | TIO_IRIG_CFG | TIO_IRIG_TIME | TIO_IRIG_TQ | TIO_PPS_IN_CFG
  | TIO_PPS_IN | TIO_PPS_IN_EDGES | TIO_PPS_IN_GLITCH
  | TWN_CFG | TWN_SNAP_CFG | TWN_ST_CFG | TWN_SLEW | TWN_MGMT_MAC_HI | TWN_MGMT_MAC_LO | TWN_CMD | TWN_STATUS
  | TWN_STATE | TWN_OUT_CORR | TWN_SNAP_SEQ | TWN_SNAP_AGE | TWN_TAKEOVERS | TWN_DUAL_CLAIMS | TWN_FLASH_CMD
  | TWN_FLASH_ADDR | TWN_FLASH_STATUS | TWN_HEALTH | TWN_PEER_HEALTH | TWN_LINK_OFFSET | TWN_LINK_DELAY
  | TWN_SEG_ERR | TWN_HCRC_ERR | TWN_MSG_ERR | TWN_BAD_END | TWN_LINK_DROPS | TWN_FLASH_BUF
  | LBM_STATUS | LBM_DRIP_CAP | LBM_FREE | LBM_RES | LBM_USED | LBM_FAIL
  | EPT_STATUS | EPT_LEAD | EPT_LATE_TOL | EPT_MAX_AHEAD | EPT_HOLD_MAX | EPT_HOLD_USED | EPT_PENDING
  | EPT_HOST_CTX | EPT_LAUNCHED | EPT_RX_UNKNOWN | EPT_LAUNCH_FULL | EPT_HOLD_FULL | EPT_TOO_FAR | EPT_LATE
  | EPT_LATE_DROP | EPT_LATE_TX | EPT_REPORTS | EPT_REPORT_LOST
  | LCH_SUMMARY | LCH_RX_UNMATCHED | LCH_CFG | LCH_PKT | LCH_RXID | LCH_JB | LCH_DEST | LCH_INT_LOS
  | LCH_INT_AIS | LCH_INT_LOF | LCH_INT_RDI | LCH_STATE | LCH_STATUS | LCH_HDR_ERR | LCH_HUNT_AMBIG
  | LCH_PKT_TX | LCH_PKT_RX | LCH_RX_DUP | LCH_RX_LATE | LCH_RX_OVERRUN | LCH_RX_BADLEN | LCH_UNDERRUN
  | LCH_RECENTRES | LCH_TX_NOBUF | LCH_HDR
  | CLS_CFG | CLS_PCP_MAP | CLS_STATUS | CLS_LOOKUPS | CLS_DROPS | CLS_TRAPS | CLS_NO_DEST | CLS_PARSE_FAIL
  | CLS_PARITY | CLS_DEPTH | CLS_EG_DROPS | CLS_HIT | CLS_MISS | CLS_S0_DEF_W1 | CLS_S0_DEF_W2 | CLS_S0_DEF_W3
  | DRIP_RATE | DRIP_BURST | DRIP_PASSED | DRIP_DROPPED | DRIP_TGT | DRIP_NOBUF | DRIP_BAD | DRIP_STATUS
  | MIR_CFG
  | MAC_CFG | MAC_STATUS | MAC_STATE | MAC_MM_CFG | MAC_MM_STATUS | MAC_EEE_CFG | MAC_EEE_TW | MAC_TS_ADJ
  | MAC_DRAIN_LIMIT | MAC_STAT_HALF | MAC_STAT
  | LN_IND_ADDR | LN_IND_DATA | LN_CFG | LN_STATUS | LN_STATE | LN_TX_TAPS | LN_TEST | LN_PRBS_ERR
  | LN_EYE_CMD | LN_FILL_DEL | LN_FILL_INS | LN_FEC_CORR | LN_FEC_UNCORR | LN_BIP_ERR | LN_LOCK_LOSS
  | LN_TRAIN_FAILS | LN_TRAIN_TIME | LN_EYE_DATA
  | CAR_CFG | CAR_STATUS | CAR_POOL | CAR_OWED | CAR_MAX_RES | CAR_DROPS | CAR_SPEC_DISCARD | CAR_AGED
  | CAR_BANK_EMPTY | CAR_ECC_CORR | CAR_ECC_UNCORR | CAR_ECC_PTR | CAR_BANK_FREE | CAR_IND_ADDR | CAR_IND_DATA
  | CAR_P_CFG | CAR_P_USED | CAR_Q_CFG | CAR_Q_USED | CAR_Q_DROP | CAR_Q_MC_REFUSED
  | SCH_CFG | SCH_STATUS | SCH_STATE | SCH_GATES | SCH_PORT_RATE | SCH_PORT_BURST | SCH_PORT_CREDIT
  | SCH_GUARD | SCH_GATE_CTRL | SCH_ADMIN_LIST | SCH_ADMIN_CYCLE | SCH_ADMIN_EXT | SCH_ADMIN_BASE_SEC_HI
  | SCH_ADMIN_BASE_SEC_LO | SCH_ADMIN_BASE_NS | SCH_OPER_LIST | SCH_OPER_CYCLE | SCH_OPER_EXT
  | SCH_OPER_BASE_SEC_HI | SCH_OPER_BASE_SEC_LO | SCH_OPER_BASE_NS | SCH_CHANGE_SEC_HI | SCH_CHANGE_SEC_LO
  | SCH_CHANGE_NS | SCH_OVERRUNS | SCH_DEFERS | SCH_SDU_PASSED | SCH_CFG_CHANGES | SCH_LATE_BASE | SCH_STEPS
  | SCH_PARITY | SCH_Q_CFG | SCH_Q_RATE | SCH_Q_BURST | SCH_Q_CREDIT | SCH_Q_SDU_DROP
  | TBL_REQ | TBL_RES | TBL_STATUS | TBL_ERRORS | TBL_IND_ADDR | TBL_IND_DATA
  | FDB_CFG | FDB_MOVE_CFG | FDB_STATUS | FDB_COUNT | FDB_LAST_FLAP | FDB_PARITY_IDX | FDB_LEARNS | FDB_MOVES
  | FDB_LEARN_BAD | FDB_LEARN_OVF | FDB_LEARN_FULL | FDB_LEARN_REFUSED | FDB_FROZEN_HITS | FDB_AGED
  | FDB_PARITY | FDB_NOTICE_DROP | FDB_STITCH_LOOP
  | RED_CFG | RED_STATUS | RED_NODE_TIME | RED_FRER_RESET | RED_LE_CFG | RED_LAST_LE | RED_NODE_COUNT
  | RED_RTAG_PORTS | RED_ACCEPTED | RED_DUPLICATES | RED_OUT_OF_ORDER | RED_HELD | RED_HELD_RELEASED
  | RED_ROGUE | RED_NO_NODE | RED_WRONG_LAN | RED_UNTAGGED | RED_CROSS_LAN | RED_SOURCE_REMOVED | RED_LATENT
  | RED_PARITY | RED_RESETS | RED_PAIR_CFG | RED_PAIR_PORTS | RED_PAIR_SEQ
  | POL_CFG | POL_STATUS | POL_LAST_LATCH | POL_WIN_OUT | POL_WIN_DROPS | POL_METER_EXCEEDED | POL_METER_DROPS
  | POL_PARITY
deriving DecidableEq, Repr

/-- One row of a block summary: first address, index counts and strides, access, reset value, writable bits. -/
structure Row where
  /-- The address of the first register of the family. -/
  base : Nat
  /-- The access type of R464. -/
  acc : Access
  /-- The reset value of the block summary. -/
  rst : Word := 0
  /-- The number of values of the first index. -/
  n : Nat := 1
  /-- The address step of the first index. -/
  sI : Nat := 0
  /-- The number of values of the second index. -/
  m : Nat := 1
  /-- The address step of the second index. -/
  sJ : Nat := 0
  /-- The bits that are not reserved (R7). -/
  mask : Word := 0xFFFFFFFF
deriving DecidableEq, Repr

/-- Where the lane window's indirect space (R52, R146) stands among the register keys. -/
abbrev laneSpace : Nat := 0x100000000

/-- The row of each family, from the block summaries of the chapters. -/
def Fam.row : Fam → Row
  | .DEV_IDENT => { base := 0x0, acc := .ro }
  | .DEV_ROAST_STATUS => { base := 0x100, acc := .ro }
  | .DEV_ROAST_FAULT_A => { base := 0x104, acc := .ro }
  | .DEV_ROAST_FAULT_B => { base := 0x108, acc := .ro }
  | .DEV_ROAST_LENGTH => { base := 0x10C, acc := .ro }
  | .DEV_ROAST_CRC => { base := 0x110, acc := .ro }
  | .DEV_ROAST_BUILD_HI => { base := 0x114, acc := .ro }
  | .DEV_ROAST_BUILD_LO => { base := 0x118, acc := .ro }
  | .DEV_TEMP => { base := 0x200, acc := .ro }
  | .DEV_TEMP_LIMIT => { base := 0x204, acc := .rw, rst := 0x73, mask := 0xFF }
  | .DEV_TEMP_STATUS => { base := 0x208, acc := .sq }
  | .RST_CAUSE => { base := 0x10000, acc := .sq, rst := 0x1000001 }
  | .RST_BLOCK_CAUSE => { base := 0x10004, acc := .sq, n := 3, sI := 0x4 }
  | .RST_RAIL_FAULT => { base := 0x10010, acc := .sq }
  | .RST_STRAPS => { base := 0x10014, acc := .ro }
  | .RST_BOOT_TICKS => { base := 0x10018, acc := .ro }
  | .RST_BLOCK_STATE => { base := 0x10020, acc := .ro, n := 8, sI := 0x4 }
  | .RST_ISO_DISCARD => { base := 0x10100, acc := .ro, n := 64, sI := 0x4 }
  | .RST_ISO_ERROR => { base := 0x10200, acc := .ro, n := 64, sI := 0x4 }
  | .HOT_STATUS => { base := 0x20000, acc := .sq }
  | .HOT_CLK_GOOD => { base := 0x20004, acc := .ro }
  | .HOT_WAKE_BUDGET => { base := 0x20008, acc := .rw, rst := 0x4, mask := 0x1F }
  | .HOT_IDLE_TIME => { base := 0x2000C, acc := .rw, rst := 0x64, mask := 0xFFFF }
  | .HOT_DOZE_NEED => { base := 0x20010, acc := .ro }
  | .HOT_DOM_CMD => { base := 0x20014, acc := .wa }
  | .HOT_LATE_WAKES => { base := 0x20018, acc := .ro }
  | .HOT_LATE_INFO => { base := 0x2001C, acc := .ro }
  | .HOT_TICK => { base := 0x20020, acc := .ro }
  | .HOT_DOM_MODE => { base := 0x20040, acc := .rw, n := 15, sI := 0x4 }
  | .HOT_DOM_STATE => { base := 0x20080, acc := .ro, n := 30, sI := 0x4 }
  | .HOT_IND_ADDR => { base := 0x20100, acc := .rw }
  | .HOT_IND_DATA => { base := 0x20104, acc := .rw }
  | .HOT_PORT_PWR => { base := 0x20200, acc := .rw, n := 128, sI := 0x4, mask := 0x8000FFFF }
  | .CTL_ETYPE => { base := 0x30000, acc := .ro, rst := 0x88B5 }
  | .CTL_DEV_MAC_HI => { base := 0x30004, acc := .ro }
  | .CTL_DEV_MAC_LO => { base := 0x30008, acc := .ro }
  | .CTL_GUARD_CFG => { base := 0x3000C, acc := .ro }
  | .CTL_GUARD_SEAL => { base := 0x30010, acc := .gw }
  | .CTL_GUARD_EPOCH => { base := 0x30014, acc := .ro }
  | .CTL_GUARD_COUNT => { base := 0x30018, acc := .ro }
  | .CTL_UPD_ARMED => { base := 0x3001C, acc := .ro }
  | .CTL_STATUS => { base := 0x30020, acc := .sq }
  | .CTL_RX_DISCARD => { base := 0x30040, acc := .ro }
  | .CTL_RX_UNKNOWN => { base := 0x30044, acc := .ro }
  | .CTL_TAG_FAIL => { base := 0x30048, acc := .ro }
  | .CTL_GUARD_REFUSED => { base := 0x3004C, acc := .ro }
  | .CTL_REPLAYS => { base := 0x30050, acc := .ro }
  | .CTL_UPD_LATE => { base := 0x30054, acc := .ro }
  | .CTL_CTX_CFG => { base := 0x30100, acc := .ro, n := 8, sI := 0x10 }
  | .CTL_CTX_MAC_HI => { base := 0x30104, acc := .ro, n := 8, sI := 0x10 }
  | .CTL_CTX_MAC_LO => { base := 0x30108, acc := .ro, n := 8, sI := 0x10 }
  | .CTL_CTX_LAST => { base := 0x3010C, acc := .ro, n := 8, sI := 0x10 }
  | .EVT_CFG => { base := 0x40000, acc := .rw, rst := 0x80000000, mask := 0x80000000 }
  | .EVT_STATUS => { base := 0x40004, acc := .sq }
  | .EVT_OFFER_TIMEOUT => { base := 0x40008, acc := .rw, rst := 0x3E8, mask := 0xFFFFF }
  | .EVT_CTX_CMD => { base := 0x4000C, acc := .wa }
  | .EVT_CTX_STATE => { base := 0x40010, acc := .ro }
  | .EVT_OFFERS => { base := 0x40040, acc := .ro }
  | .EVT_REOFFERS => { base := 0x40044, acc := .ro }
  | .EVT_WITHDRAWN => { base := 0x40048, acc := .ro }
  | .EVT_STRAY => { base := 0x4004C, acc := .ro }
  | .EVT_NOBUF => { base := 0x40050, acc := .ro }
  | .EVT_OFFER_SEQ => { base := 0x40080, acc := .ro, n := 8, sI := 0x4 }
  | .EVT_PEND => { base := 0x40100, acc := .ro, n := 32, sI := 0x4 }
  | .EVT_CLAIMED => { base := 0x40180, acc := .ro, n := 32, sI := 0x4 }
  | .EVT_OUT => { base := 0x40200, acc := .ro, n := 32, sI := 0x4 }
  | .EVT_LEVEL => { base := 0x40280, acc := .ro, n := 32, sI := 0x4 }
  | .EVT_TGT => { base := 0x40400, acc := .rw, n := 128, sI := 0x4 }
  | .PCT_STATUS => { base := 0x50000, acc := .sq }
  | .PCT_CMD => { base := 0x50004, acc := .wa }
  | .PCT_SWEEPS => { base := 0x50008, acc := .ro }
  | .PCT_BW_CFG => { base := 0x5000C, acc := .rwu, rst := 0x1, mask := 0x800003FF }
  | .PCT_TEL_CFG => { base := 0x50010, acc := .rwu, mask := 0xFF8003FF }
  | .PCT_TEL_PERIOD => { base := 0x50014, acc := .rwu, rst := 0x3E8, mask := 0xFFFF }
  | .PCT_TEL_SEQ => { base := 0x50018, acc := .ro }
  | .PCT_TEL_DROP => { base := 0x5001C, acc := .ro }
  | .PCT_TEL_SKIP => { base := 0x50020, acc := .ro }
  | .PCT_OVF => { base := 0x50040, acc := .sq, n := 14, sI := 0x4 }
  | .PCT_TEL_HDR => { base := 0x50080, acc := .rwu, n := 6, sI := 0x4 }
  | .PCT_TEL_BLOCKS => { base := 0x500A0, acc := .rwu, n := 2, sI := 0x4 }
  | .PCT_TEL_PORTS => { base := 0x500C0, acc := .rwu, n := 5, sI := 0x4 }
  | .PCT_CFG => { base := 0x51000, acc := .rwu, rst := 0xFF00, n := 40, sI := 0x80, m := 8, sJ := 0x10, mask := 0xFF80FF00 }
  | .PCT_VAL_LO => { base := 0x51004, acc := .ro, n := 40, sI := 0x80, m := 8, sJ := 0x10 }
  | .PCT_VAL_HI => { base := 0x51008, acc := .ro, n := 40, sI := 0x80, m := 8, sJ := 0x10 }
  | .PCT_BW_RX => { base := 0x54000, acc := .ro, n := 134, sI := 0x10 }
  | .PCT_BW_TX => { base := 0x54004, acc := .ro, n := 134, sI := 0x10 }
  | .PCT_PEAK_RX => { base := 0x54008, acc := .ro, n := 134, sI := 0x10 }
  | .PCT_PEAK_TX => { base := 0x5400C, acc := .ro, n := 134, sI := 0x10 }
  | .TK_STATUS => { base := 0x60000, acc := .sq }
  | .TK_STATE => { base := 0x60004, acc := .ro }
  | .TK_SERVO_SRC => { base := 0x60008, acc := .rwu, mask := 0xF00000FF }
  | .TK_SERVO_GAIN => { base := 0x6000C, acc := .rwu, rst := 0xC000400 }
  | .TK_STEP_LIMIT => { base := 0x60010, acc := .rwu, rst := 0x3E8 }
  | .TK_LOCK_CFG => { base := 0x60014, acc := .rwu, rst := 0x640004, mask := 0xFFFF000F }
  | .TK_MAX_FREQ => { base := 0x60018, acc := .rwu, rst := 0x30D40, mask := 0xFFFFF }
  | .TK_FREQ_MANUAL => { base := 0x6001C, acc := .rw }
  | .TK_FREQ => { base := 0x60020, acc := .ro }
  | .TK_INTEGRAL => { base := 0x60024, acc := .ro }
  | .TK_LAST_OFFSET => { base := 0x60028, acc := .ro }
  | .TK_PATH_DELAY => { base := 0x6002C, acc := .ro }
  | .TK_CLOCK_ID_HI => { base := 0x60030, acc := .rwu }
  | .TK_CLOCK_ID_LO => { base := 0x60034, acc := .rwu }
  | .TK_GM_ID_HI => { base := 0x60038, acc := .ro }
  | .TK_GM_ID_LO => { base := 0x6003C, acc := .ro }
  | .TK_TIME => { base := 0x60040, acc := .ro, n := 4, sI := 0x4 }
  | .TK_STEP => { base := 0x60050, acc := .rw, n := 4, sI := 0x4 }
  | .TK_CMD => { base := 0x60060, acc := .wa }
  | .TK_HOLD_TIME => { base := 0x60064, acc := .ro }
  | .TK_STEPS => { base := 0x60080, acc := .ro }
  | .TK_REFUSED => { base := 0x60084, acc := .ro }
  | .TK_SAMPLES => { base := 0x60088, acc := .ro }
  | .TK_FU_MISMATCH => { base := 0x6008C, acc := .ro }
  | .TK_RX_IGNORED => { base := 0x60090, acc := .ro }
  | .TK_TC_NO_DELAY => { base := 0x60094, acc := .ro }
  | .TK_DOM_CFG => { base := 0x60100, acc := .rwu, n := 4, sI := 0x10, mask := 0xFFFFF0FF }
  | .TK_DOM_INT => { base := 0x60104, acc := .rwu, rst := 0x30000, n := 4, sI := 0x10, mask := 0xFFFF0000 }
  | .TK_DOM_TAG => { base := 0x60108, acc := .rwu, n := 4, sI := 0x10, mask := 0x8000EFFF }
  | .TK_DOM_RX => { base := 0x6010C, acc := .ro, n := 4, sI := 0x10 }
  | .TK_PSTATE => { base := 0x60200, acc := .rwu, n := 4, sI := 0x20, m := 8, sJ := 0x4 }
  | .TK_ANN_TPL => { base := 0x60400, acc := .rwu, n := 4, sI := 0x80, m := 32, sJ := 0x4 }
  | .TK_PORT_CFG => { base := 0x61000, acc := .rwu, rst := 0x302710, n := 128, sI := 0x20, mask := 0xFFF0FFFF }
  | .TK_PORT_ASYM => { base := 0x61004, acc := .rwu, n := 128, sI := 0x20 }
  | .TK_PORT_DELAY => { base := 0x61008, acc := .ro, n := 128, sI := 0x20 }
  | .TK_PORT_PD_STATUS => { base := 0x6100C, acc := .ro, n := 128, sI := 0x20 }
  | .TK_PORT_PD_SENT => { base := 0x61010, acc := .ro, n := 128, sI := 0x20 }
  | .TK_PORT_PD_OK => { base := 0x61014, acc := .ro, n := 128, sI := 0x20 }
  | .TK_PORT_PD_RESP => { base := 0x61018, acc := .ro, n := 128, sI := 0x20 }
  | .TK_PORT_TC => { base := 0x6101C, acc := .ro, n := 128, sI := 0x20 }
  | .TIO_STATUS => { base := 0x70000, acc := .sq }
  | .TIO_PPS_OUT => { base := 0x70004, acc := .rwu, rst := 0x186A0, n := 2, sI := 0x4, mask := 0x800FFFFF }
  | .TIO_ADJ => { base := 0x7000C, acc := .rwu, n := 3, sI := 0x4, mask := 0xFFFF }
  | .TIO_IRIG_CFG => { base := 0x70018, acc := .rwu, mask := 0xF8000000 }
  | .TIO_IRIG_TIME => { base := 0x7001C, acc := .rwu, mask := 0xFFFFFFC0 }
  | .TIO_IRIG_TQ => { base := 0x70020, acc := .rwu, rst := 0x30000064, mask := 0xF000FFFF }
  | .TIO_PPS_IN_CFG => { base := 0x70024, acc := .rwu, mask := 0xC000FFFF }
  | .TIO_PPS_IN => { base := 0x70028, acc := .ro, n := 4, sI := 0x4 }
  | .TIO_PPS_IN_EDGES => { base := 0x70038, acc := .ro }
  | .TIO_PPS_IN_GLITCH => { base := 0x7003C, acc := .ro }
  | .TWN_CFG => { base := 0x80000, acc := .rwu, rst := 0x88000002, mask := 0xF800003F }
  | .TWN_SNAP_CFG => { base := 0x80004, acc := .rwu, rst := 0x640000, mask := 0xFFFF3FFF }
  | .TWN_ST_CFG => { base := 0x80008, acc := .rwu, rst := 0x802803E8, mask := 0x80FFFFFF }
  | .TWN_SLEW => { base := 0x8000C, acc := .rwu, rst := 0xA, mask := 0xFFFF }
  | .TWN_MGMT_MAC_HI => { base := 0x80010, acc := .rwu, mask := 0xFFFF }
  | .TWN_MGMT_MAC_LO => { base := 0x80014, acc := .rwu }
  | .TWN_CMD => { base := 0x80100, acc := .wa }
  | .TWN_STATUS => { base := 0x80104, acc := .sq }
  | .TWN_STATE => { base := 0x80108, acc := .ro }
  | .TWN_OUT_CORR => { base := 0x8010C, acc := .ro }
  | .TWN_SNAP_SEQ => { base := 0x80110, acc := .ro }
  | .TWN_SNAP_AGE => { base := 0x80114, acc := .ro, rst := 0xFFFFF }
  | .TWN_TAKEOVERS => { base := 0x80118, acc := .ro }
  | .TWN_DUAL_CLAIMS => { base := 0x8011C, acc := .ro }
  | .TWN_FLASH_CMD => { base := 0x80120, acc := .wa }
  | .TWN_FLASH_ADDR => { base := 0x80124, acc := .rw }
  | .TWN_FLASH_STATUS => { base := 0x80128, acc := .ro }
  | .TWN_HEALTH => { base := 0x80140, acc := .ro, n := 8, sI := 0x4 }
  | .TWN_PEER_HEALTH => { base := 0x80160, acc := .ro, n := 8, sI := 0x4 }
  | .TWN_LINK_OFFSET => { base := 0x80200, acc := .ro, n := 3, sI := 0x20 }
  | .TWN_LINK_DELAY => { base := 0x80204, acc := .ro, n := 3, sI := 0x20 }
  | .TWN_SEG_ERR => { base := 0x80208, acc := .ro, n := 3, sI := 0x20 }
  | .TWN_HCRC_ERR => { base := 0x8020C, acc := .ro, n := 3, sI := 0x20 }
  | .TWN_MSG_ERR => { base := 0x80210, acc := .ro, n := 3, sI := 0x20 }
  | .TWN_BAD_END => { base := 0x80214, acc := .ro, n := 3, sI := 0x20 }
  | .TWN_LINK_DROPS => { base := 0x80218, acc := .ro, n := 3, sI := 0x20 }
  | .TWN_FLASH_BUF => { base := 0x80400, acc := .rw, n := 64, sI := 0x4 }
  | .LBM_STATUS => { base := 0x90000, acc := .sq }
  | .LBM_DRIP_CAP => { base := 0x90004, acc := .rw, rst := 0x7F0, mask := 0x3FFF }
  | .LBM_FREE => { base := 0x90010, acc := .ro, n := 4, sI := 0x4 }
  | .LBM_RES => { base := 0x90100, acc := .rw, n := 6, sI := 0x10, m := 4, sJ := 0x4, mask := 0x3FFF }
  | .LBM_USED => { base := 0x90200, acc := .ro, n := 6, sI := 0x10, m := 4, sJ := 0x4 }
  | .LBM_FAIL => { base := 0x90300, acc := .ro, n := 6, sI := 0x10, m := 4, sJ := 0x4 }
  | .EPT_STATUS => { base := 0xA0000, acc := .sq }
  | .EPT_LEAD => { base := 0xA0004, acc := .rwu, rst := 0x7D0, mask := 0xFFFFF }
  | .EPT_LATE_TOL => { base := 0xA0008, acc := .rwu, rst := 0x3E8, mask := 0xFFFFF }
  | .EPT_MAX_AHEAD => { base := 0xA000C, acc := .rwu, rst := 0x3E8, mask := 0xFFF }
  | .EPT_HOLD_MAX => { base := 0xA0010, acc := .rwu, rst := 0x4000, mask := 0x7FFFF }
  | .EPT_HOLD_USED => { base := 0xA0014, acc := .ro }
  | .EPT_PENDING => { base := 0xA0018, acc := .ro }
  | .EPT_HOST_CTX => { base := 0xA001C, acc := .rwu, mask := 0x77 }
  | .EPT_LAUNCHED => { base := 0xA0040, acc := .ro }
  | .EPT_RX_UNKNOWN => { base := 0xA0044, acc := .ro }
  | .EPT_LAUNCH_FULL => { base := 0xA0048, acc := .ro }
  | .EPT_HOLD_FULL => { base := 0xA004C, acc := .ro }
  | .EPT_TOO_FAR => { base := 0xA0050, acc := .ro }
  | .EPT_LATE => { base := 0xA0054, acc := .ro }
  | .EPT_LATE_DROP => { base := 0xA0058, acc := .ro }
  | .EPT_LATE_TX => { base := 0xA005C, acc := .ro }
  | .EPT_REPORTS => { base := 0xA0060, acc := .ro }
  | .EPT_REPORT_LOST => { base := 0xA0064, acc := .ro }
  | .LCH_SUMMARY => { base := 0xB0000, acc := .ro }
  | .LCH_RX_UNMATCHED => { base := 0xB0040, acc := .ro }
  | .LCH_CFG => { base := 0xB1000, acc := .rwu, rst := 0x100000, n := 16, sI := 0x100, mask := 0xF8F1FFFF }
  | .LCH_PKT => { base := 0xB1004, acc := .rwu, rst := 0x12010000, n := 16, sI := 0x100, mask := 0xFF3F0000 }
  | .LCH_RXID => { base := 0xB1008, acc := .rwu, n := 16, sI := 0x100, mask := 0xFFFFF }
  | .LCH_JB => { base := 0xB100C, acc := .rwu, rst := 0x2010, n := 16, sI := 0x100, mask := 0xFFFF }
  | .LCH_DEST => { base := 0xB1010, acc := .rwu, n := 16, sI := 0x100, mask := 0x70007FFF }
  | .LCH_INT_LOS => { base := 0xB1014, acc := .rwu, rst := 0x80050, n := 16, sI := 0x100 }
  | .LCH_INT_AIS => { base := 0xB1018, acc := .rwu, rst := 0x100050, n := 16, sI := 0x100 }
  | .LCH_INT_LOF => { base := 0xB101C, acc := .rwu, rst := 0x180050, n := 16, sI := 0x100 }
  | .LCH_INT_RDI => { base := 0xB1020, acc := .rwu, rst := 0x80008, n := 16, sI := 0x100 }
  | .LCH_STATE => { base := 0xB1024, acc := .ro, n := 16, sI := 0x100 }
  | .LCH_STATUS => { base := 0xB1028, acc := .sq, n := 16, sI := 0x100 }
  | .LCH_HDR_ERR => { base := 0xB1040, acc := .ro, n := 16, sI := 0x100 }
  | .LCH_HUNT_AMBIG => { base := 0xB1044, acc := .ro, n := 16, sI := 0x100 }
  | .LCH_PKT_TX => { base := 0xB1048, acc := .ro, n := 16, sI := 0x100 }
  | .LCH_PKT_RX => { base := 0xB104C, acc := .ro, n := 16, sI := 0x100 }
  | .LCH_RX_DUP => { base := 0xB1050, acc := .ro, n := 16, sI := 0x100 }
  | .LCH_RX_LATE => { base := 0xB1054, acc := .ro, n := 16, sI := 0x100 }
  | .LCH_RX_OVERRUN => { base := 0xB1058, acc := .ro, n := 16, sI := 0x100 }
  | .LCH_RX_BADLEN => { base := 0xB105C, acc := .ro, n := 16, sI := 0x100 }
  | .LCH_UNDERRUN => { base := 0xB1060, acc := .ro, n := 16, sI := 0x100 }
  | .LCH_RECENTRES => { base := 0xB1064, acc := .ro, n := 16, sI := 0x100 }
  | .LCH_TX_NOBUF => { base := 0xB1068, acc := .ro, n := 16, sI := 0x100 }
  | .LCH_HDR => { base := 0xB1080, acc := .rwu, n := 16, sI := 0x100, m := 16, sJ := 0x4 }
  | .CLS_CFG => { base := 0x100000, acc := .rwu, rst := 0x9100, n := 9, sI := 0x10000, mask := 0x1FFFF }
  | .CLS_PCP_MAP => { base := 0x100004, acc := .rwu, rst := 0xFAC688, n := 9, sI := 0x10000, mask := 0xFFFFFF }
  | .CLS_STATUS => { base := 0x100008, acc := .sq, n := 9, sI := 0x10000 }
  | .CLS_LOOKUPS => { base := 0x100040, acc := .ro, n := 9, sI := 0x10000 }
  | .CLS_DROPS => { base := 0x100044, acc := .ro, n := 9, sI := 0x10000 }
  | .CLS_TRAPS => { base := 0x100048, acc := .ro, n := 9, sI := 0x10000 }
  | .CLS_NO_DEST => { base := 0x10004C, acc := .ro, n := 9, sI := 0x10000 }
  | .CLS_PARSE_FAIL => { base := 0x100050, acc := .ro, n := 9, sI := 0x10000 }
  | .CLS_PARITY => { base := 0x100054, acc := .ro, n := 9, sI := 0x10000 }
  | .CLS_DEPTH => { base := 0x100058, acc := .ro, n := 9, sI := 0x10000 }
  | .CLS_EG_DROPS => { base := 0x10005C, acc := .ro, n := 9, sI := 0x10000 }
  | .CLS_HIT => { base := 0x100060, acc := .ro, n := 9, sI := 0x10000, m := 6, sJ := 0x8 }
  | .CLS_MISS => { base := 0x100064, acc := .ro, n := 9, sI := 0x10000, m := 6, sJ := 0x8 }
  | .CLS_S0_DEF_W1 => { base := 0x100100, acc := .rwu, rst := 0x8000000, n := 9, sI := 0x10000, m := 16, sJ := 0x10, mask := 0x1E7F0FFF }
  | .CLS_S0_DEF_W2 => { base := 0x100104, acc := .rwu, n := 9, sI := 0x10000, m := 16, sJ := 0x10, mask := 0xFFF03FFF }
  | .CLS_S0_DEF_W3 => { base := 0x100108, acc := .rwu, n := 9, sI := 0x10000, m := 16, sJ := 0x10 }
  | .DRIP_RATE => { base := 0x180800, acc := .rw, rst := 0x2710, n := 8, sI := 0x10, mask := 0x1FFFFF }
  | .DRIP_BURST => { base := 0x180804, acc := .rw, rst := 0x40, n := 8, sI := 0x10, mask := 0x1FFF }
  | .DRIP_PASSED => { base := 0x180808, acc := .ro, n := 8, sI := 0x10 }
  | .DRIP_DROPPED => { base := 0x18080C, acc := .ro, n := 8, sI := 0x10 }
  | .DRIP_TGT => { base := 0x180880, acc := .rw, n := 8, sI := 0x4, mask := 0x77777777 }
  | .DRIP_NOBUF => { base := 0x1808A0, acc := .ro }
  | .DRIP_BAD => { base := 0x1808A4, acc := .ro }
  | .DRIP_STATUS => { base := 0x1808A8, acc := .sq }
  | .MIR_CFG => { base := 0x180900, acc := .rwu, n := 4, sI := 0x4, mask := 0xF3FF3FFF }
  | .MAC_CFG => { base := 0x200000, acc := .rw, rst := 0x40002800, n := 130, sI := 0x400, mask := 0xC0003FFF }
  | .MAC_STATUS => { base := 0x200004, acc := .sq, n := 130, sI := 0x400 }
  | .MAC_STATE => { base := 0x200008, acc := .ro, n := 130, sI := 0x400 }
  | .MAC_MM_CFG => { base := 0x20000C, acc := .rwu, rst := 0xA0000, n := 130, sI := 0x400, mask := 0xF0FF00FF }
  | .MAC_MM_STATUS => { base := 0x200010, acc := .ro, n := 130, sI := 0x400 }
  | .MAC_EEE_CFG => { base := 0x200014, acc := .rw, rst := 0x14, n := 130, sI := 0x400, mask := 0x8000FFFF }
  | .MAC_EEE_TW => { base := 0x200018, acc := .rw, n := 130, sI := 0x400 }
  | .MAC_TS_ADJ => { base := 0x20001C, acc := .rw, n := 130, sI := 0x400 }
  | .MAC_DRAIN_LIMIT => { base := 0x200020, acc := .rw, rst := 0x3E8, n := 130, sI := 0x400, mask := 0xFFFF }
  | .MAC_STAT_HALF => { base := 0x200024, acc := .sq, n := 134, sI := 0x400, m := 3, sJ := 0x4 }
  | .MAC_STAT => { base := 0x200100, acc := .ro, n := 134, sI := 0x400, m := 56, sJ := 0x4 }
  | .LN_IND_ADDR => { base := 0x300000, acc := .rw }
  | .LN_IND_DATA => { base := 0x300004, acc := .rw }
  | .LN_CFG => { base := laneSpace + 0x0, acc := .ro, n := 42, sI := 0x10000 }
  | .LN_STATUS => { base := laneSpace + 0x1, acc := .sq, n := 42, sI := 0x10000 }
  | .LN_STATE => { base := laneSpace + 0x2, acc := .ro, n := 42, sI := 0x10000 }
  | .LN_TX_TAPS => { base := laneSpace + 0x3, acc := .rw, rst := 0x3000, n := 42, sI := 0x10000 }
  | .LN_TEST => { base := laneSpace + 0x4, acc := .rw, n := 42, sI := 0x10000 }
  | .LN_PRBS_ERR => { base := laneSpace + 0x5, acc := .ro, n := 42, sI := 0x10000 }
  | .LN_EYE_CMD => { base := laneSpace + 0x6, acc := .rw, rst := 0xA, n := 42, sI := 0x10000 }
  | .LN_FILL_DEL => { base := laneSpace + 0x8, acc := .ro, n := 42, sI := 0x10000 }
  | .LN_FILL_INS => { base := laneSpace + 0x9, acc := .ro, n := 42, sI := 0x10000 }
  | .LN_FEC_CORR => { base := laneSpace + 0xA, acc := .ro, n := 42, sI := 0x10000 }
  | .LN_FEC_UNCORR => { base := laneSpace + 0xB, acc := .ro, n := 42, sI := 0x10000 }
  | .LN_BIP_ERR => { base := laneSpace + 0xC, acc := .ro, n := 42, sI := 0x10000 }
  | .LN_LOCK_LOSS => { base := laneSpace + 0xD, acc := .ro, n := 42, sI := 0x10000 }
  | .LN_TRAIN_FAILS => { base := laneSpace + 0xE, acc := .ro, n := 42, sI := 0x10000 }
  | .LN_TRAIN_TIME => { base := laneSpace + 0xF, acc := .ro, n := 42, sI := 0x10000 }
  | .LN_EYE_DATA => { base := laneSpace + 0x800, acc := .ro, n := 42, sI := 0x10000, m := 2048, sJ := 0x1 }
  | .CAR_CFG => { base := 0x400000, acc := .rw, rst := 0x80000400, mask := 0x8000FFFF }
  | .CAR_STATUS => { base := 0x400004, acc := .sq }
  | .CAR_POOL => { base := 0x400008, acc := .ro }
  | .CAR_OWED => { base := 0x40000C, acc := .ro }
  | .CAR_MAX_RES => { base := 0x400010, acc := .rw, rst := 0x186A0, mask := 0x7FFFFF }
  | .CAR_DROPS => { base := 0x400040, acc := .ro }
  | .CAR_SPEC_DISCARD => { base := 0x400044, acc := .ro }
  | .CAR_AGED => { base := 0x400048, acc := .ro }
  | .CAR_BANK_EMPTY => { base := 0x40004C, acc := .ro }
  | .CAR_ECC_CORR => { base := 0x400050, acc := .ro }
  | .CAR_ECC_UNCORR => { base := 0x400054, acc := .ro }
  | .CAR_ECC_PTR => { base := 0x400058, acc := .ro }
  | .CAR_BANK_FREE => { base := 0x400080, acc := .ro, rst := 0x8000, n := 16, sI := 0x4 }
  | .CAR_IND_ADDR => { base := 0x400100, acc := .rw }
  | .CAR_IND_DATA => { base := 0x400104, acc := .ro }
  | .CAR_P_CFG => { base := 0x400400, acc := .rwu, n := 134, sI := 0x8, mask := 0xFFFF }
  | .CAR_P_USED => { base := 0x400404, acc := .ro, n := 134, sI := 0x8 }
  | .CAR_Q_CFG => { base := 0x410000, acc := .rwu, rst := 0x60010, n := 1080, sI := 0x10, mask := 0xFFFFF }
  | .CAR_Q_USED => { base := 0x410004, acc := .ro, n := 1080, sI := 0x10 }
  | .CAR_Q_DROP => { base := 0x410008, acc := .ro, n := 1080, sI := 0x10 }
  | .CAR_Q_MC_REFUSED => { base := 0x41000C, acc := .ro, n := 1080, sI := 0x10 }
  | .SCH_CFG => { base := 0x500000, acc := .rwu, rst := 0x140000, n := 134, sI := 0x1000, mask := 0xC0FF0000 }
  | .SCH_STATUS => { base := 0x500004, acc := .sq, n := 134, sI := 0x1000 }
  | .SCH_STATE => { base := 0x500008, acc := .ro, n := 134, sI := 0x1000 }
  | .SCH_GATES => { base := 0x50000C, acc := .ro, rst := 0xFFFF, n := 134, sI := 0x1000 }
  | .SCH_PORT_RATE => { base := 0x500010, acc := .rwu, n := 134, sI := 0x1000, mask := 0x1FFFFFF }
  | .SCH_PORT_BURST => { base := 0x500014, acc := .rwu, n := 134, sI := 0x1000, mask := 0xFFFFF }
  | .SCH_PORT_CREDIT => { base := 0x500018, acc := .ro, n := 134, sI := 0x1000 }
  | .SCH_GUARD => { base := 0x50001C, acc := .rwu, n := 134, sI := 0x1000 }
  | .SCH_GATE_CTRL => { base := 0x500020, acc := .rwu, rst := 0xFFFF, n := 134, sI := 0x1000, mask := 0x8000FFFF }
  | .SCH_ADMIN_LIST => { base := 0x500024, acc := .rwu, n := 134, sI := 0x1000 }
  | .SCH_ADMIN_CYCLE => { base := 0x500028, acc := .rwu, n := 134, sI := 0x1000 }
  | .SCH_ADMIN_EXT => { base := 0x50002C, acc := .rwu, n := 134, sI := 0x1000 }
  | .SCH_ADMIN_BASE_SEC_HI => { base := 0x500030, acc := .rwu, n := 134, sI := 0x1000 }
  | .SCH_ADMIN_BASE_SEC_LO => { base := 0x500034, acc := .rwu, n := 134, sI := 0x1000 }
  | .SCH_ADMIN_BASE_NS => { base := 0x500038, acc := .rwu, n := 134, sI := 0x1000 }
  | .SCH_OPER_LIST => { base := 0x500040, acc := .ro, n := 134, sI := 0x1000 }
  | .SCH_OPER_CYCLE => { base := 0x500044, acc := .ro, n := 134, sI := 0x1000 }
  | .SCH_OPER_EXT => { base := 0x500048, acc := .ro, n := 134, sI := 0x1000 }
  | .SCH_OPER_BASE_SEC_HI => { base := 0x50004C, acc := .ro, n := 134, sI := 0x1000 }
  | .SCH_OPER_BASE_SEC_LO => { base := 0x500050, acc := .ro, n := 134, sI := 0x1000 }
  | .SCH_OPER_BASE_NS => { base := 0x500054, acc := .ro, n := 134, sI := 0x1000 }
  | .SCH_CHANGE_SEC_HI => { base := 0x500058, acc := .ro, n := 134, sI := 0x1000 }
  | .SCH_CHANGE_SEC_LO => { base := 0x50005C, acc := .ro, n := 134, sI := 0x1000 }
  | .SCH_CHANGE_NS => { base := 0x500060, acc := .ro, n := 134, sI := 0x1000 }
  | .SCH_OVERRUNS => { base := 0x500080, acc := .ro, n := 134, sI := 0x1000 }
  | .SCH_DEFERS => { base := 0x500084, acc := .ro, n := 134, sI := 0x1000 }
  | .SCH_SDU_PASSED => { base := 0x500088, acc := .ro, n := 134, sI := 0x1000 }
  | .SCH_CFG_CHANGES => { base := 0x50008C, acc := .ro, n := 134, sI := 0x1000 }
  | .SCH_LATE_BASE => { base := 0x500090, acc := .ro, n := 134, sI := 0x1000 }
  | .SCH_STEPS => { base := 0x500094, acc := .ro, n := 134, sI := 0x1000 }
  | .SCH_PARITY => { base := 0x500098, acc := .ro, n := 134, sI := 0x1000 }
  | .SCH_Q_CFG => { base := 0x500100, acc := .rwu, rst := 0x1, n := 134, sI := 0x1000, m := 16, sJ := 0x20, mask := 0xBFFF00FF }
  | .SCH_Q_RATE => { base := 0x500104, acc := .rwu, n := 134, sI := 0x1000, m := 16, sJ := 0x20, mask := 0x1FFFFFF }
  | .SCH_Q_BURST => { base := 0x500108, acc := .rwu, n := 134, sI := 0x1000, m := 16, sJ := 0x20, mask := 0xFFFFF }
  | .SCH_Q_CREDIT => { base := 0x50010C, acc := .ro, n := 134, sI := 0x1000, m := 16, sJ := 0x20 }
  | .SCH_Q_SDU_DROP => { base := 0x500110, acc := .ro, n := 134, sI := 0x1000, m := 16, sJ := 0x20 }
  | .TBL_REQ => { base := 0x600000, acc := .wa, n := 16, sI := 0x4 }
  | .TBL_RES => { base := 0x600040, acc := .ro, n := 16, sI := 0x4 }
  | .TBL_STATUS => { base := 0x600080, acc := .ro }
  | .TBL_ERRORS => { base := 0x600084, acc := .ro }
  | .TBL_IND_ADDR => { base := 0x600100, acc := .rw }
  | .TBL_IND_DATA => { base := 0x600104, acc := .ro }
  | .FDB_CFG => { base := 0x600200, acc := .rw, rst := 0xE000012C, mask := 0xE000FFFF }
  | .FDB_MOVE_CFG => { base := 0x600204, acc := .rw, rst := 0x403E8, mask := 0xFFFFF }
  | .FDB_STATUS => { base := 0x600208, acc := .sq }
  | .FDB_COUNT => { base := 0x60020C, acc := .ro }
  | .FDB_LAST_FLAP => { base := 0x600210, acc := .ro }
  | .FDB_PARITY_IDX => { base := 0x600214, acc := .ro }
  | .FDB_LEARNS => { base := 0x600240, acc := .ro }
  | .FDB_MOVES => { base := 0x600244, acc := .ro }
  | .FDB_LEARN_BAD => { base := 0x600248, acc := .ro }
  | .FDB_LEARN_OVF => { base := 0x60024C, acc := .ro }
  | .FDB_LEARN_FULL => { base := 0x600250, acc := .ro }
  | .FDB_LEARN_REFUSED => { base := 0x600254, acc := .ro }
  | .FDB_FROZEN_HITS => { base := 0x600258, acc := .ro }
  | .FDB_AGED => { base := 0x60025C, acc := .ro }
  | .FDB_PARITY => { base := 0x600260, acc := .ro }
  | .FDB_NOTICE_DROP => { base := 0x600264, acc := .ro }
  | .FDB_STITCH_LOOP => { base := 0x600268, acc := .ro }
  | .RED_CFG => { base := 0x700000, acc := .rwu, rst := 0xE0000000, mask := 0xE0000000 }
  | .RED_STATUS => { base := 0x700004, acc := .sq }
  | .RED_NODE_TIME => { base := 0x700008, acc := .rwu, rst := 0x3C0190 }
  | .RED_FRER_RESET => { base := 0x70000C, acc := .rwu, rst := 0x7D0, mask := 0xFFFF }
  | .RED_LE_CFG => { base := 0x700010, acc := .rwu, rst := 0x3207D0 }
  | .RED_LAST_LE => { base := 0x700014, acc := .ro }
  | .RED_NODE_COUNT => { base := 0x700018, acc := .ro }
  | .RED_RTAG_PORTS => { base := 0x700020, acc := .rwu, n := 5, sI := 0x4 }
  | .RED_ACCEPTED => { base := 0x700040, acc := .ro }
  | .RED_DUPLICATES => { base := 0x700044, acc := .ro }
  | .RED_OUT_OF_ORDER => { base := 0x700048, acc := .ro }
  | .RED_HELD => { base := 0x70004C, acc := .ro }
  | .RED_HELD_RELEASED => { base := 0x700050, acc := .ro }
  | .RED_ROGUE => { base := 0x700054, acc := .ro }
  | .RED_NO_NODE => { base := 0x700058, acc := .ro }
  | .RED_WRONG_LAN => { base := 0x70005C, acc := .ro }
  | .RED_UNTAGGED => { base := 0x700060, acc := .ro }
  | .RED_CROSS_LAN => { base := 0x700064, acc := .ro }
  | .RED_SOURCE_REMOVED => { base := 0x700068, acc := .ro }
  | .RED_LATENT => { base := 0x70006C, acc := .ro }
  | .RED_PARITY => { base := 0x700070, acc := .ro }
  | .RED_RESETS => { base := 0x700074, acc := .ro }
  | .RED_PAIR_CFG => { base := 0x700100, acc := .rwu, n := 16, sI := 0x10, mask := 0xFD0003FF }
  | .RED_PAIR_PORTS => { base := 0x700104, acc := .rwu, n := 16, sI := 0x10, mask := 0x3FF03FF }
  | .RED_PAIR_SEQ => { base := 0x700108, acc := .ro, n := 16, sI := 0x10 }
  | .POL_CFG => { base := 0x800000, acc := .rwu, rst := 0xC0000000, mask := 0xC0000000 }
  | .POL_STATUS => { base := 0x800004, acc := .sq }
  | .POL_LAST_LATCH => { base := 0x800008, acc := .ro }
  | .POL_WIN_OUT => { base := 0x800040, acc := .ro }
  | .POL_WIN_DROPS => { base := 0x800044, acc := .ro }
  | .POL_METER_EXCEEDED => { base := 0x800048, acc := .ro }
  | .POL_METER_DROPS => { base := 0x80004C, acc := .ro }
  | .POL_PARITY => { base := 0x800050, acc := .ro }

/-- The families of block DEV (R465). -/
def famsDEV : List Fam :=
  [
    .DEV_IDENT, .DEV_ROAST_STATUS, .DEV_ROAST_FAULT_A, .DEV_ROAST_FAULT_B, .DEV_ROAST_LENGTH,
    .DEV_ROAST_CRC, .DEV_ROAST_BUILD_HI, .DEV_ROAST_BUILD_LO, .DEV_TEMP, .DEV_TEMP_LIMIT, .DEV_TEMP_STATUS]

/-- The families of block RST (R465). -/
def famsRST : List Fam :=
  [
    .RST_CAUSE, .RST_BLOCK_CAUSE, .RST_RAIL_FAULT, .RST_STRAPS, .RST_BOOT_TICKS, .RST_BLOCK_STATE,
    .RST_ISO_DISCARD, .RST_ISO_ERROR]

/-- The families of block HOT (R465). -/
def famsHOT : List Fam :=
  [
    .HOT_STATUS, .HOT_CLK_GOOD, .HOT_WAKE_BUDGET, .HOT_IDLE_TIME, .HOT_DOZE_NEED, .HOT_DOM_CMD,
    .HOT_LATE_WAKES, .HOT_LATE_INFO, .HOT_TICK, .HOT_DOM_MODE, .HOT_DOM_STATE, .HOT_IND_ADDR, .HOT_IND_DATA,
    .HOT_PORT_PWR]

/-- The families of block CTL (R465). -/
def famsCTL : List Fam :=
  [
    .CTL_ETYPE, .CTL_DEV_MAC_HI, .CTL_DEV_MAC_LO, .CTL_GUARD_CFG, .CTL_GUARD_SEAL, .CTL_GUARD_EPOCH,
    .CTL_GUARD_COUNT, .CTL_UPD_ARMED, .CTL_STATUS, .CTL_RX_DISCARD, .CTL_RX_UNKNOWN, .CTL_TAG_FAIL,
    .CTL_GUARD_REFUSED, .CTL_REPLAYS, .CTL_UPD_LATE, .CTL_CTX_CFG, .CTL_CTX_MAC_HI, .CTL_CTX_MAC_LO,
    .CTL_CTX_LAST]

/-- The families of block EVT (R465). -/
def famsEVT : List Fam :=
  [
    .EVT_CFG, .EVT_STATUS, .EVT_OFFER_TIMEOUT, .EVT_CTX_CMD, .EVT_CTX_STATE, .EVT_OFFERS, .EVT_REOFFERS,
    .EVT_WITHDRAWN, .EVT_STRAY, .EVT_NOBUF, .EVT_OFFER_SEQ, .EVT_PEND, .EVT_CLAIMED, .EVT_OUT, .EVT_LEVEL,
    .EVT_TGT]

/-- The families of block PCT (R465). -/
def famsPCT : List Fam :=
  [
    .PCT_STATUS, .PCT_CMD, .PCT_SWEEPS, .PCT_BW_CFG, .PCT_TEL_CFG, .PCT_TEL_PERIOD, .PCT_TEL_SEQ,
    .PCT_TEL_DROP, .PCT_TEL_SKIP, .PCT_OVF, .PCT_TEL_HDR, .PCT_TEL_BLOCKS, .PCT_TEL_PORTS, .PCT_CFG,
    .PCT_VAL_LO, .PCT_VAL_HI, .PCT_BW_RX, .PCT_BW_TX, .PCT_PEAK_RX, .PCT_PEAK_TX]

/-- The families of block TK (R465). -/
def famsTK : List Fam :=
  [
    .TK_STATUS, .TK_STATE, .TK_SERVO_SRC, .TK_SERVO_GAIN, .TK_STEP_LIMIT, .TK_LOCK_CFG, .TK_MAX_FREQ,
    .TK_FREQ_MANUAL, .TK_FREQ, .TK_INTEGRAL, .TK_LAST_OFFSET, .TK_PATH_DELAY, .TK_CLOCK_ID_HI,
    .TK_CLOCK_ID_LO, .TK_GM_ID_HI, .TK_GM_ID_LO, .TK_TIME, .TK_STEP, .TK_CMD, .TK_HOLD_TIME, .TK_STEPS,
    .TK_REFUSED, .TK_SAMPLES, .TK_FU_MISMATCH, .TK_RX_IGNORED, .TK_TC_NO_DELAY, .TK_DOM_CFG, .TK_DOM_INT,
    .TK_DOM_TAG, .TK_DOM_RX, .TK_PSTATE, .TK_ANN_TPL, .TK_PORT_CFG, .TK_PORT_ASYM, .TK_PORT_DELAY,
    .TK_PORT_PD_STATUS, .TK_PORT_PD_SENT, .TK_PORT_PD_OK, .TK_PORT_PD_RESP, .TK_PORT_TC]

/-- The families of block TIO (R465). -/
def famsTIO : List Fam :=
  [
    .TIO_STATUS, .TIO_PPS_OUT, .TIO_ADJ, .TIO_IRIG_CFG, .TIO_IRIG_TIME, .TIO_IRIG_TQ, .TIO_PPS_IN_CFG,
    .TIO_PPS_IN, .TIO_PPS_IN_EDGES, .TIO_PPS_IN_GLITCH]

/-- The families of block TWN (R465). -/
def famsTWN : List Fam :=
  [
    .TWN_CFG, .TWN_SNAP_CFG, .TWN_ST_CFG, .TWN_SLEW, .TWN_MGMT_MAC_HI, .TWN_MGMT_MAC_LO, .TWN_CMD,
    .TWN_STATUS, .TWN_STATE, .TWN_OUT_CORR, .TWN_SNAP_SEQ, .TWN_SNAP_AGE, .TWN_TAKEOVERS, .TWN_DUAL_CLAIMS,
    .TWN_FLASH_CMD, .TWN_FLASH_ADDR, .TWN_FLASH_STATUS, .TWN_HEALTH, .TWN_PEER_HEALTH, .TWN_LINK_OFFSET,
    .TWN_LINK_DELAY, .TWN_SEG_ERR, .TWN_HCRC_ERR, .TWN_MSG_ERR, .TWN_BAD_END, .TWN_LINK_DROPS,
    .TWN_FLASH_BUF]

/-- The families of block LBM (R465). -/
def famsLBM : List Fam :=
  [
    .LBM_STATUS, .LBM_DRIP_CAP, .LBM_FREE, .LBM_RES, .LBM_USED, .LBM_FAIL]

/-- The families of block EPT (R465). -/
def famsEPT : List Fam :=
  [
    .EPT_STATUS, .EPT_LEAD, .EPT_LATE_TOL, .EPT_MAX_AHEAD, .EPT_HOLD_MAX, .EPT_HOLD_USED, .EPT_PENDING,
    .EPT_HOST_CTX, .EPT_LAUNCHED, .EPT_RX_UNKNOWN, .EPT_LAUNCH_FULL, .EPT_HOLD_FULL, .EPT_TOO_FAR,
    .EPT_LATE, .EPT_LATE_DROP, .EPT_LATE_TX, .EPT_REPORTS, .EPT_REPORT_LOST]

/-- The families of block LCH (R465). -/
def famsLCH : List Fam :=
  [
    .LCH_SUMMARY, .LCH_RX_UNMATCHED, .LCH_CFG, .LCH_PKT, .LCH_RXID, .LCH_JB, .LCH_DEST, .LCH_INT_LOS,
    .LCH_INT_AIS, .LCH_INT_LOF, .LCH_INT_RDI, .LCH_STATE, .LCH_STATUS, .LCH_HDR_ERR, .LCH_HUNT_AMBIG,
    .LCH_PKT_TX, .LCH_PKT_RX, .LCH_RX_DUP, .LCH_RX_LATE, .LCH_RX_OVERRUN, .LCH_RX_BADLEN, .LCH_UNDERRUN,
    .LCH_RECENTRES, .LCH_TX_NOBUF, .LCH_HDR]

/-- The families of block CLS (R465). -/
def famsCLS : List Fam :=
  [
    .CLS_CFG, .CLS_PCP_MAP, .CLS_STATUS, .CLS_LOOKUPS, .CLS_DROPS, .CLS_TRAPS, .CLS_NO_DEST,
    .CLS_PARSE_FAIL, .CLS_PARITY, .CLS_DEPTH, .CLS_EG_DROPS, .CLS_HIT, .CLS_MISS, .CLS_S0_DEF_W1,
    .CLS_S0_DEF_W2, .CLS_S0_DEF_W3, .DRIP_RATE, .DRIP_BURST, .DRIP_PASSED, .DRIP_DROPPED, .DRIP_TGT,
    .DRIP_NOBUF, .DRIP_BAD, .DRIP_STATUS, .MIR_CFG]

/-- The families of block MAC (R465). -/
def famsMAC : List Fam :=
  [
    .MAC_CFG, .MAC_STATUS, .MAC_STATE, .MAC_MM_CFG, .MAC_MM_STATUS, .MAC_EEE_CFG, .MAC_EEE_TW, .MAC_TS_ADJ,
    .MAC_DRAIN_LIMIT, .MAC_STAT_HALF, .MAC_STAT]

/-- The families of block LN (R465). -/
def famsLN : List Fam :=
  [
    .LN_IND_ADDR, .LN_IND_DATA, .LN_CFG, .LN_STATUS, .LN_STATE, .LN_TX_TAPS, .LN_TEST, .LN_PRBS_ERR,
    .LN_EYE_CMD, .LN_FILL_DEL, .LN_FILL_INS, .LN_FEC_CORR, .LN_FEC_UNCORR, .LN_BIP_ERR, .LN_LOCK_LOSS,
    .LN_TRAIN_FAILS, .LN_TRAIN_TIME, .LN_EYE_DATA]

/-- The families of block CAR (R465). -/
def famsCAR : List Fam :=
  [
    .CAR_CFG, .CAR_STATUS, .CAR_POOL, .CAR_OWED, .CAR_MAX_RES, .CAR_DROPS, .CAR_SPEC_DISCARD, .CAR_AGED,
    .CAR_BANK_EMPTY, .CAR_ECC_CORR, .CAR_ECC_UNCORR, .CAR_ECC_PTR, .CAR_BANK_FREE, .CAR_IND_ADDR,
    .CAR_IND_DATA, .CAR_P_CFG, .CAR_P_USED, .CAR_Q_CFG, .CAR_Q_USED, .CAR_Q_DROP, .CAR_Q_MC_REFUSED]

/-- The families of block SCH (R465). -/
def famsSCH : List Fam :=
  [
    .SCH_CFG, .SCH_STATUS, .SCH_STATE, .SCH_GATES, .SCH_PORT_RATE, .SCH_PORT_BURST, .SCH_PORT_CREDIT,
    .SCH_GUARD, .SCH_GATE_CTRL, .SCH_ADMIN_LIST, .SCH_ADMIN_CYCLE, .SCH_ADMIN_EXT, .SCH_ADMIN_BASE_SEC_HI,
    .SCH_ADMIN_BASE_SEC_LO, .SCH_ADMIN_BASE_NS, .SCH_OPER_LIST, .SCH_OPER_CYCLE, .SCH_OPER_EXT,
    .SCH_OPER_BASE_SEC_HI, .SCH_OPER_BASE_SEC_LO, .SCH_OPER_BASE_NS, .SCH_CHANGE_SEC_HI, .SCH_CHANGE_SEC_LO,
    .SCH_CHANGE_NS, .SCH_OVERRUNS, .SCH_DEFERS, .SCH_SDU_PASSED, .SCH_CFG_CHANGES, .SCH_LATE_BASE,
    .SCH_STEPS, .SCH_PARITY, .SCH_Q_CFG, .SCH_Q_RATE, .SCH_Q_BURST, .SCH_Q_CREDIT, .SCH_Q_SDU_DROP]

/-- The families of block TBL (R465). -/
def famsTBL : List Fam :=
  [
    .TBL_REQ, .TBL_RES, .TBL_STATUS, .TBL_ERRORS, .TBL_IND_ADDR, .TBL_IND_DATA, .FDB_CFG, .FDB_MOVE_CFG,
    .FDB_STATUS, .FDB_COUNT, .FDB_LAST_FLAP, .FDB_PARITY_IDX, .FDB_LEARNS, .FDB_MOVES, .FDB_LEARN_BAD,
    .FDB_LEARN_OVF, .FDB_LEARN_FULL, .FDB_LEARN_REFUSED, .FDB_FROZEN_HITS, .FDB_AGED, .FDB_PARITY,
    .FDB_NOTICE_DROP, .FDB_STITCH_LOOP]

/-- The families of block RED (R465). -/
def famsRED : List Fam :=
  [
    .RED_CFG, .RED_STATUS, .RED_NODE_TIME, .RED_FRER_RESET, .RED_LE_CFG, .RED_LAST_LE, .RED_NODE_COUNT,
    .RED_RTAG_PORTS, .RED_ACCEPTED, .RED_DUPLICATES, .RED_OUT_OF_ORDER, .RED_HELD, .RED_HELD_RELEASED,
    .RED_ROGUE, .RED_NO_NODE, .RED_WRONG_LAN, .RED_UNTAGGED, .RED_CROSS_LAN, .RED_SOURCE_REMOVED,
    .RED_LATENT, .RED_PARITY, .RED_RESETS, .RED_PAIR_CFG, .RED_PAIR_PORTS, .RED_PAIR_SEQ]

/-- The families of block POL (R465). -/
def famsPOL : List Fam :=
  [
    .POL_CFG, .POL_STATUS, .POL_LAST_LATCH, .POL_WIN_OUT, .POL_WIN_DROPS, .POL_METER_EXCEEDED,
    .POL_METER_DROPS, .POL_PARITY]

/-- One register: its family and its indices. -/
structure Reg where
  /-- The family. -/
  f : Fam
  /-- The first index (a port, a context, a queue, a slice...). -/
  i : Nat := 0
  /-- The second index. -/
  j : Nat := 0
deriving DecidableEq, Repr

/-- The key of a register: its byte address (R10, R465), or its lane-window address above `laneSpace`. -/
def Reg.key (r : Reg) : Nat := r.f.row.base + r.i * r.f.row.sI + r.j * r.f.row.sJ

/-- The register of family `f` at key `a`, if `a` is one of the family's addresses. -/
def Fam.at? (f : Fam) (a : Nat) : Option Reg :=
  let w := f.row
  if a < w.base then none else
  let o := a - w.base
  let i := if w.sI = 0 then 0 else o / w.sI
  let r := if w.sI = 0 then o else o % w.sI
  let j := if w.sJ = 0 then 0 else r / w.sJ
  let k := if w.sJ = 0 then r else r % w.sJ
  if i < w.n ∧ j < w.m ∧ k = 0 then some ⟨f, i, j⟩ else none

/-- The families whose registers can stand at byte address `a` (R465). -/
def famsAt (a : Nat) : List Fam :=
  if a < 0x10000 then famsDEV else if a < 0x20000 then famsRST else if a < 0x30000 then famsHOT
  else if a < 0x40000 then famsCTL else if a < 0x50000 then famsEVT else if a < 0x60000 then famsPCT
  else if a < 0x70000 then famsTK else if a < 0x80000 then famsTIO else if a < 0x90000 then famsTWN
  else if a < 0xA0000 then famsLBM else if a < 0xB0000 then famsEPT else if a < 0xC0000 then famsLCH
  else if a < 0x200000 then famsCLS else if a < 0x300000 then famsMAC else if a < 0x400000 then famsLN
  else if a < 0x500000 then famsCAR else if a < 0x600000 then famsSCH else if a < 0x700000 then famsTBL
  else if a < 0x800000 then famsRED else if a < 0x900000 then famsPOL else if a < laneSpace then []
  else famsLN

/-- The register at key `a`: address bits [1:0] of a register address are ignored, and an address to
which no register is assigned has none (R41). -/
def decodeAddr (a : Nat) : Option Reg :=
  let b := if a < laneSpace then a - a % 4 else a
  (famsAt b).findSome? (fun f => f.at? b)

end Sys2Proof.Machine
end

