-- ==== Sys2Proof/Machine/State.lean ====
section
/-!
DEFINITION. Machine/State.lean: the whole state of the block as plain data, the faults and refusals, and the state
after reset.
-/
namespace Sys2Proof.Machine

/-- No command of the block stops on an error of its own: every rule gives its command an effect, so the type has no
constructor (safe: nothing raises it). -/
inductive Fault where
deriving DecidableEq, Repr

/-- Why a command is turned away. -/
inductive Refusal where
  /-- An arm of `exec` without a meaning raises it (safe: nothing can be proved of what the command does). -/
  | notModelled (mnemonic : String)
deriving DecidableEq, Repr

/-! ## Boot and reset (03_roast_image.md, 04_startup_reset.md) -/

/-- The states of the boot sequencer (R94). -/
inductive BootSt where
  | reset | fuse | rails | clocks | load | apply | running | bootFailed | railFault
deriving DecidableEq, Repr

/-- A selector word of a classification key (R71). -/
structure Sel where
  field : Nat
  srcBit : Nat
  keyBit : Nat
  width : Nat
deriving DecidableEq, Repr

/-- The Roast structure that image application fixes until the next device reset (R66 to R74, R81). -/
structure Roast where
  /-- The 42 lane records (R67). -/
  lanes : List Word := []
  /-- The 268 words of the port records (R68). -/
  ports : List Word := []
  /-- Region, first granule and count of each partition record (R69). -/
  parts : List (Nat × Nat × Nat) := []
  /-- Stage, KEY_BITS and selectors of each key record (R71). -/
  keys : List (Nat × Nat × List Sel) := []
  /-- GUARD_REGIONS (R72). -/
  guardRegions : Nat := 0
  /-- START and WORDS of each guard range (R72). -/
  guardRanges : List (Nat × Nat) := []
  /-- The pin records (R73). -/
  pins : List Word := []
  /-- A DV9064 image runs on a DV9128 (R80). -/
  narrowed : Bool := false
deriving DecidableEq, Repr

/-- The boot sequencer's own state (R94 to R100). -/
structure Boot where
  st : BootSt := .fuse
  /-- The fuse shadow (R101); `fuseFail` when its check failed (R95). -/
  fuses : Fuses
  fuseFail : Bool := false
  /-- Slot A was rejected, so slot B is the next source (R78). -/
  slotB : Bool := false
  /-- The source of the accepted image: 1 slot A, 2 slot B, 3 host link, 4 stitch link (R80). -/
  src : Nat := 0
  /-- The accepted image that IMAGE_APPLY applies. -/
  image : Bytes := []
  /-- The bytes accepted so far of a host-link or stitch-link image (R98, R434). -/
  rx : Bytes := []
  /-- Host lane and source address of the host-link image in progress (R98). -/
  rxFrom : Option (Nat × Nat) := none
  /-- Offer periods since the last device reset (R97). -/
  offers : Nat := 0
  /-- Hotplate ticks since the release of the reset (R91, RST_BOOT_TICKS). -/
  ticks : Nat := 0
  /-- Steps 1 to 4 of R77 are done: the device waits for the domains that it holds awake (R471). -/
  applied : Bool := false
deriving DecidableEq, Repr

/-- The states of a block (RST_BLOCK_STATE_n). -/
inductive BlkSt where
  | run | isolating | held | releasing | clockFail
deriving DecidableEq, Repr

/-- One block behind its isolation wrapper (R103, R104, R108, R109). -/
structure Blk where
  st : BlkSt := .run
  /-- What follows the isolation: a hold rather than a pulse. -/
  hold : Bool := false
  /-- REL_PENDING. -/
  relPend : Bool := false
  /-- Isolation has completed and the 64-cycle reset runs. -/
  inReset : Bool := false
  /-- A pulse arrived while the block was isolating or releasing: reset again (R103). -/
  again : Bool := false
  /-- The wrapper is closed. -/
  closed : Bool := false
  /-- In CLOCK_FAIL for a loss of XO_IN alone (R115). -/
  xo : Bool := false
deriving DecidableEq, Repr

/-! ## Hotplate and power domains (05_hotplate_power.md) -/

/-- The states of a power domain (HOT_DOM_STATE_n); ABSENT is computed. -/
inductive DomSt where
  | off | retained | waking | on | sleeping
deriving DecidableEq, Repr

/-- One power domain (R117 to R121, R50). -/
structure Dom where
  st : DomSt := .off
  /-- PEND_WAKE, with the class of the held wake and the gate opening of a gate-lead wake (R121, R122). -/
  pend : Option (Nat × Nat) := none
  /-- Groups whose strobe the domain missed while powered down (R50). -/
  missed : Nat := 0
  /-- Groups whose missed strobe included the guard shadows (R57). -/
  missedG : Nat := 0
  /-- The t_ref of the missed strobe of group 9 (R271). -/
  missedT : Nat := 0
  /-- The domain has been awake since the last device reset. -/
  warm : Bool := false
  /-- A sleep command put it to sleep, and no wake has been asked for since (R120). -/
  cmd : Bool := false
deriving DecidableEq, Repr

/-- A request waiting in the wake scheduler (R122): class 1 to 5 (5 is a sleep), domain, and for a gate-lead
wake the time of the gate opening in nanoseconds. -/
structure WakeReq where
  cls : Nat
  dom : Nat
  at_ : Nat
deriving DecidableEq, Repr

/-- The Hotplate (R112 to R125). -/
structure Hot where
  tick : Nat := 0
  /-- Retention RAM words that are not zero (R113). -/
  ram : List (Nat × Word) := []
  /-- Words whose stored copy carries a double-bit error (R113). -/
  ramBad : List Nat := []
  /-- HOT_CLK_GOOD (R114). -/
  clk : Nat := 1
  /-- Good windows in a row of SREF0 and SREF1 (R114). -/
  good0 : Nat := 0
  good1 : Nat := 0
  doms : List (Nat × Dom) := []
  queue : List WakeReq := []
  /-- Next gate openings, in nanoseconds, posted by sleeping transmit paths: port and time (R125). -/
  leads : List (Nat × Nat) := []
  /-- Ports whose transmit path sleeps, and those whose path has been called awake and is not ready yet (R125, R127). -/
  txAsleep : List Nat := []
  txWaking : List Nat := []
  /-- Ports whose gate opened before their transmit path was ready, with the HOT_TICK of that opening (R127). -/
  late : List (Nat × Nat) := []
  /-- Ports in Doze (R124). -/
  doze : List Nat := []
deriving DecidableEq, Repr

/-! ## Control engine (02_control_frames.md) -/

/-- A timed strobe that a group holds (R49, R50, R57). -/
structure Armed where
  ctx : Nat
  acting : Bool
  sec : Nat
  ns : Nat
  /-- NS was above its range: the groups' active values are free when it fires (R60). -/
  wild : Bool := false
deriving DecidableEq, Repr

/-- The cached response of a host context (R42): its REQUEST_ID, its payload words and the buffer that holds it (R357). -/
structure Cache where
  id : Nat
  resp : Bytes
  buf : Nat := 0
deriving DecidableEq, Repr

/-- A request in execution or waiting on a fence: what its response and its remaining operations need (R37, R38). -/
structure Req where
  lane : Nat
  ctx : Nat
  acting : Bool
  id : Nat
  opCount : Nat
  halt : Bool
  execNs : Nat
  /-- The operation words still to execute. -/
  rest : List Word
  /-- Operations still to execute. -/
  left : Nat
  done : Nat
  halted : Bool
  /-- Response words formed so far. -/
  resp : List Word
  /-- Pulses of the request's own host interface, carried out after the response (R106). -/
  ownPulse : Bool
  /-- The response's destination, and its source: the address to which the request was sent (R45, R423). -/
  da : Nat
  sa : Nat
deriving DecidableEq, Repr

/-- A fence that waits (R53): the frames whose lookup began before it, and the request that resumes. -/
structure Fence where
  ctx : Nat
  waits : List Nat
  req : Option Req
deriving DecidableEq, Repr

/-- The result of the last single control operation: its STATUS, its response COUNT and its data words (R37, R40). -/
structure OpRes where
  status : Nat := 0
  count : Nat := 0
  data : List Word := []
deriving DecidableEq, Repr

/-- A table command that waits for a sleeping table bank (R118): its issuer, its words, the result words that it returns, and the
request that resumes with it. -/
structure TblWait where
  ctx : Nat
  acting : Bool
  words : List Word
  nres : Nat
  req : Option Req
deriving DecidableEq, Repr

/-- The control engine (R38, R42, R50, R52 to R58). -/
structure Ctl where
  caches : List (Nat × Cache) := []
  armed : List (Nat × Armed) := []
  fences : List Fence := []
  /-- Table commands that wait for a bank, in order (R118). -/
  tblWaits : List TblWait := []
  /-- Requests that wait in B10 behind a fence of their own context, in order of entry: context, host lane and frame (R38). -/
  held : List (Nat × Nat × Bytes) := []
deriving DecidableEq, Repr


/-! ## Serial lanes (06_lanes.md) -/

/-- The lane states of R143. -/
inductive LnSt where
  | off | cold | training | down | up | idle | test
deriving DecidableEq, Repr

/-- One serial lane (R133 to R145). -/
structure LaneS where
  st : LnSt := .off
  pll : Bool := false
  cdr : Bool := false
  sync : Bool := false
  mlock : Bool := false
  desk : Bool := false
  logical : Nat := 0
  skew : Nat := 0
  /-- Block position of the last valid alignment marker (R141). -/
  mkAt : Option Nat := none
  /-- Marker positions in a row without a valid marker. -/
  mkMiss : Nat := 0
  /-- Woken from IDLE and not yet UP. -/
  woke : Bool := false
  /-- HOT_TICK when the lane last entered COLD (LN_TRAIN_TIME). -/
  coldTick : Nat := 0
  /-- It has not been UP since it last entered COLD. -/
  bring : Bool := false
  /-- An LN_TEST word of a host lane that waits for its response to leave, and the word that it replaces (R144). -/
  testNext : Option (Word × Word) := none
  /-- Fill of the receive FIFO of each sub-port (R136). -/
  fill : List (Nat × Nat) := []
  /-- LN_EYE_DATA words that are not zero. -/
  eye : List (Nat × Word) := []
  eyeBusy : Bool := false
  /-- The last scan ended at once: every count reads 65,535 (R145). -/
  eyeSat : Bool := false
deriving DecidableEq, Repr

/-! ## Port MACs (07_mac.md) -/

/-- EN_STATE (R171, R172). -/
inductive EnSt where
  | disabled | enabled | disabling
deriving DecidableEq, Repr

/-- VERIFY (R159). -/
inductive VerSt where
  | disabled | initial | verifying | succeeded | failed
deriving DecidableEq, Repr

/-- A frame in reception at a MAC (R151, R163). -/
structure RxSt where
  bytes : Bytes := []
  /-- The Carafe frame it feeds, if it is admitted for reception. -/
  fid : Option Nat := none
  /-- Discarded at B2 for lack of credit (R153). -/
  noCredit : Bool := false
  /-- Discarded by a preemption error before its end (R163). -/
  asmBad : Bool := false
  /-- A receive FIFO overflowed or underran within it (R138). -/
  code : Bool := false
  /-- The fragment count expected next, and the fragments received so far. -/
  expect : Nat := 0
  frags : Nat := 1
  /-- MAX_LEN as it stood when the frame began (R150). -/
  maxLen : Nat := 10240
deriving DecidableEq, Repr

/-- One port MAC (R149 to R174). -/
structure Mac where
  en : EnSt := .disabled
  enPend : Bool := false
  /-- The drain step of the disable in progress has ended (R172). -/
  drained : Bool := false
  link : Bool := false
  speed : Nat := 0
  ver : VerSt := .disabled
  tries : Nat := 0
  /-- MAC_MM_CFG has been written since the last strobe that took it (R159). -/
  mmWr : Bool := false
  hold : Bool := false
  txLpi : Bool := false
  rxLpi : Bool := false
  rf : Bool := false
  lf : Bool := false
  rx : Option RxSt := none
  asm : Option RxSt := none
  /-- The express copy in transmission, and the preemptable one. -/
  tx : Option Nat := none
  txP : Option Nat := none
  /-- The nanoseconds of low-power idle in both directions that LPI_TIME has not counted yet (R175). -/
  lpiRest : Nat := 0
  /-- The time-PLL tick before which nothing is sent, after an end of transmit low-power idle (R127, R169). -/
  txWait : Nat := 0
  /-- The end of the inter-frame gap behind the last frame sent, in ps of ticks (R257). -/
  gapEnd : Nat := 0
  /-- TX_DISABLE of the port is asserted on its serial-GPIO chain (R73, R171, R172). -/
  txDis : Bool := true
  /-- Frames of the control engine that wait for the end of the frame in transmission (R23), each with the local-store buffer, owner
  and number, that it holds until it has left (R394), and a pulse of the port's own host interface that waits for the last of them
  (R106). -/
  ctlq : List (Bytes × Option (Nat × Nat)) := []
  ownPulse : Bool := false
deriving DecidableEq, Repr

/-! ## Lookup results (08_classification.md) -/

/-- The carry field (R183). -/
structure Carry where
  handle : Nat := 0
  handleV : Bool := false
  cls : Nat := 0
  vid : Nat := 0
  fid : Nat := 0
  destKind : Bool := false
  dest : Nat := 0
  destSet : Bool := false
  mirror : Nat := 0
  copy : Bool := false
  copyCtx : Nat := 0
  verdict : Nat := 0
  reason : Nat := 0
  learn : Bool := false
  req : Nat := 0
  hit : Nat := 0
  user : Nat := 0
deriving DecidableEq, Repr

/-- A learn or refresh request (R208). -/
structure LearnReq where
  fid : Nat
  mac : Nat
  ref : Nat
  refresh : Bool
  /-- It came as a notice over a stitch link (R224). -/
  notice : Bool
deriving DecidableEq, Repr

/-- Per-context and per-engine table state (09_fdb_learning.md). -/
structure Tbl where
  /-- Table memory words that are not zero, and the FDB overflow store from word 6,291,456 on (R472). -/
  mem : List (Nat × Word) := []
  /-- Words of the entry buffers that are not zero: word n of context c at 64 c + n (R210). -/
  buf : List (Nat × Word) := []
  /-- TBL_REQ and TBL_RES words of the contexts: word n of context c at 16 c + n. -/
  req : List (Nat × Word) := []
  res : List (Nat × Word) := []
  /-- The learning queue (R214). -/
  queue : List LearnReq := []
  /-- Next index of the aging sweep (R221). -/
  agePos : Nat := 0
  /-- The flush sweep: its filter words and position (R222, R223). -/
  flush : Bool := false
  filters : List Word := []
  flushPos : Nat := 0
  flushCtx : Nat := 0
  flushLink : Bool := false
  flushGuard : Bool := false
  /-- References of link-down flushes that wait (R223). -/
  waiting : List Nat := []
deriving DecidableEq, Repr

/-! ## The Carafe (10_carafe.md) -/

/-- What a copy is (R194, R195, R197, R244). -/
inductive CopyKind where
  | fwd
  | host (ctx : Nat)
  | mirror (m trunc : Nat)
  | drip (ctx parse : Nat) (trunc : Bool)
  | report (ctx : Nat) (pfx : List Word)
  | own
deriving DecidableEq, Repr

/-- The redundancy edits of a copy (R289), each with its word: sequence, LanId or PATH. -/
structure RedEdit where
  rctAdd : Option (Nat × Nat) := none
  rctDel : Bool := false
  hsrAdd : Option (Nat × Nat) := none
  hsrDel : Bool := false
  rtagAdd : Option Nat := none
  rtagDel : Bool := false
deriving DecidableEq, Repr

/-- What becomes of a copy's transmit timestamp (R165, R167, R319 to R322, R351): nothing; a launch report or stamp;
a PTP message of the engine. -/
inductive Note where
  | none
  | launch (ctx : Nat) (pfx : List Word)
  | sync (dom port seq : Nat) (oneStep : Bool)
  | delayReq (dom port seq : Nat)
  | pdelayReq (port seq : Nat)
  | pdelayResp (port seq : Nat) (t2 : Nat) (oneStep : Bool) (req : Bytes)
deriving DecidableEq, Repr

/-- One copy of a frame in a queue or on its way out (R241, R246, R250). -/
structure CCopy where
  id : Nat
  frame : Nat
  port : Nat
  queue : Nat
  kind : CopyKind := .fwd
  /-- The board-set reference that its destination names, where one does (R192, R195). -/
  toRef : Option Nat := none
  /-- An eliminated copy of the duplicate decision (R285). -/
  elim : Bool := false
  /-- Must be stored whole (R246, R290). -/
  store : Bool := false
  cut : Bool := false
  held : Bool := false
  elig : Bool := false
  red : RedEdit := {}
  note : Note := .none
  /-- Order of issue to its drain; 0 while not issued (R235). -/
  issued : Nat := 0
  express : Bool := true
  /-- Bytes the drain has read. -/
  read : Nat := 0
  /-- The S5 result word, once the copy has passed S5 (R191). -/
  s5 : Option Word := none
  begun : Bool := false
  /-- Its ball time as it stood at its issue, and the instant at which its transmission began or resumed, in ps of ticks (R257). -/
  ball : Nat := 0
  beg : Nat := 0
  /-- Bytes that the correction of R340 or a one-step insertion replaces: offset in the sent frame and bytes. -/
  patches : List (Nat × Bytes) := []
  /-- The UDP checksum that these patches touch (R167): offset of the PTP header, and 1 for IPv4 or 2 for IPv6. -/
  csum : Option (Nat × Nat) := none
  susp : Bool := false
  /-- Bytes sent in fragments that have ended. -/
  sent : Nat := 0
  preempts : Nat := 0
  /-- To be ended with an inverted FCS (R250), after 60 bytes of zeros if it was suspended when it was found bad. -/
  endBad : Bool := false
  zeros : Bool := false
  /-- Counted once in SCH_DEFERS, and the close instant before which it does not go (R269). -/
  deferred : Bool := false
  defClose : Option Int := none
  /-- Issued in byte mode with its length unknown (R262). -/
  owes : Bool := false
  /-- The close instant of its gate at issue, if it has one (R270). -/
  close : Option Nat := none
  /-- Transmit timestamp, in 2^-16 ns. -/
  tsTx : Nat := 0
  /-- Counted in EPT_LATE_TX (R349). -/
  late : Bool := false
  /-- MAX_LEN of its port as it stood when its transmission began (R150). -/
  maxLen : Option Nat := none
deriving DecidableEq, Repr

/-- A trapped frame in the Drip (R197). -/
structure DripSt where
  ctx : Nat
  reason : Nat
  parse : Nat
  pool : Nat
deriving DecidableEq, Repr

/-- One frame inside the device (R13, R234 to R251). -/
structure CFrame where
  /-- Ingress port; 133 for the service engine's frames, 134 for those of the endpoint and the line channels. -/
  src : Nat
  feed : Nat
  /-- Original ingress board-set reference (R208, R246). -/
  ref : Nat
  /-- Ingress rate in kb/s. -/
  rate : Nat
  /-- Ingress timestamp, in 2^-16 ns (R165). -/
  t : Nat
  /-- The bytes received so far, FCS included. -/
  bytes : Bytes := []
  ended : Bool := false
  /-- Registers that a strobe has changed since its lookup began, with the values that they had (R48). -/
  keeps : List (Reg × Word) := []
  /-- Its 96th byte, or its end, has reached its pipeline (R30); its place in the order in which frames entered the pipelines, 0 while
  it has not entered; and an admission that its lookup has kept waiting (log entry 108). -/
  started : Bool := false
  enter : Nat := 0
  admitDue : Bool := false
  looked : Bool := false
  /-- Slots in which its cells became complete. -/
  ctimes : List Nat := []
  /-- The cells written so far: cell number and pointer; and the bytes written of cell 0. -/
  cells : List (Nat × Nat) := []
  head : Nat := 0
  verdict : Option Bool := none
  bad : Bool := false
  /-- Admission has decided. -/
  decided : Bool := false
  gone : Bool := false
  /-- One of its copies has begun. -/
  anyBegun : Bool := false
  carry : Carry := {}
  /-- ALT_TPID of its ingress pipeline and CLASS, as they stood when it left S4 (R191). -/
  alt : Option Nat := none
  s4cls : Nat := 0
  oow : Bool := false
  exceeded : Bool := false
  plan : List CCopy := []
  /-- The tick, in ns, of its admission (R253). -/
  born : Nat := 0
  learn : Option LearnReq := none
  drip : Option DripSt := none
  /-- The policer that charged NOM_LEN at lookup, and that NOM_LEN (R54, R279). -/
  meter : Option (Nat × Nat) := none
  /-- The frame is confirmed for the audit (R300), once; the audit entry it uses. -/
  audit : Option Nat := none
  /-- AUDITED, LATE, EARLY, GAP, REPEAT and DECODE_ERR of the arrival prefix, bit 5 down (R351). -/
  audFlags : Nat := 0
  /-- Sequence, pair and side that the redundancy functions gave or found (R288, R289). -/
  pair : Option Nat := none
  sideB : Bool := false
  seqNo : Option Nat := none
  /-- A PRP decision waits for the verdict (R294). -/
  prpWait : Bool := false
  dup : Nat := 0
  /-- The launch time in nanoseconds and DROP_LATE of an endpoint launch (R344). -/
  launch : Option (Nat × Bool) := none
  /-- The pair and the sequence that a stitch header brings or carries on, when a pair spans a twin (R289, R429). -/
  stitchSeq : Option (Nat × Nat) := none
  /-- The local-store buffer that it holds until it has been sent: owner and number (R372). -/
  buf : Option (Nat × Nat) := none
  /-- A stitch link's receive FIFO failed within it (R138). -/
  codeErr : Bool := false
  /-- The line channel that formed it (R372); the host port on which a launch counts as received (R347). -/
  chan : Option Nat := none
  via : Option Nat := none
deriving DecidableEq, Repr

/-- The Carafe (R229 to R255). -/
structure Car where
  /-- Slots since the release of block 17 (R232). -/
  slot : Nat := 0
  next : Nat := 0
  /-- The frames that have entered an ingress pipeline so far. -/
  enters : Nat := 0
  seq : Nat := 1
  frames : List (Nat × CFrame) := []
  copies : List CCopy := []
  /-- The bytes of cells that are not all zero, by cell pointer. -/
  mem : List (Nat × Bytes) := []
  /-- Cells in which an error is known to stand: cell pointer, and whether it is uncorrectable (R230, R231). -/
  bad : List (Nat × Bool) := []
  scrub : Nat := 0
  /-- The free lists are being rebuilt (R105). -/
  rebuild : Bool := false
deriving DecidableEq, Repr

/-! ## Schedulers (11_scheduling.md) -/

/-- One port's scheduler (R261 to R273).  Credits count in 1/8,000,000 byte, one per ns and kb/s. -/
structure Sch where
  gates : Nat := 0xFFFF
  hold : Bool := false
  running : Bool := false
  pending : Bool := false
  entry : Nat := 0
  /-- The start of the cycle and of the entry in effect, in ns, and the interval of that entry as it stood then (R267). -/
  cycle : Int := 0
  start : Int := 0
  ival : Nat := 0
  /-- An entry of the operating list has been given other words since the list started (R272, R283). -/
  rewr : Bool := false
  /-- The list's position waits for the wake of the table bank that holds it (R118, R273). -/
  stale : Bool := false
  credit : List (Nat × Int) := []
  portCredit : Int := 0
  /-- Timekeeper ticks up to which the credits are accounted. -/
  tick : Nat := 0
  defs : List (Nat × Int) := []
  turn : Nat := 0
  /-- The queue whose turn it is has had its quantum. -/
  served : Bool := false

deriving DecidableEq, Repr

/-- Token buckets kept by a tick count and a fraction: policers (R279) and the Drip (R198). -/
structure Bucket where
  tick : Nat := 0
  frac : Nat := 0
  tok : Nat := 0
deriving DecidableEq, Repr

/-! ## Redundancy (12_redundancy_audit.md) -/

/-- A provisional record (R296): the frame it waits for, the entry (region 0x0C or 0x09), its sequence and a held
duplicate. -/
structure Prov where
  frame : Nat
  region : Nat
  index : Nat
  seq : Nat
  held : Option Nat := none
deriving DecidableEq, Repr

/-- The stream unit's own state (R296, R298). -/
structure Red where
  /-- Provisional records by receiving port. -/
  prov : List (Nat × Prov) := []
  /-- Next index of each sweep: node reset, record reset, node forget, latent error. -/
  nodePos : Nat := 0
  recPos : Nat := 0
  forgetPos : Nat := 0
  latPos : Nat := 0
  /-- Policer buckets by index. -/
  meters : List (Nat × Bucket) := []
deriving DecidableEq, Repr


/-! ## Time (13_time.md) -/

/-- A Timekeeper time (R305): seconds, nanoseconds and 2^-32 ns. -/
structure TimeVal where
  sec : Nat := 0
  ns : Nat := 0
  frac : Nat := 0
deriving DecidableEq, Repr

/-- The servo's states (R329). -/
inductive Servo where
  | free | acquiring | locked | holdover
deriving DecidableEq, Repr

/-- A front port's peer-delay measurement (R320): the outstanding request, its responders and the filtered delay
in 2^-32 ns. -/
structure Pd where
  seq : Nat := 0
  sent : Bool := false
  t1 : Option Nat := none
  /-- The responder to the outstanding request: its sourcePortIdentity. -/
  who : Option Nat := none
  /-- The request has given a sample, or one was refused; more than one responder has answered it. -/
  done : Bool := false
  multi : Bool := false
  /-- The filtered delay and TK_PORT_PD_STATUS as they stood before its sample, which a second responder still takes back. -/
  prior : Option (Int × Word) := none
  /-- A two-step response that awaits its follow-up: t4, t2 and the correctionField, in 2^-16 ns. -/
  wait : Option (Nat × Nat × Int) := none
  delay : Int := 0
deriving DecidableEq, Repr

/-- A PTP message that waits for a local-store buffer or is due to be sent (R319, R322, R357): the message kind of its
row (0x0 Sync, 0x1 Delay_Req, 0x2 Pdelay_Req, 0x3 Pdelay_Resp, 0x8 Follow_Up, 0x9 Delay_Resp, 0xA
Pdelay_Resp_Follow_Up, 0xB Announce). -/
structure PtpMsg where
  kind : Nat
  dom : Nat
  port : Nat
  seq : Nat
  /-- The payload from byte 0 of the PTP header. -/
  body : Bytes
  note : Note := .none
  /-- Nanoseconds of ticks at which it fell due. -/
  due : Nat := 0
deriving DecidableEq, Repr

/-- The Timekeeper, the servo and the PTP engine (R305 to R335). -/
structure Time where
  now : TimeVal := {}
  /-- Time-PLL ticks of 4 ns since the first lock. -/
  ticks : Nat := 0
  pllLost : Bool := true
  /-- The time PLL has been locked and stable at boot step 4 (R310). -/
  begun : Bool := false
  servo : Servo := .free
  cause : Nat := 0
  auto : Bool := false
  lockRun : Nat := 0
  badRun : Nat := 0
  /-- FREQ and I in 2^-32 ppb. -/
  freq : Int := 0
  integ : Int := 0
  /-- Tick of entry into HOLDOVER. -/
  holdTick : Option Nat := none
  /-- A step command that executes at the next tick: ACTION and operand (R331). -/
  cmd : Option (Nat × TimeVal) := none
  /-- An automatic step of −x, in 2^-16 ns, that executes at the next tick (R328). -/
  autoStep : Option Int := none
  /-- Latches of TK_TIME and of TIO_PPS_IN by context (R309). -/
  latch : List (Nat × List Word) := []
  latchP : List (Nat × List Word) := []
  /-- A two-step Sync awaiting its Follow_Up: sequenceId, t2 and correctionField. -/
  fuWait : Option (Nat × Nat × Int) := none
  /-- t1, t2 and cSync of the last sample, for R321, in 2^-16 ns. -/
  lastSync : Option (Int × Int × Int) := none
  /-- The outstanding Delay_Req: sequenceId and t3. -/
  dreq : Option (Nat × Option Nat) := none
  seqs : List (Nat × Nat) := []
  pds : List (Nat × Pd) := []
  pathDelay : Int := 0
  pathValid : Bool := false
  /-- Follow_Ups and Pdelay_Resp_Follow_Ups to send. -/
  fus : List PtpMsg := []
  pfus : List PtpMsg := []
  /-- Messages that wait for a buffer (R357). -/
  retry : List PtpMsg := []
  /-- Tick of the last accepted PPS_IN edge. -/
  ppsTick : Option Nat := none
  /-- PPS_OUT0 and PPS_OUT1 are high. -/
  pps : List (Nat × Bool) := []
  /-- OUT_CORR in 0.5 ns (R420). -/
  corr : Int := 0
  irigBusy : Bool := false
deriving DecidableEq, Repr

/-! ## Line channels (15_line_channels.md) -/

/-- The framer's states (R366). -/
inductive Framer where
  | off | hunt | sync
deriving DecidableEq, Repr

/-- The jitter buffer's states (R375): idle, FILL, PLAY. -/
inductive Jb where
  | idle | fill | play
deriving DecidableEq, Repr

/-- One line channel (R361 to R378). -/
structure Chan where
  framer : Framer := .off
  jb : Jb := .idle
  /-- The channel runs: its ring buffer is held. -/
  on : Bool := false
  /-- The ring buffer's pool (R374). -/
  pool : Option Nat := none
  /-- EN is set and the ring buffer has been refused so far (R377). -/
  want : Bool := false
  /-- A disable runs (R377). -/
  disabling : Bool := false
  enPend : Bool := false
  errRun : Nat := 0
  rxN : Nat := 0
  /-- The received RDI bit (R368). -/
  rxRdi : Bool := false
  rxL : Bool := false
  rxR : Bool := false
  /-- Raw conditions and declared defects: LOS 3, AIS 2, LOF 1, RDI 0 (LCH_STATE). -/
  raw : Nat := 0
  defects : Nat := 0
  /-- Samples in a row that call for a change, by defect bit (R368). -/
  runs : List (Nat × Nat) := []
  /-- Slots of the ring that hold data, by their distance from the play position p (R374). -/
  ring : List (Nat × Bytes) := []
  /-- The play position p, in frames modulo 65,536 F. -/
  p : Nat := 0
  /-- The previous packet overran (R375). -/
  overran : Bool := false
  /-- Bytes gathered toward the next packet (R370), and the packet buffer held from its first byte (R372). -/
  gather : Bytes := []
  pktPool : Option Nat := none
  /-- SEQUENCE of the next packet. -/
  seq : Nat := 0
  /-- The data extracted last (R378). -/
  last : Bytes := []
  /-- A frame on LC_TX is in progress (R364). -/
  sending : Bool := false
deriving DecidableEq, Repr

/-! ## Events (16_events.md) -/

/-- The states of an event source (R382). -/
inductive SrcSt where
  | idle | pending | claimed
deriving DecidableEq, Repr

/-- One event source (R382, R386, R391). -/
structure Src where
  st : SrcSt := .idle
  edges : Nat := 0
  pendNs : Nat := 0
  again : Bool := false
  claimer : Nat := 0
  /-- The context to which an offer is outstanding. -/
  offered : Option Nat := none
  /-- The source needs an offer, with this RKIND. -/
  need : Option Nat := none
deriving DecidableEq, Repr

/-- The event controller (R382 to R395). -/
structure Evt where
  srcs : List (Nat × Src) := []
  /-- DORMANT_HOST and DORMANT_LANE, bit c for context c (R388). -/
  dormHost : Nat := 0
  dormLane : Nat := 0
  /-- Contexts whose offer frame found no buffer (R394). -/
  noBuf : List Nat := []
deriving DecidableEq, Repr

/-! ## Counters (17_counters.md) -/

/-- A reading latched for a context (R405): context, counter, its 48-bit value, and the value of the odd counter of
a chained pair. -/
structure PctLatch where
  ctx : Nat
  ctr : Nat
  val : Nat
  pair : Option Nat
deriving DecidableEq, Repr

/-- A telemetry export that falls due (R407, R408): its EXPORT_SEQ and bandwidth records, and the start of the sweep that gives its
counter values, once that has begun. -/
structure TelExport where
  seq : Nat
  bw : List Bytes
  sweep : Option (Nat × Nat) := none
deriving DecidableEq, Repr

/-- The counter collector (R399 to R407). -/
structure Pct where
  /-- Counters, 8 b + i. -/
  cnt : List (Nat × Nat) := []
  mir : List (Nat × Nat) := []
  latches : List PctLatch := []
  /-- Counters to clear when their domain next wakes (R401). -/
  clearOnWake : List Nat := []
  slot : Nat := 0
  /-- The export that waits for its sweep (R407). -/
  exp : Option TelExport := none
  /-- Octets of the window in progress, per port. -/
  rx : List (Nat × Nat) := []
  tx : List (Nat × Nat) := []
  /-- Nanoseconds field at the end of the last window (R408). -/
  winNs : Nat := 0
deriving DecidableEq, Repr

/-! ## Endpoint and local store (14_endpoint.md) -/

/-- A launch accepted and waiting for T − LEAD (R345). -/
structure Launch where
  /-- Launch time in nanoseconds. -/
  t : Nat
  ctx : Nat
  lane : Nat
  /-- The launch prefix's four words. -/
  pfx : List Word
  inner : Bytes
  /-- The cells written for it. -/
  cells : List Nat
  dropLate : Bool
deriving DecidableEq, Repr

/-- The endpoint's launch store (R345). -/
structure Ept where
  launches : List Launch := []
deriving DecidableEq, Repr

/-- The local buffer manager (R354 to R356): USED_o,k at 4 o + k; the buffers in use, each with its owner, buffer i of pool k being
4 i + k; and the words of the local store that are not zero, counted from its first (log entry 89). -/
structure Lbm where
  used : List (Nat × Nat) := []
  held : List (Nat × Nat) := []
  mem : List (Nat × Word) := []
deriving DecidableEq, Repr

/-! ## Stitch links and the twin (18_twins.md) -/

/-- A stitch message that waits to be sent (R427, R430): KIND, MSG_SEQ, ARG0, ARG1 and body. -/
structure SMsg where
  kind : Nat
  seq : Nat := 0
  a0 : Word := 0
  a1 : Word := 0
  body : List Word := []
deriving DecidableEq, Repr

/-- One stitch link (R426 to R432). -/
structure SLink where
  up : Bool := false
  /-- Channels in use: channel and copy sent; channel and frame received, none for a frame whose header was refused. -/
  tx : List (Nat × Nat) := []
  rx : List (Nat × Option Nat) := []
  /-- Data segments and messages sent, modulo 65,536 and 256, and the totals of the last CREDIT block received. -/
  sent : Nat := 0
  msgSent : Nat := 0
  freed : Nat := 0
  msgFreed : Nat := 0
  /-- Data segments and messages received, and the totals sent in the last CREDIT block. -/
  got : Nat := 0
  msgGot : Nat := 0
  told : Nat := 0
  msgTold : Nat := 0
  /-- Learn notices gathered (R433): FID, MAC and reference. -/
  notices : List (Nat × Nat × Nat) := []
  msgs : List SMsg := []
  /-- MSG_SEQ of the next message by KIND, at 16 kind. -/
  seqs : List (Nat × Nat) := []
  /-- Own TIME messages sent: MSG_SEQ and transmit timestamp in 2^-16 ns, the latest first (R432). -/
  timeTx : List (Nat × Nat) := []
  /-- The peer's TIME messages received: MSG_SEQ and receive timestamp, the latest first. -/
  timeRx : List (Nat × Nat) := []
deriving DecidableEq, Repr

/-- The roles of R414. -/
inductive Role where
  | off | standby | claiming | active | releasing
deriving DecidableEq, Repr

/-- A snapshot record being received (R417): its SNAP_SEQ, its length and the next word expected. -/
structure SnapRx where
  seq : Nat
  words : Nat
  next : Nat
deriving DecidableEq, Repr

/-- The twin's role machine, heartbeats, snapshot, self-test and image passing (R411 to R425, R434). -/
structure Twin where
  role : Role := .off
  peerRole : Nat := 0
  linkSilent : Bool := false
  pinSilent : Bool := false
  failed : Bool := false
  /-- ROLE_CLAIM_N is driven low. -/
  claimOut : Bool := false
  /-- PEER_CLAIM_N read low at the last tick; ticks in a row on which it has read high, at most 157. -/
  peerClaim : Bool := false
  high : Nat := 0
  /-- The claim trigger "entry into STANDBY" holds: until the role machine's first tick there is over (log entry 42). -/
  entry : Bool := false
  /-- The claim followed the start of the device, not a failure or a handover (R419). -/
  atStart : Bool := false
  /-- Ticks since the claim, while CLAIMING; or since that entry. -/
  claimTicks : Nat := 0
  /-- Nanoseconds of ticks at entry into ACTIVE from CLAIMING; and a takeover is in progress (R421). -/
  since : Option Nat := none
  taking : Bool := false
  /-- Output edges sent since entry into ACTIVE (R420). -/
  edges : Nat := 0
  flashAuth : Bool := false
  /-- The JEDEC reset commands have been sent (R421). -/
  flashReset : Bool := false
  /-- The buffer that holds the latest valid snapshot (R417). -/
  valid : Option Nat := none
  rx : Option SnapRx := none
  /-- The second and nanoseconds at which the latest valid snapshot was taken. -/
  takenSec : Nat := 0
  takenNs : Nat := 0
  validSeq : Nat := 0
  /-- SNAP_SEQ of the last snapshot sent. -/
  sentSeq : Nat := 0
  /-- The last 8 offsets of link 0, the latest first (R420). -/
  offs : List Int := []
  hbSeq : Nat := 0
  hbOut : Bool := false
  reportSeq : Nat := 0
  /-- LN_BIP_ERR of lanes T0 to T3 at the end of the last round (R425). -/
  bip : Nat := 0
  /-- Image passing (R434): the next byte to send; the blocks received since the last acknowledgement; blocks have come. -/
  image : Option Nat := none
  blocks : Nat := 0
  blocksCame : Bool := false
deriving DecidableEq, Repr

/-- The flash engine (R424): the operation in progress (OP, address, LEN) and RESULT. -/
structure Flash where
  busy : Option (Nat × Nat × Nat) := none
  result : Nat := 0
deriving DecidableEq, Repr

/-! ## Temperature and boundary scan (19_electrical.md) -/

/-- The temperature sensor (R459): the latest and the highest reading. -/
structure Temp where
  now : Int := 0
  max : Int := 0
  seen : Bool := false
deriving DecidableEq, Repr

/-- The states of the test access port (R457; IEEE 1149.1). -/
inductive Tap where
  | reset | idle | selDr | capDr | shDr | ex1Dr | pauDr | ex2Dr | updDr
  | selIr | capIr | shIr | ex1Ir | pauIr | ex2Ir | updIr
deriving DecidableEq, Repr

/-- The test access port (R457): its state, the instruction in effect and those in the shift registers, the latched
boundary-scan register, the TDO ball while it drives, and TCK. -/
structure Jtag where
  tap : Tap := .reset
  ir : Nat := 1
  irShift : Nat := 0
  dr : Nat := 0
  latch : Nat := 0
  tdo : Option Bool := none
deriving DecidableEq, Repr

/-! ## What leaves the device (log entry 5) -/

/-- One thing that leaves the device.  Frames are listed whole, at the instant their last byte is sent. -/
inductive Out where
  /-- A frame sent at a port, FCS included. -/
  | frame (port : Nat) (bytes : Bytes)
  /-- A frame ended with an inverted FCS (R250). -/
  | badFrame (port : Nat) (bytes : Bytes)
  /-- A fragment of a preemptable frame (R160, R161): whether it is a continuation, its fragment count modulo 4 (that of the frame's
  continuations), its data, and whether it is the final one. -/
  | fragment (port : Nat) (cont : Bool) (count : Nat) (bytes : Bytes) (final : Bool)
  /-- What a MAC sends in place of frames (R155): remote fault, or idle only; `none` when it goes on as usual. -/
  | signal (port : Nat) (remote : Option Bool)
  /-- A verify or respond mPacket (R159). -/
  | mpacket (port : Nat) (respond : Bool)
  /-- The answer to a tap request (R133): 1 updated, 2 maximum, 3 minimum. -/
  | tapAnswer (lane tap status : Nat)
  /-- A frame reaches the service engine at port 133 (R194, R315). -/
  | service (src ref t : Nat) (bytes : Bytes)
  /-- A stitch segment, its SEG block's word and its bytes; and a CREDIT block (R426). -/
  | seg (link : Nat) (w0 : Word) (data : Bytes)
  | credit (link : Nat) (w0 : Word)
  /-- A C37.94 frame on LC_TX[c] (R361, R362; log entry 116): the Timekeeper instant in ns at which it begins, inverted or not, N,
  RDI and data; and its end at the tick of a step, before its last bit (R364). -/
  | line (chan : Nat) (at_ : Int) (inv : Bool) (n : Nat) (rdi : Bool) (data : Bytes)
  | lineCut (chan : Nat)
  /-- LC_TX[c] goes low and stays so (R377). -/
  | lineOff (chan : Nat)
  /-- A level change of an output pin (R455's index), at a Timekeeper time in 1/16 ns where one is given. -/
  | pin (pin : Nat) (high : Bool) (at_ : Int)
  /-- An IRIG-B frame (R335): the elements of its 100 positions (0, 1, and 2 for a marker). -/
  | irig (start : Int) (code : List Nat)
  /-- A flash command (R424): 1 READ, 2 PROGRAM, 3 ERASE_4K, 4 ERASE_64K, 5 status poll, 6 JEDEC reset. -/
  | flash (op addr : Nat) (data : Bytes)
  /-- The balls driven from the boundary-scan register (R457): instruction and register. -/
  | scan (ir latch : Nat)
deriving DecidableEq, Repr

/-! ## The whole state -/

/-- Everything the spec gives the block, and the queue of waiting commands. -/
structure State where
  /-- The commands that wait, first in, first out. -/
  pending : List Instr := []
  /-- The number of free values met so far (log entry 1; the model's own). -/
  freeCtr : Nat := 0
  /-- The result of the last single control operation (log entry 5; the model's own). -/
  opRes : OpRes := {}
  /-- What has left the device (log entry 5; the model's own). -/
  out : List Out := []
  /-- Registers whose active value is not their reset value, by key. -/
  regs : List (Nat × Word) := []
  /-- Shadows that differ from their active registers (R48). -/
  shadows : List (Nat × Word) := []
  boot : Boot
  /-- The structure of the running image (R66 to R74). -/
  roast : Roast := {}
  blks : List (Nat × Blk) := []
  hot : Hot := {}
  ctl : Ctl := {}
  lanes : List (Nat × LaneS) := []
  macs : List (Nat × Mac) := []
  tbl : Tbl := {}
  car : Car := {}
  schs : List (Nat × Sch) := []
  red : Red := {}
  /-- The Drip's buckets by context (R198). -/
  drip : List (Nat × Bucket) := []
  time : Time := {}
  ept : Ept := {}
  lbm : Lbm := {}
  chans : List (Nat × Chan) := []
  evt : Evt := {}
  pct : Pct := {}
  links : List (Nat × SLink) := []
  twin : Twin := {}
  flash : Flash := {}
  temp : Temp := {}
  jtag : Jtag := {}
deriving DecidableEq, Repr

/-- The fuses of a blank DV9128 of stepping A1 (R6, R64): nothing programmed but the part (log entry 7). -/
def blankFuses : Fuses := { part := 0x9128, stepping := 0xA1, keyHash := 0, sigRequired := false, guardKey := 0, bootMac := 0 }

/-- The LBM_RES_o_k reset values of R358: owner, pool and cells. -/
def lbmReset : List (Nat × Nat × Nat) :=
  [(0, 0, 9), (0, 1, 9), (0, 2, 9), (0, 3, 9), (1, 0, 256), (2, 0, 512), (2, 1, 256), (3, 1, 256), (3, 2, 32),
   (4, 0, 512), (4, 2, 128), (5, 0, 512)]

/-- The block right after reset: every register at its reset value, the fuse load about to complete (R94, R101). -/
def State.reset : State where
  boot := { fuses := blankFuses }
  regs := lbmReset.map (fun x => (Reg.key ⟨.LBM_RES, x.1, x.2.1⟩, BitVec.ofNat 32 x.2.2))

end Sys2Proof.Machine
end

