-- ==== Sys2Proof/Machine/Ops.lean ====
section
/-!
DEFINITION. Machine/Ops.lean: the named operations over registers, shadows, memories, free values and outputs.
-/
namespace Sys2Proof.Machine

/-! ## Registers: one home, read and written here only (R10, R47, R48) -/

/-- The stored (active) value of a register. -/
def State.reg (s : State) (r : Reg) : Word := mget r.f.row.rst s.regs r.key

/-- A register with a new stored value. -/
def State.setReg (s : State) (r : Reg) (w : Word) : State :=
  { s with regs := mput r.f.row.rst s.regs r.key w }

/-- The shadow of an RWU register: its active value unless a write has made it differ (R48). -/
def State.shadow (s : State) (r : Reg) : Word := (mfind s.shadows r.key).getD (s.reg r)

/-- An RWU register's shadow with a new value. -/
def State.setShadow (s : State) (r : Reg) (w : Word) : State :=
  { s with shadows := if w = s.reg r then mdel s.shadows r.key else mins s.shadows r.key w }

/-- The stored word of a register named by family and indices. -/
def State.rw (s : State) (f : Fam) (i : Nat := 0) (j : Nat := 0) : Word := s.reg ⟨f, i, j⟩

/-- The same as a number. -/
def State.rn (s : State) (f : Fam) (i : Nat := 0) (j : Nat := 0) : Nat := (s.reg ⟨f, i, j⟩).toNat

/-- The field of `n` bits at bit `lo` of a register. -/
def State.rf (s : State) (f : Fam) (i j lo n : Nat) : Nat := fld (s.reg ⟨f, i, j⟩) lo n

/-- A register with a new stored word. -/
def State.wr (s : State) (f : Fam) (i j : Nat) (w : Word) : State := s.setReg ⟨f, i, j⟩ w

/-- A change of an RWU register that the device itself makes: active and shadow alike (R48). -/
def State.hw (s : State) (f : Fam) (i j : Nat) (w : Word) : State :=
  let t := s.setReg ⟨f, i, j⟩ w
  { t with shadows := mdel t.shadows (Reg.key ⟨f, i, j⟩) }

/-- A change by the device of one field of an RWU register: in the active word and in the shadow (R48). -/
def State.hwFld (s : State) (f : Fam) (i j lo n v : Nat) : State :=
  let r : Reg := ⟨f, i, j⟩
  let sh := setFld (s.shadow r) lo n v
  (s.setReg r (setFld (s.reg r) lo n v)).setShadow r sh

/-- A counter of 32 bits advances by `n` and wraps to zero (R61 and its like). -/
def State.bump (s : State) (f : Fam) (i : Nat := 0) (j : Nat := 0) (n : Nat := 1) : State :=
  s.setReg ⟨f, i, j⟩ (s.reg ⟨f, i, j⟩ + wd n)

/-! ## Free values and outputs -/

/-- The next free value (log entry 1). -/
def State.free (s : State) : Nat := Config.free s.freeCtr

/-- A setting that its rule keeps within `lo` to `hi`: a value outside is a host error, and what the device then does with it
is a free value (R59; log entry 6). -/
def State.within (s : State) (lo hi v : Nat) : Nat := if lo ≤ v ∧ v ≤ hi then v else s.free

/-- The free-value counter advances. -/
def State.drawn (s : State) : State := { s with freeCtr := s.freeCtr + 1 }

/-- Something leaves the device (log entry 5). -/
def State.emit (s : State) (o : Out) : State := { s with out := s.out ++ [o] }

/-! ## Parts of State -/

/-- The device is in service (R94). -/
def isRunning (s : State) : Bool := s.boot.st == .running

/-- Timekeeper time in whole nanoseconds. -/
def State.now (s : State) : Nat := s.time.now.sec * 1000000000 + s.time.now.ns

/-- Nanoseconds of time-PLL ticks, by which the device measures a span that a time step does not change (R331; log entry 105). -/
def State.mono (s : State) : Nat := 4 * s.time.ticks

/-- The same in picoseconds. -/
def State.monoPs (s : State) : Nat := 4000 * s.time.ticks

/-- Block `b` behind its wrapper. -/
def State.blk (s : State) (b : Nat) : Blk := mget {} s.blks b

/-- Block `b` with `x`. -/
def State.setBlk (s : State) (b : Nat) (x : Blk) : State := { s with blks := mput {} s.blks b x }

/-- The wrapper of block `b` is closed (R104). -/
def closed (s : State) (b : Nat) : Bool := (s.blk b).closed

/-- The MAC of port `p`. -/
def State.mac (s : State) (p : Nat) : Mac := mget {} s.macs p

/-- The MAC of port `p` with `x`. -/
def State.setMac (s : State) (p : Nat) (x : Mac) : State := { s with macs := mput {} s.macs p x }

/-- Lane `l`. -/
def State.lane (s : State) (l : Nat) : LaneS := mget {} s.lanes l

/-- Lane `l` with `x`. -/
def State.setLane (s : State) (l : Nat) (x : LaneS) : State := { s with lanes := mput {} s.lanes l x }

/-- The scheduler of port `p`. -/
def State.sch (s : State) (p : Nat) : Sch := mget {} s.schs p

/-- The scheduler of port `p` with `x`. -/
def State.setSch (s : State) (p : Nat) (x : Sch) : State := { s with schs := mput {} s.schs p x }

/-- Line channel `c`. -/
def State.chan (s : State) (c : Nat) : Chan := mget {} s.chans c

/-- Line channel `c` with `x`. -/
def State.setChan (s : State) (c : Nat) (x : Chan) : State := { s with chans := mput {} s.chans c x }

/-- Stitch link `l` (0 for S0). -/
def State.link (s : State) (l : Nat) : SLink := mget {} s.links l

/-- Stitch link `l` with `x`. -/
def State.setLink (s : State) (l : Nat) (x : SLink) : State := { s with links := mput {} s.links l x }

/-- Timekeeper time in units of 2^-16 ns, rounded to the nearest 0.5 ns (R311), `half` half nanoseconds after the last
tick. -/
def State.stamp (s : State) (half : Nat) : Nat :=
  s.now * 65536 + (s.time.now.frac + 2 ^ 30) / 2 ^ 31 * 32768 + half * 32768

/-- The instant of `stamp` moved by an adjustment of `adj` 1/16 ns (R166), in the same units: the sum is rounded to the nearest
0.5 ns, so that every timestamp keeps that resolution (R311). -/
def State.stampBy (s : State) (half : Nat) (adj : Int) : Nat :=
  (((s.now * 2 ^ 32 + s.time.now.frac + half * 2 ^ 31 : Nat) + adj * 2 ^ 28 + 2 ^ 30 : Int) / 2 ^ 31).toNat * 32768

/-! ## The tick of the Timekeeper (R305, R306) -/

/-- A time value in 2^-32 ns. -/
def TimeVal.units (t : TimeVal) : Nat := (t.sec * 1000000000 + t.ns) * 2 ^ 32 + t.frac

/-- The time value of a count of 2^-32 ns. -/
def TimeVal.of (n : Nat) : TimeVal := ⟨n / 2 ^ 32 / 1000000000, n / 2 ^ 32 % 1000000000, n % 2 ^ 32⟩

/-- MAX_FREQ in 2^-32 ppb. -/
def maxFreq (s : State) : Int := (s.within 1000 1000000 (s.rf .TK_MAX_FREQ 0 0 0 20) * 2 ^ 32 : Nat)

/-- A frequency within MAX_FREQ. -/
def clampFreq (s : State) (f : Int) : Int := max (-maxFreq s) (min (maxFreq s) f)

/-- FREQ in 2^-32 ppb: TK_FREQ_MANUAL while FREE (R306). -/
def freqNow (s : State) : Int :=
  clampFreq s (if s.time.servo = .free then 2 ^ 24 * sgn 32 (s.rn .TK_FREQ_MANUAL) else s.time.freq)

/-- INCR in 2^-32 ns: 4 ns (1 + FREQ), rounded to the nearest (R306). -/
def incr (s : State) : Int := 2 ^ 34 + (8 * freqNow s + 1000000000) / 2000000000

/-- This tick is the last one at or before the instant `t` in ns: the next comes after it (R266). -/
def lastTick (s : State) (t : Int) : Bool := decide (t * 2 ^ 32 < (s.time.now.units : Int) + incr s)

/-! ## The table memory (R69, R472) and the retention RAM (R113), as word memories -/

/-- Word `w` of the table memory, numbered as the window of R472 numbers it. -/
def State.tw (s : State) (w : Nat) : Word := mget 0 s.tbl.mem w

/-- The table memory with word `w` written. -/
def State.setTw (s : State) (w : Nat) (v : Word) : State :=
  { s with tbl := { s.tbl with mem := mput 0 s.tbl.mem w v } }

/-- The `n` words of the table memory from word `w`. -/
def State.tws (s : State) (w n : Nat) : List Word := (List.range n).map (fun i => s.tw (w + i))

/-- The table memory with a list of words written from word `w`. -/
def State.setTws (s : State) : Nat → List Word → State
  | _, [] => s
  | w, v :: t => (s.setTw w v).setTws (w + 1) t

/-- Word `w` of the retention RAM. -/
def State.ramW (s : State) (w : Nat) : Word := mget 0 s.hot.ram w

/-- The retention RAM with word `w` written; a write stores a fresh code word, so it ends a double-bit error. -/
def State.setRamW (s : State) (w : Nat) (v : Word) : State :=
  { s with hot := { s.hot with ram := mput 0 s.hot.ram w v, ramBad := s.hot.ramBad.filter (· != w) } }

end Sys2Proof.Machine
end

