-- ==== Sys2Proof/Machine/Operands.lean ====
section
/-!
DEFINITION. Machine/Operands.lean: the operand forms: which ports, lanes, slices and queues exist, what their
numbers name, port masks and port references, and the statuses of R40.
-/
namespace Sys2Proof.Machine

/-! ## Statuses (R40) -/

def stOk : Nat := 0x00
def stUpdateLate : Nat := 0x01
def stDomainOff : Nat := 0x10
def stGuardDenied : Nat := 0x11
def stGuardSealed : Nat := 0x12
def stNotExecuted : Nat := 0x13
def stUpdateArmed : Nat := 0x14
def stNotPending : Nat := 0x15
def stNotClaimed : Nat := 0x16
def stNotTarget : Nat := 0x17
def stNotResettable : Nat := 0x18
def stTableError : Nat := 0x19

/-! ## Lanes, ports, queues (R2, R3, R14 to R17, R67) -/

/-- The device runs as a DV9064: by its fuses, or because a DV9064 image runs on it (R2, R80). -/
def isSmall (s : State) : Bool := s.boot.fuses.part == 0x9064 || s.roast.narrowed

/-- The lane record of lane `l` (R67). -/
def laneRec (s : State) (l : Nat) : Word := s.roast.lanes.getD l 0

/-- The mode of lane `l`; during a boot without a Roast the host lanes run 10GBASE-R (R97) and lanes T0 to T3
stitch mode (R99). -/
def laneMode (s : State) (l : Nat) : Nat :=
  if s.roast.lanes = [] then (if 40 ≤ l ∧ l < 42 then 0x6 else if 32 ≤ l ∧ l < 36 then 0xB else 0)
  else fld (laneRec s l) 22 4

/-- Lane `l` is not fused off (R2). -/
def laneFused (s : State) (l : Nat) : Bool := isSmall s && ((16 ≤ l && l < 32) || (36 ≤ l && l < 40))

/-- Lane `l` is present and not disabled: a lane in mode 0x0 never powers up (R67). -/
def lanePresent (s : State) (l : Nat) : Bool := l < 42 && !laneFused s l && laneMode s l != 0

/-- The lane (the first lane of a stitch link) that carries port `p`; 42 for the service port (R14, R16). -/
def portLane (p : Nat) : Nat :=
  if p < 128 then p / 4 else if p = 128 then 40 else if p = 129 then 41
  else if p = 130 then 32 else if p = 131 then 36 else if p = 132 then 38 else 42

/-- A quad-port lane mode (R14). -/
def quadMode (m : Nat) : Bool := m == 5 || m == 9

/-- Port `p` exists (R2, R15). -/
def portPresent (s : State) (p : Nat) : Bool :=
  if p < 128 then lanePresent s (p / 4) && (p % 4 == 0 || quadMode (laneMode s (p / 4)))
  else if p = 131 ∨ p = 132 then !isSmall s && laneMode s (portLane p) == 0xB
  else if p = 130 then laneMode s 32 == 0xB
  else p < 134

/-- The number of queues of a port (R16). -/
def queueCount (p : Nat) : Nat :=
  if p = 128 ∨ p = 129 then 16 else if p = 131 ∨ p = 132 then 4 else 8

/-- The queue of class `c` at port `p` (R17). -/
def classQueue (p c : Nat) : Nat := if p = 131 ∨ p = 132 then c / 2 else c

/-- The device-wide queue number of queue `i` of port `p` (R240 numbers CAR_Q_CFG_q). -/
def queueNo (p i : Nat) : Nat :=
  if p ≤ 128 then 8 * p + i
  else if p = 129 then 1040 + i else if p = 130 then 1056 + i else if p = 131 then 1064 + i
  else if p = 132 then 1068 + i else 1072 + i

/-- The port record words of port `p` (R68). -/
def portRec (s : State) (p : Nat) : Word × Word := (s.roast.ports.getD (2 * p) 0, s.roast.ports.getD (2 * p + 1) 0)

/-- STRICT of port `p`. -/
def portStrict (s : State) (p : Nat) : Nat := fld (portRec s p).1 19 5

/-- PREEMPT of port `p`. -/
def portPreempt (s : State) (p : Nat) : Bool := tst (portRec s p).1 18

/-- EEE of port `p`. -/
def portEee (s : State) (p : Nat) : Bool := tst (portRec s p).1 17

/-- The slice, write feed and read drain that serve port `p` (R22). -/
def feedOf (p : Nat) : Nat :=
  if p < 128 then p / 16 else if p = 128 ∨ p = 129 then 9 else if p < 133 then 8 else 10

/-- The ingress pipeline of port `p`: slices 0 to 7, or 8 for the internal pipeline. -/
def pipeOf (p : Nat) : Nat := if p < 128 then p / 16 else 8

/-- The port group, host interface or stitch block of a port (R102). -/
def portBlock (p : Nat) : Nat :=
  if p < 128 then 8 + p / 16 else if p < 130 then p - 96 else if p < 133 then p - 101 else 34

/-- The counter block and sub-unit of a port's MAC (R402). -/
def macBlock (p : Nat) : Nat := portBlock p

/-- The place of a port within its port group or slice. -/
def portSub (p : Nat) : Nat := if p < 128 then p % 16 else 0

/-! ## Port masks and references (R18, R19, R21) -/

/-- The ports of a 136-bit mask that exist: the bits of absent ports are ignored (R3, R15).  A mask with a reserved bit set gives a
free set of ports to the frames that use it (R19; log entry 6). -/
def maskPorts (s : State) (m : Nat) : List Nat := (onesOf 134 (if m < 2 ^ 134 then m else s.free)).filter (portPresent s)

/-- The bits of word `n` of a port mask whose ports exist (R3, R15, R18). -/
def maskBits (s : State) (n : Nat) : Word :=
  (List.range 32).foldl (fun w i => w ||| bitw i (decide (32 * n + i < 134) && portPresent s (32 * n + i))) 0

/-- A port mask held in five consecutive registers (R18). -/
def regMask (s : State) (f : Fam) : Nat :=
  sumN ((List.range 5).map (fun n => s.rn f n <<< (32 * n)))

/-- This device's number in its board set (R20). -/
def devNo (s : State) : Nat := s.rf .RST_STRAPS 0 0 2 2

/-- BOOT_SRC (R96). -/
def bootSrc (s : State) : Nat := s.rf .RST_STRAPS 0 0 0 2

/-- TWIN_ID. -/
def twinId (s : State) : Bool := tst (s.rw .RST_STRAPS) 4

/-- DEV_IDENT (R6, R95). -/
def devIdent (s : State) : Word :=
  if s.boot.fuseFail then 0 else put 16 16 s.boot.fuses.part ||| put 8 8 s.boot.fuses.stepping

/-- The port on this device that a board-set port reference names, or the stitch port toward its device (R20, R21);
`none` for a reserved reference or an absent port. -/
def refPort (s : State) (r : Nat) : Option Nat :=
  let d := nfld r 8 2
  let p := r % 256
  if p ≥ 134 then none
  else if d = devNo s then (if portPresent s p then some p else none)
  else
    let q := 129 + (d ^^^ devNo s)
    if portPresent s q then some q else none

/-- The board-set reference of a local port. -/
def portRef (s : State) (p : Nat) : Nat := devNo s * 256 + p

end Sys2Proof.Machine
end

