-- ==== Sys2Proof/Machine/Flags.lean ====
section
/-!
DEFINITION. Machine/Flags.lean: sequence-clear flags (R51), event sources (R381 to R395, R467, R468), performance
counters (R399 to R405) and the local buffers (R354 to R356): what every other part of the block reports through.
-/
namespace Sys2Proof.Machine

/-! ## Event sources -/

/-- A listed source whose resource is present (R467); the others never leave Idle. -/
def srcPresent (s : State) (n : Nat) : Bool :=
  if n < 90 then true
  else if 96 ≤ n ∧ n ≤ 98 then true
  else if 128 ≤ n ∧ n < 198 then !isSmall s || !([4, 5, 6, 7, 12, 13, 14, 15, 26, 30, 31].contains ((n - 128) / 2))
  else if 208 ≤ n ∧ n < 226 then !isSmall s || (n - 208) / 2 < 4 || (n - 208) / 2 == 8
  else if 256 ≤ n ∧ n < 390 then portPresent s (n - 256)
  else if 400 ≤ n ∧ n < 530 then portPresent s (n - 400)
  else if 530 ≤ n ∧ n < 572 then lanePresent s (n - 530)
  else if 576 ≤ n ∧ n < 592 then !isSmall s || n - 576 < 8
  else if 592 ≤ n ∧ n < 608 then !isSmall s || n - 592 < 8
  else false

/-- A level source (R468). -/
def srcLevel (n : Nat) : Bool := (96 ≤ n && n ≤ 98) || (592 ≤ n && n < 608)

/-- The condition of a level source (R468). -/
def levelCond (s : State) (n : Nat) : Bool :=
  if n = 96 then s.twin.failed
  else if n = 97 then s.rf .TK_SERVO_SRC 0 0 30 2 != 0 && s.time.servo != .locked
  else if n = 98 then decide (s.temp.now ≥ (s.rf .DEV_TEMP_LIMIT 0 0 0 8 : Int))
  else if 592 ≤ n ∧ n < 608 then (s.chan (n - 592)).defects != 0
  else false

/-- Source `n`. -/
def State.src (s : State) (n : Nat) : Src := mget {} s.evt.srcs n

/-- Source `n` with `x`. -/
def State.setSrc (s : State) (n : Nat) (x : Src) : State :=
  { s with evt := { s.evt with srcs := mput {} s.evt.srcs n x } }

/-- The target field of source `n`: EN and CTX (R386). -/
def srcTarget (s : State) (n : Nat) : Nat := s.rf .EVT_TGT (n / 8) 0 (4 * (n % 8)) 4

/-- A valid host context (R45). -/
def ctxValid (s : State) (c : Nat) : Bool := c < 8 && tst (s.rw .CTL_CTX_CFG c) 31

/-- The source is masked (R386). -/
def srcMasked (s : State) (n : Nat) : Bool := !(nbit (srcTarget s n) 3 && ctxValid s (srcTarget s n % 8))

/-- The holder of a Pending source (R382). -/
def srcHolder (s : State) (n : Nat) : Nat :=
  match (s.src n).offered with
  | some c => c
  | none => srcTarget s n % 8

/-- A source becomes Pending (R382): EDGES 1 and PEND_NS; it needs a first offer. -/
def pend (s : State) (n : Nat) : State :=
  s.setSrc n { st := .pending, edges := 1, pendNs := s.time.now.ns, need := some 0 }

/-- An edge of source `n` (R381, R382); lost while block 27 is held (R395). -/
def raiseEdge (s : State) (n : Nat) : State :=
  if closed s 27 || !srcPresent s n then s else
  let x := s.src n
  match x.st with
  | .idle => pend s n
  | .pending => s.setSrc n { x with edges := min 65535 (x.edges + 1) }
  | .claimed => s.setSrc n { x with again := true }

/-- The level sources. -/
def levelSources : List Nat := [96, 97, 98] ++ (List.range 16).map (· + 592)

/-- A level source follows its condition (R382, R395): Idle with the condition asserted becomes Pending, Pending with the condition
gone becomes Idle. -/
def levelStep (s : State) (n : Nat) : State :=
  if closed s 27 || !srcPresent s n then s else
  match (s.src n).st, levelCond s n with
  | .idle, true => pend s n
  | .pending, false => (s.setSrc n {}).bump .EVT_WITHDRAWN
  | _, _ => s

/-- Every level source follows its condition after a command (R381). -/
def levelRefresh (s : State) : State := levelSources.foldl levelStep s

/-! ## Sequence-clear registers (R51) and the sources of their flags (R467) -/

/-- The source of flag `b` of an SQ register (R467). -/
def flagSource (f : Fam) (i b : Nat) : Option Nat :=
  match f with
  | .CTL_STATUS => if b < 5 then some b else none
  | .HOT_STATUS => if b < 3 then some (5 + b) else none
  | .DEV_TEMP_STATUS => if b = 0 then some 13 else none
  | .EVT_STATUS => if b < 3 then some (14 + b) else none
  | .CAR_STATUS => if b < 4 then some (17 + b) else none
  | .FDB_STATUS => if b < 6 then some (21 + b) else none
  | .DRIP_STATUS => some (27 + b / 8)
  | .POL_STATUS => if b < 2 then some (29 + b) else none
  | .RED_STATUS => if b < 7 then some (31 + b) else none
  | .TK_STATUS => if b < 11 then some (38 + b) else none
  | .TIO_STATUS => if b < 4 then some (49 + b) else none
  | .EPT_STATUS => if b < 4 then some (53 + b) else none
  | .LBM_STATUS => if b < 4 then some (57 + b) else none
  | .PCT_STATUS => if b < 4 then some (61 + b) else none
  | .PCT_OVF => some (65 + i)
  | .TWN_STATUS => if b < 11 then some (79 + b) else none
  | .CLS_STATUS => if b < 2 then some (208 + 2 * i + b) else none
  | .SCH_STATUS => some (256 + i)
  | .MAC_STATUS => some (400 + i)
  | .LN_STATUS => some (530 + i)
  | .LCH_STATUS => some (576 + i)
  | _ => none

/-- A sequence-clear word in which an event sets the flags `m` (R51): SEQ advances once, modulo 256. -/
def sqSet (w : Word) (m : Nat) : Word :=
  put 24 8 (fld w 24 8 + 1) ||| put 0 24 (fld w 0 24 ||| m)

/-- A sequence-clear word after the host writes `v` (R51): the flags written as 1 clear only when the written SEQ
is the current one. -/
def sqClear (w v : Word) : Word :=
  if fld v 24 8 = fld w 24 8 then put 24 8 (fld w 24 8) ||| put 0 24 (fld w 0 24 &&& (0xFFFFFF ^^^ fld v 0 24)) else w

/-- An event sets flags `m` of an SQ register in one cycle (R51), and each source of those flags has an edge (R381). -/
def State.setFlags (s : State) (f : Fam) (i j m : Nat) : State :=
  if m = 0 then s else
  let s := s.wr f i j (sqSet (s.rw f i j) m)
  ((onesOf 24 m).filterMap (flagSource f i)).dedup.foldl raiseEdge s

/-! ## Performance counters -/

/-- What domain `d` holds. -/
def State.dom (s : State) (d : Nat) : Dom := mget {} s.hot.doms d

/-- The block that a domain belongs to (R102, R117); 64 for a domain that lies in no resettable block. -/
def domBlock (d : Nat) : Nat :=
  if d < 128 then 8 + d / 16
  else if d < 160 then 8 + (d - 128) / 4
  else if d < 164 then 29 else if d < 166 then 30 else if d < 168 then 31
  else if d < 170 then d - 136
  else if d < 186 then (d - 170) % 8
  else if d < 202 then 17
  else if d < 218 then 64
  else if d = 218 then 25 else if d = 219 then 26 else if d = 220 then 21
  else if d = 221 then 32 else if d = 222 then 33 else if d = 223 then 34
  else if d < 227 then d - 195
  else if d = 227 then 28 else if d < 232 then 24 else if d = 232 then 16 else if d = 233 then 19
  else if d = 234 then 23 else 64

/-- Domain `d` is awake. -/
def domOn (s : State) (d : Nat) : Bool := (s.dom d).st == .on

/-- The power domains in which block `b`'s counters live (R398, R399); none for a block that is never powered down. -/
def counterDoms (b : Nat) : List Nat :=
  if b = 38 then (List.range 16).map (· + 202) else if b = 22 then [234] else (List.range 235).filter (fun d => domBlock d == b)

/-- The counters of block `b` are awake. -/
def countersAwake (s : State) (b : Nat) : Bool := (counterDoms b).isEmpty || (counterDoms b).any (domOn s)

/-- The word PCT_CFG_b_i. -/
def pctCfg (s : State) (b i : Nat) : Word := s.rw .PCT_CFG b i

/-- Counter `c` (8 b + i) advances by `n` (R399, R400): a wrap carries into a chained odd counter; the counter whose overflow flag it
sets. -/
def pctStep (s : State) (c n : Nat) : Option Nat × State :=
  let v := mget 0 s.pct.cnt c + n
  let s := { s with pct := { s.pct with cnt := mput 0 s.pct.cnt c (v % 2 ^ 48) } }
  if v < 2 ^ 48 then (none, s)
  else if c % 2 = 0 ∧ tst (pctCfg s (c / 8) (c % 8 + 1)) 23 then
    let u := mget 0 s.pct.cnt (c + 1) + 1
    (if u < 2 ^ 48 then none else some (c + 1), { s with pct := { s.pct with cnt := mput 0 s.pct.cnt (c + 1) (u % 2 ^ 48) } })
  else (some c, s)

/-- The counters `cs` of one block advance by `n` in one cycle (R399 to R401): what wraps sets its overflow flag, and OVF once (R381). -/
def pctAdds (s : State) (cs : List Nat) (n : Nat) : State :=
  let r := cs.foldl (fun (a : List Nat × State) c => let x := pctStep a.2 c n; (a.1 ++ x.1.toList, x.2)) ([], s)
  match r.1 with
  | [] => r.2
  | c :: _ => (r.2.setFlags .PCT_OVF (c / 24) 0 (sumN (r.1.map (fun c => 1 <<< (c % 24))))).setFlags .PCT_STATUS 0 0 1

/-- Counter `c` advances by `n` (R399, R400). -/
def pctAdd (s : State) (c n : Nat) : State := pctAdds s [c] n

/-- The power domains of a block whose wakes event 0x02 counts (R102, R117, R402). -/
def blkDoms (b : Nat) : Nat :=
  if b < 8 then 2 else if b < 16 then 20 else if b = 17 ∨ b = 38 then 16 else if b = 24 then 4 else if b = 29 then 5
  else if b = 30 ∨ b = 31 then 3 else if b = 32 ∨ b = 33 then 2 else 1

/-- The events of R402: `none` for a reserved code, the number of sub-units of a block that an event names, 0 where it names none. -/
def evSubs (b ev : Nat) : Option Nat :=
  let only (n : Nat) (x : Nat) : Option Nat := if ev ≤ n then some x else none
  if ev = 2 then some (blkDoms b)
  else if ev ≤ 7 then some 0
  else if ev < 16 then none
  else if b < 8 then only 0x22 16
  else if b < 16 then (if ev ≤ 0x17 then some 16 else only 0x1A 4)
  else if b = 16 then only 0x22 6
  else if b = 17 then only 0x17 12
  else if b = 18 then only 0x14 134
  else if b = 19 then only 0x16 0
  else if b = 20 then only 0x13 0
  else if b = 21 then only 0x13 128
  else if b = 22 then only 0x10 0
  else if b = 23 then only 0x12 0
  else if b = 24 then only 0x11 4
  else if b = 25 ∨ b = 26 ∨ b = 27 then only 0x13 8
  else if b = 28 then only 0x11 0
  else if b < 32 then only 0x13 0
  else if b < 34 then only 0x1A 1
  else if b = 34 then only 0x11 0
  else if b = 35 then only 0x12 8
  else if b = 36 ∨ b = 37 then only 0x11 0
  else if b = 38 then only 0x10 16
  else only 0x11 0

/-- Counter `c` counts event `ev` of its block in sub-unit `sub` (R399, R402): one that is powered down holds its value. -/
def pctSees (s : State) (c ev sub : Nat) : Bool :=
  let w := pctCfg s (c / 8) (c % 8)
  fld w 24 8 == ev && ev != 0 && !(c % 2 == 1 && tst w 23) &&
    (fld w 8 8 == 0xFF || evSubs (c / 8) ev == some 0 || fld w 8 8 == sub) && countersAwake s (c / 8)

/-- `n` occurrences of event `ev` of block `b`, in its sub-unit `sub` (R399, R402). -/
def occ (s : State) (b ev sub : Nat) (n : Nat := 1) : State :=
  pctAdds s (((List.range 8).map (8 * b + ·)).filter (fun c => pctSees s c ev sub)) n

/-- `n` frames are discarded by the wrapper of block `b` (R104, R402). -/
def isoDiscard (s : State) (b : Nat) (n : Nat := 1) : State := occ (s.bump .RST_ISO_DISCARD b 0 n) b 0x04 0 n

/-- `n` requests are answered with an error by the wrapper of block `b` (R104, R402). -/
def isoError (s : State) (b : Nat) (n : Nat := 1) : State := occ (s.bump .RST_ISO_ERROR b 0 n) b 0x05 0 n

/-! ## Claims, completions, targets and dormancy -/

/-- EVENT_CLAIM (R384). -/
def eventClaim (s : State) (who : Who) (n : Nat) : Nat × State :=
  let x := s.src n
  if x.st ≠ .pending then (stNotPending, s)
  else if srcHolder s n ≠ who.ctx then (stNotTarget, s)
  else (stOk, occ (s.setSrc n { x with st := .claimed, again := false, claimer := who.ctx, offered := none, need := none })
    27 0x12 who.ctx)

/-- EVENT_COMPLETE (R385, R382). -/
def eventComplete (s : State) (who : Who) (n : Nat) : Nat × State :=
  let x := s.src n
  if x.st = .claimed ∧ x.claimer = who.ctx then
    let s := if if srcLevel n then levelCond s n else x.again then pend s n else s.setSrc n {}
    (stOk, occ s 27 0x13 who.ctx)
  else (stNotClaimed, (s.bump .EVT_STRAY).setFlags .EVT_STATUS 0 0 4)

/-- Context `c` is Dormant (R388). -/
def dormant (s : State) (c : Nat) : Bool := s.evt.dormHost.testBit c || s.evt.dormLane.testBit c

/-- Sources that are Pending with context `c` as holder. -/
def heldBy (s : State) (c : Nat) : List Nat :=
  (s.evt.srcs.filter (fun p => p.2.st == .pending && srcHolder s p.1 == c)).map (·.1)

/-- A context stops being Dormant (R389): every source Pending with it as holder needs an offer of KIND 0b10. -/
def wakeContext (s : State) (c : Nat) : State :=
  (heldBy s c).foldl (fun s n => s.setSrc n { (s.src n) with need := some 2 }) s

/-- DORMANT_HOST of a context is set or cleared (R388, R389). -/
def setDormHost (s : State) (c : Nat) (b : Bool) : State :=
  let was := dormant s c
  let v := s.evt.dormHost
  let s := { s with evt := { s.evt with dormHost :=
    if b then v ||| (1 <<< c) else if v.testBit c then v - (1 <<< c) else v } }
  if was && !dormant s c then wakeContext s c else s

/-- The host lane of a context, 0 or 1. -/
def ctxLane (s : State) (c : Nat) : Nat := s.rf .CTL_CTX_CFG c 0 30 1

/-- DORMANT_LANE follows the host lanes (R388): set while the lane is in low-power idle in either direction or its
link is down; a context that stops being Dormant is offered its sources (R389). -/
def refreshDormant (s : State) : State :=
  (List.range 8).foldl (fun s c =>
    if !ctxValid s c then s else
    let m := s.mac (128 + ctxLane s c)
    let b := m.txLpi || m.rxLpi || !m.link
    if b == s.evt.dormLane.testBit c then s else
    let was := dormant s c
    let v := s.evt.dormLane
    let s := { s with evt := { s.evt with dormLane := if b then v ||| (1 <<< c) else v - (1 <<< c) } }
    if was && !dormant s c then wakeContext s c else s) s

/-- A write of EVT_TGT_n (R387): a Pending source without an outstanding offer is offered to its new target. -/
def targetWrite (s : State) (n : Nat) (w : Word) : State :=
  let s := s.wr .EVT_TGT n 0 w
  (List.range 8).foldl (fun s i =>
    let x := s.src (8 * n + i)
    if x.st = .pending ∧ x.offered = none ∧ x.need = none then s.setSrc (8 * n + i) { x with need := some 0 } else s) s

/-- A write of EVT_CFG (R390): when DELIVER_EN returns to 1, every Pending source with a target and without an outstanding offer
needs one of KIND 0b10; so do, from R389 on, the sources of a context that woke. -/
def deliverEnWrite (s : State) (w : Word) : State :=
  let was := tst (s.rw .EVT_CFG) 31
  let s := s.wr .EVT_CFG 0 0 w
  if !was && tst w 31 then
    (s.evt.srcs.filter (fun p => p.2.st == .pending && p.2.offered == none && !srcMasked s p.1)).foldl
      (fun s p => s.setSrc p.1 { (s.src p.1) with need := some 2 }) s
  else s

/-- The condition for an offer to context `c` (R391): DELIVER_EN, a valid context that is not Dormant. -/
def offersOk (s : State) (c : Nat) : Bool :=
  isRunning s && tst (s.rw .EVT_CFG) 31 && ctxValid s c && !dormant s c && !closed s 27

/-- The sources an offer frame to context `c` takes, ascending, at most 8 (R391). -/
def offerList (s : State) (c : Nat) : List Nat :=
  ((s.evt.srcs.filter (fun p => p.2.st == .pending && p.2.need != none && srcHolder s p.1 == c && !srcMasked s p.1)).map (·.1)).take 8

/-- EVENT sources in state `st`, word `n` of the bit maps. -/
def srcBits (s : State) (n : Nat) (p : Src → Bool) : Word :=
  (List.range 32).foldl (fun w i => if p (s.src (32 * n + i)) then w ||| bitw i true else w) 0

/-! ## Local buffers (R354 to R356) -/

/-- The number of buffers of pool `k` (R354). -/
def poolSize (k : Nat) : Nat := [8192, 2048, 512, 96].getD k 0

/-- The smallest pool whose buffers hold `n` bytes (R355). -/
def poolFor (n : Nat) : Nat := if n ≤ 128 then 0 else if n ≤ 512 then 1 else if n ≤ 2048 then 2 else 3

/-- USED_o,k. -/
def lbmUsed (s : State) (o k : Nat) : Nat := mget 0 s.lbm.used (4 * o + k)

/-- FREE_k. -/
def lbmFree (s : State) (k : Nat) : Nat := poolSize k - sumN ((List.range 6).map (fun o => lbmUsed s o k))

/-- The words of a buffer of pool `k` (R354). -/
def poolWords (k : Nat) : Nat := [32, 128, 512, 2560].getD k 0

/-- The first word of a buffer in the local store (R354). -/
def bufBase (b : Nat) : Nat := b % 4 * 262144 + b / 4 * poolWords (b % 4)

/-- A word of the local store. -/
def lbmW (s : State) (a : Nat) : Word := mget 0 s.lbm.mem a

/-- Bytes are stored in a buffer from byte `o` on, as far as it goes. -/
def bufPut (s : State) (b o : Nat) (v : Bytes) : State :=
  let v := v.take (4 * poolWords (b % 4) - o)
  let n := ceilDiv (o % 4 + v.length) 4
  let a := bufBase b + o / 4
  let ws := bytesWs n (patch (wsBytes ((List.range n).map (fun i => lbmW s (a + i)))) (o % 4) v)
  { s with lbm := { s.lbm with mem := ws.zipIdx.foldl (fun m w => mput 0 m (a + w.2) w.1) s.lbm.mem } }

/-- Owner `o` may take a buffer of pool `k` (R356). -/
def lbmMay (s : State) (o k : Nat) : Bool :=
  decide (lbmFree s k > sumN (((List.range 6).filter (· != o)).map (fun q => s.rf .LBM_RES q k 0 14 - lbmUsed s q k)))

/-- The reserves of pool `k` sum to more than its buffers (R360). -/
def resOver (s : State) (k : Nat) : Bool := decide (poolSize k < sumN ((List.range 6).map (fun o => s.rf .LBM_RES o k 0 14)))

/-- Owner `o` takes the first free buffer of pool `k` (log entry 89). -/
def lbmHold (s : State) (o k : Nat) : Nat × State :=
  let i := ((List.range (s.lbm.held.length + 1)).find? (fun i => !s.lbm.held.any (fun h => h.2 == 4 * i + k))).getD 0
  (4 * i + k, { s with lbm := { s.lbm with
    used := mput 0 s.lbm.used (4 * o + k) (lbmUsed s o k + 1), held := s.lbm.held ++ [(o, 4 * i + k)] } })

/-- A request of owner `o` for a buffer of `n` bytes (R355, R356): the buffer that serves it, or a counted failure; the closed
wrapper of block 24 answers it with an error (R27, R104).  Where the reserves of the pool sum to too much, whether a request that
could be served succeeds is free (R360; log entry 6). -/
def lbmTake (s : State) (o n : Nat) : Option Nat × State :=
  let k := poolFor n
  if closed s 24 then (none, isoError s 24) else
  let s := occ s 24 0x10 k
  let may := if resOver s k then decide (0 < lbmFree s k) && s.free % 2 == 1 else lbmMay s o k
  let s := if resOver s k then s.drawn else s
  if may then let r := lbmHold s o k; (some r.1, r.2)
  else (none, occ ((s.bump .LBM_FAIL o k).setFlags .LBM_STATUS 0 0 (1 <<< k)) 24 0x11 k)

/-- Buffer `b` returns from owner `o` (R356). -/
def lbmGive (s : State) (o b : Nat) : State :=
  { s with lbm := { s.lbm with
    used := mput 0 s.lbm.used (4 * o + b % 4) (lbmUsed s o (b % 4) - 1), held := s.lbm.held.erase (o, b) } }

end Sys2Proof.Machine
end

