-- ==== Sys2Proof/Machine/Power.lean ====
section
/-!
DEFINITION. Machine/Power.lean: power domains, their modes and the wake scheduler
(05_hotplate_power.md R117 to R123, R471, R473).
-/
namespace Sys2Proof.Machine

/-- Domain `d` with `x`. -/
def State.setDom (s : State) (d : Nat) (x : Dom) : State :=
  { s with hot := { s.hot with doms := mput {} s.hot.doms d x } }

/-- The 16 table banks' granules (R69): bank `b` holds granules 20 b to 20 b + 19. -/
def bankAssigned (s : State) (b : Nat) : Bool :=
  b < 4 || s.roast.lanes == [] ||
  s.roast.parts.any (fun (_, first, count) =>
    decide (0 < count) && decide (first < 20 * b + 20) && decide (20 * b < first + count))

/-- Domain `d` has a resource behind it (R2, R3, R15, R67, R70, R473). -/
def domPresent (s : State) (d : Nat) : Bool :=
  if d < 128 then portPresent s d
  else if d < 170 then lanePresent s (d - 128)
  else if d < 186 then !isSmall s || (d - 170) % 8 < 4
  else if d < 202 then true
  else if d < 218 then bankAssigned s (d - 202)
  else if d = 219 then !isSmall s
  else if 224 ≤ d ∧ d ≤ 226 then portPresent s (d - 94)
  else d < 236

/-- A memory bank or a lane, which sleeps RETAINED; every other domain sleeps OFF (R117; log entry 20). -/
def sleepsRetained (d : Nat) : Bool :=
  (128 ≤ d && d < 170) || (186 ≤ d && d < 218) || (228 ≤ d && d < 232)

/-- The mode of domain `d`: 0 OFF, 1 AUTO, 2 ON (R74, R119). -/
def domMode (s : State) (d : Nat) : Nat := s.rf .HOT_DOM_MODE (d / 16) 0 (2 * (d % 16)) 2

/-- A valid host context uses host lane `h` (0 for H0, 1 for H1). -/
def hostLaneUsed (s : State) (h : Nat) : Bool :=
  (List.range 8).any (fun c => tst (s.rw .CTL_CTX_CFG c) 31 && (tst (s.rw .CTL_CTX_CFG c) 30 == (h == 1)))

/-- The device holds domain `d` awake whatever its mode (R119). -/
def heldAwake (s : State) (d : Nat) : Bool :=
  d == 235 || ((d == 168 || d == 221) && hostLaneUsed s 0) || ((d == 169 || d == 222) && hostLaneUsed s 1)

/-- Domain `d` is powered down: it reads OFF or RETAINED, or has not yet woken (R40; log entry 21). -/
def domDown (s : State) (d : Nat) : Bool := !domOn s d

/-- The order of the wake scheduler (R122): class, then gate opening for gate-lead wakes, then domain. -/
def wakeBefore (a b : WakeReq) : Bool :=
  if a.cls ≠ b.cls then a.cls < b.cls
  else if a.at_ ≠ b.at_ then a.at_ < b.at_
  else a.dom < b.dom

/-- The queue with a request at its place. -/
def wakeIns (q : WakeReq) : List WakeReq → List WakeReq
  | [] => [q]
  | a :: t => if wakeBefore q a then q :: a :: t else a :: wakeIns q t

/-- The earlier in the scheduler's order of two requests for one domain: class, then gate opening. -/
def earlier (a b : Nat × Nat) : Nat × Nat :=
  if a.1 < b.1 ∨ (a.1 = b.1 ∧ a.2 ≤ b.2) then a else b

/-- A wake of class `cls` for domain `d` is requested, `t` being the gate opening of a gate-lead wake (R119, R121, R122): a domain
that sleeps takes its place in the queue once, by the earlier of two requests; one that is shutting down holds the wake as
PEND_WAKE.  A sleep of the domain that still waits is called off. -/
def wakeAt (s : State) (cls d t : Nat) : State :=
  if !domPresent s d then s else
  let x := { s.dom d with cmd := false }
  let s := s.setDom d x
  let q0 := s.hot.queue.filter (fun r => !(r.dom == d && r.cls == 5))
  match x.st with
  | .on | .waking => { s with hot := { s.hot with queue := q0 } }
  | .sleeping => s.setDom d { x with pend := some (match x.pend with | some c => earlier c (cls, t) | none => (cls, t)) }
  | .off | .retained =>
    let r := match q0.find? (fun r => r.dom == d) with
      | some r => earlier (r.cls, r.at_) (cls, t)
      | none => (cls, t)
    { s with hot := { s.hot with queue := wakeIns ⟨r.1, d, r.2⟩ (q0.filter (fun r => r.dom != d)) } }

/-- The domain of an ingress pipeline. -/
def isPipe (d : Nat) : Bool := (170 ≤ d && d < 178) || d == 232

/-- Domain `d` of a running device is left asleep by the host: its mode is OFF, so that nothing but a command wakes it (R119), or a
sleep command put it to sleep and nothing has woken it since.  What happens to traffic that relies on it is free until it wakes
(R120; log entry 81). -/
def leftAsleep (s : State) (d : Nat) : Bool :=
  isRunning s && domPresent s d && !domOn s d && (domMode s d == 0 || (s.dom d).cmd)

/-- What `act` does where it relies on domain `d`.  Left asleep by the host, the domain does it or not by the next free value (R120;
log entry 81). -/
def leftMaybe (s : State) (d : Nat) (act : State → State) : State :=
  if !leftAsleep s d then act s
  else
    let n := s.free
    let s := s.drawn
    let x := s.dom d
    if n % 2 = 0 then s else (act (s.setDom d { x with st := .on })).setDom d x

/-- Domain `d` is asleep and no wake of it waits. -/
def domAsleep (s : State) (d : Nat) : Bool :=
  ((s.dom d).st == DomSt.off || (s.dom d).st == DomSt.retained) && !s.hot.queue.any (fun r => r.dom == d)

/-- A wake of domain `d` that is no gate-lead wake.  The wake of a sleeping pipeline wakes in the same request the table banks and
the stream unit, but those whose mode is OFF (R119, R473). -/
def wake (s : State) (cls d : Nat) : State :=
  let asleep := !domOn s d && domPresent s d
  let s := wakeAt s cls d 0
  if isPipe d && asleep then
    ((List.range 16).map (· + 202) ++ [233]).foldl (fun s b => if domMode s b = 0 then s else wakeAt s cls b 0) s
  else s

/-- A trigger of R119 or R473 for domain `d`: it wakes an AUTO domain, and an ON domain that is not awake yet;
an OFF domain only a command wakes. -/
def trigger (s : State) (cls d : Nat) : State := if domMode s d = 0 then s else wake s cls d

/-- A sleep of domain `d` is queued in the last class (R119, R122).  A domain that is not ON, or whose wake waits, has nothing to
shut down (log entry 83). -/
def queueSleep (s : State) (d : Nat) : State :=
  if (s.dom d).st = .on ∧ !s.hot.queue.any (fun r => r.dom == d) then
    { s with hot := { s.hot with queue := wakeIns ⟨5, d, 0⟩ s.hot.queue } }
  else s

/-- A sleep of domain `d` by R119, R124 or R125: only an AUTO domain sleeps so. -/
def autoSleep (s : State) (d : Nat) : State := if domMode s d = 1 ∧ !heldAwake s d then queueSleep s d else s

/-- A held block is never woken until it is released (R107). -/
def domHeld (s : State) (d : Nat) : Bool :=
  if d = 234 then (s.blk 22).st == .held && (s.blk 23).st == .held else (s.blk (domBlock d)).st == .held

/-- A lane's domain wakes: the lane leaves OFF and starts its PLL (R143). -/
def laneWaking (s : State) (d : Nat) : State :=
  if 128 ≤ d ∧ d < 170 ∧ (s.lane (d - 128)).st = .off then
    s.setLane (d - 128) { (s.lane (d - 128)) with st := .cold, bring := true, coldTick := s.hot.tick }
  else s

/-- The transitions of one tick: at most `n` of the waiting requests start, in order (R122). -/
def startReqs : List WakeReq → Nat → State → State
  | [], _, s => s
  | r :: t, n, s =>
    if n = 0 ∨ (r.cls ≠ 5 ∧ domHeld s r.dom) then startReqs t n s
    else
      let x := s.dom r.dom
      let s := { s with hot := { s.hot with queue := s.hot.queue.erase r } }
      if r.cls = 5 then
        if x.st = .on then startReqs t (n - 1) (s.setDom r.dom { x with st := .sleeping }) else startReqs t n s
      else if x.st = .off ∨ x.st = .retained then
        startReqs t (n - 1) (laneWaking (s.setDom r.dom { x with st := .waking, pend := none }) r.dom)
      else startReqs t n s

/-- The Hotplate's clocks: a change of HOT_CLK_GOOD bits raises an edge of each bit's source (R114, R467). -/
def setClk (s : State) (v : Nat) : State :=
  let d := (s.hot.clk ^^^ v) % 32
  (onesOf 5 d).foldl (fun s i => raiseEdge s (8 + i)) { s with hot := { s.hot with clk := v % 32 } }

/-- HOT_CLK_GOOD with bit `i` set to `b`. -/
def setClkBit (s : State) (i : Nat) (b : Bool) : State :=
  setClk s (if b then s.hot.clk ||| (1 <<< i) else s.hot.clk - (if s.hot.clk.testBit i then 1 <<< i else 0))

/-- HOT_DOZE_NEED in ns (R124); a reserved WAKE_BUDGET leaves it free (R123). -/
def dozeNeed (s : State) : Nat :=
  let ps := (List.range 128).filter (fun p => tst (s.rw .HOT_PORT_PWR p) 31)
  let d := 2 * ps.length + ((List.range 8).filter (fun k => ps.any (fun p => p / 16 == k))).length
  let lanes := ((List.range 32).filter (fun l => ps.any (fun p => p / 4 == l))).length
  let b := s.rf .HOT_WAKE_BUDGET 0 0 0 5
  if 1 ≤ b ∧ b ≤ 16 then 12000 + 320 * (1 + ceilDiv (d - ps.length + lanes) b) else s.free

/-- TW_RX of port `p`, in ns, covers HOT_DOZE_NEED (R124). -/
def dozeCovered (s : State) (p : Nat) : Bool := decide (1000 * s.rf .MAC_EEE_TW p 0 0 16 ≥ dozeNeed s)

end Sys2Proof.Machine
end

