-- ==== Sys2Proof/Machine/Carafe.lean ====
section
/-!
DEFINITION. Machine/Carafe.lean: port rates and link states, MAC counters, and the frames, copies, cells and charges of
the Carafe (07_mac.md R174 to R176; 10_carafe.md R229 to R256).
-/
namespace Sys2Proof.Machine

/-! ## Rates and links -/

/-- The rate in kb/s of a SPEED code of MAC_STATE. -/
def speedRate (c : Nat) : Nat := [10000, 100000, 1000000, 2500000, 10000000, 25000000].getD c 10000

/-- The full SPEED code of a lane mode (R129). -/
def modeSpeed (m : Nat) : Nat := [0, 1, 2, 2, 3, 2, 4, 4, 4, 3, 5].getD m 0

/-- The current rate of port `p` in kb/s; the service port has the rate of its drain. -/
def portRate (s : State) (p : Nat) : Nat :=
  if p < 130 then speedRate (s.mac p).speed else if p = 130 then 100000000 else if p < 133 then 50000000 else 256000000

/-- The time of one byte at port `p`, in ps. -/
def bytePs (s : State) (p : Nat) : Nat := 8000000000 / portRate s p

/-- The link of port `p` is up (R155, R171, R428); the service port's always is. -/
def linkUp (s : State) (p : Nat) : Bool :=
  if p < 130 then (s.mac p).link && !(s.mac p).rf && !(s.mac p).lf else if p < 133 then (s.link (p - 130)).up else true

/-- EN_STATE of port `p` (R171): a host port is enabled whenever the device is Running and its lane's mode is not 0. -/
def enState (s : State) (p : Nat) : EnSt :=
  if p < 128 then (s.mac p).en
  else if p < 130 then (if isRunning s && laneMode s (portLane p) != 0 then .enabled else .disabled) else .enabled

/-- Port `p` is disabled. -/
def portDisabled (s : State) (p : Nat) : Bool := !portPresent s p || enState s p == .disabled

/-- The Carafe queues frames for port `p` (R174). -/
def portTakes (s : State) (p : Nat) : Bool := portPresent s p && enState s p == .enabled && linkUp s p

/-! ## MAC counters (R175, R176) -/

/-- Counters of port `p` advance in one cycle, each by its own number; a change of bit 31 sets the counter's half-range flag, and
STAT_HALF once (R381), which ports 130 to 133, of counters alone, do not have (R149, R176). -/
def macCounts (s : State) (p : Nat) (cs : List (Nat × Nat)) : State :=
  if p > 133 then s else
  let r := cs.foldl (fun (a : List Nat × State) c =>
    let x := a.2.rw .MAC_STAT p c.1
    let y := x + wd c.2
    (if 130 ≤ p || tst x 31 == tst y 31 then a.1 else a.1 ++ [c.1], a.2.wr .MAC_STAT p c.1 y)) ([], s)
  if r.1 = [] then r.2
  else
    ([0, 1, 2].foldl (fun s j => s.setFlags .MAC_STAT_HALF p j (sumN ((r.1.filter (· / 24 == j)).map (fun n => 1 <<< (n % 24))))) r.2
      ).setFlags .MAC_STATUS p 0 32

/-- Counter `n` of port `p` advances by `k` (R175, R176). -/
def macCount (s : State) (p n : Nat) (k : Nat := 1) : State := if k = 0 then s else macCounts s p [(n, k)]

/-- Octets of frames received or sent are counted in the window in progress while BW_EN is 1 and the collector runs (R399, R406). -/
def bwCount (s : State) (rx : Bool) (p n : Nat) : State :=
  if !tst (s.rw .PCT_BW_CFG) 31 || closed s 28 || !domOn s 227 then s
  else if rx then { s with pct := { s.pct with rx := mmod 0 s.pct.rx p (· + n) } }
  else { s with pct := { s.pct with tx := mmod 0 s.pct.tx p (· + n) } }

/-- A frame of `n` octets has been received at port `p`, good or bad, with what else it counts in that cycle (R175, R402, R406). -/
def countRxAll (s : State) (p n : Nat) (more : List (Nat × Nat) := []) : State :=
  let s := bwCount (macCounts s p ((1, n) :: more)) true p n
  if p < 130 then occ (occ s (portBlock p) 0x10 (portSub p)) (portBlock p) 0x11 (portSub p) n
  else if p = 133 then occ s 34 0x11 0 else s

/-- A frame of `n` octets has been sent at port `p`, with a good or an inverted FCS (R402, R406). -/
def countTxAll (s : State) (p n : Nat) : State :=
  let s := bwCount s false p n
  if p < 130 then occ (occ s (portBlock p) 0x12 (portSub p)) (portBlock p) 0x13 (portSub p) n
  else if p = 133 then occ s 34 0x10 0 else s

/-- A bad frame of `n` octets is counted, in its one error counter `c` (R151), and in the others given. -/
def countRxBad (s : State) (p n c : Nat) (more : List (Nat × Nat) := []) : State :=
  let s := countRxAll s p n ((c, 1) :: more)
  if p < 130 then occ s (portBlock p) 0x14 (portSub p) else s

/-- The receive size bin of a length (R175). -/
def rxBin (n : Nat) : Nat :=
  if n ≤ 64 then 8 else if n ≤ 127 then 9 else if n ≤ 255 then 10 else if n ≤ 511 then 11 else if n ≤ 1023 then 12
  else if n ≤ 1518 then 13 else if n ≤ 2047 then 14 else if n ≤ 4095 then 15 else if n ≤ 9216 then 16 else 17

/-- The transmit size bin of a length. -/
def txBin (n : Nat) : Nat :=
  if n ≤ 64 then 34 else if n ≤ 127 then 35 else if n ≤ 255 then 36 else if n ≤ 511 then 37 else if n ≤ 1023 then 38
  else if n ≤ 1518 then 39 else 40

/-- 0 for an individual destination address, 1 for a group address, 2 for broadcast. -/
def castOf (f : Bytes) : Nat :=
  if beAt f 0 6 = 0xFFFFFFFFFFFF then 2 else if nbit (beAt f 0 1) 0 then 1 else 0

/-- The frame has a VLAN tag (TPID 0x8100 or 0x88A8). -/
def taggedFrame (f : Bytes) : Bool := beAt f 12 2 == 0x8100 || beAt f 12 2 == 0x88A8

/-- A good received frame is counted (R175, R153, R154). -/
def countRxGood (s : State) (p : Nat) (f : Bytes) : State :=
  let n := f.length
  let et := beAt f 12 2
  countRxAll s p n ([(0, n), (2, 1), (3 + castOf f, 1), (rxBin n, 1)] ++ (if taggedFrame f then [(6, 1)] else []) ++
    (if et = 0x8808 then [(7, 1)] else []) ++ (if et < 1536 ∧ et + 18 ≠ n ∧ ¬ (n = 64 ∧ et ≤ 46) then [(26, 1)] else []))

/-- A frame sent with a good FCS is counted (R175). -/
def countTxGood (s : State) (p : Nat) (f : Bytes) : State :=
  let n := f.length
  macCounts (countTxAll s p n) p ([(28, n), (29, 1), (30 + castOf f, 1), (txBin n, 1)] ++ (if taggedFrame f then [(33, 1)] else []))

/-- A frame sent with a good FCS is counted, and leaves. -/
def sendFrame (s : State) (p : Nat) (f : Bytes) : State := (countTxGood s p f).emit (.frame p f)

/-- The MAC of port `p` sends no frame of the control engine now: one is in transmission, or low-power idle goes on or has ended
less than TW_TX ago (R23, R169). -/
def ctlBusy (s : State) (p : Nat) : Bool :=
  let m := s.mac p
  m.tx.isSome || m.txP.isSome || m.txLpi || decide (s.time.ticks < m.txWait)

/-- A frame of the control engine leaves, and the buffer that it holds returns (R394). -/
def ctlSend (s : State) (p : Nat) (x : Bytes × Option (Nat × Nat)) : State :=
  let s := sendFrame s p x.1
  match x.2 with
  | some (o, k) => lbmGive s o k
  | none => s

/-- A frame of the control engine goes directly to the host MAC (R23, R156): it leaves at once, at the end of the frame in
transmission, or TW_TX after low-power idle has ended (R169); it holds a buffer `buf` until then. -/
def sendControl (s : State) (p : Nat) (f : Bytes) (buf : Option (Nat × Nat) := none) : State :=
  let m := s.mac p
  if ctlBusy s p || !m.ctlq.isEmpty then s.setMac p { m with ctlq := m.ctlq ++ [(f, buf)] } else ctlSend s p (f, buf)

/-- MAX_LEN of port `p`; a value outside its range leaves a free one (R177). -/
def macMaxLen (s : State) (p : Nat) : Nat := s.within 1518 10240 (s.rf .MAC_CFG p 0 0 14)

/-- MAX_LEN for a copy: that of its port when its transmission began, or now (R150). -/
def copyMax (s : State) (c : CCopy) : Nat := c.maxLen.getD (macMaxLen s c.port)

/-! ## Frames and copies -/

/-- Frame `id`. -/
def State.frm (s : State) (id : Nat) : Option CFrame := mfind s.car.frames id

/-- Frame `id` with `x`. -/
def State.setFrm (s : State) (id : Nat) (x : CFrame) : State :=
  { s with car := { s.car with frames := mins s.car.frames id x } }

/-- Frame `id`, if it is there, changed by `g`. -/
def State.modFrm (s : State) (id : Nat) (g : CFrame → CFrame) : State :=
  match s.frm id with
  | some f => s.setFrm id (g f)
  | none => s

/-- A new frame; its number is the second part. -/
def State.newFrm (s : State) (f : CFrame) : State × Nat :=
  ({ s with car := { s.car with frames := mins s.car.frames s.car.next f, next := s.car.next + 1 } }, s.car.next)

/-- Copy `id`. -/
def State.cpy (s : State) (id : Nat) : Option CCopy := s.car.copies.find? (fun c => c.id == id)

/-- Every copy for which `p` holds, changed by `g`. -/
def State.modCpy (s : State) (p : CCopy → Bool) (g : CCopy → CCopy) : State :=
  { s with car := { s.car with copies := s.car.copies.map (fun c => if p c then g c else c) } }

/-- Copy `id` is gone: its queue charge and its reference are released (R241, R243). -/
def State.delCpy (s : State) (id : Nat) : State :=
  { s with car := { s.car with copies := s.car.copies.filter (fun c => c.id != id) } }

/-- The copies of frame `id`. -/
def copiesOf (s : State) (id : Nat) : List CCopy := s.car.copies.filter (fun c => c.frame == id)

/-- The copies of queue `q` of port `p`, first to last. -/
def queueCopies (s : State) (p q : Nat) : List CCopy := s.car.copies.filter (fun c => c.port == p && c.queue == q)

/-- Cells that frame `id` holds. -/
def cellsOf (s : State) (id : Nat) : Nat :=
  match s.frm id with
  | some f => f.cells.length
  | none => 0

/-- Frame `f` has been written to its end. -/
def CFrame.stored (f : CFrame) : Bool :=
  f.ended && decide (f.cells.length ≥ ceilDiv f.bytes.length 128) && decide (f.head ≥ min 128 f.bytes.length)

/-- A frame is forgotten: a local-store buffer that it holds returns (R372). -/
def forget (s : State) (id : Nat) : State :=
  let s := match (s.frm id).bind (fun f => f.buf) with
    | some (o, k) => lbmGive s o k
    | none => s
  { s with car := { s.car with frames := mdel s.car.frames id } }

/-- A frame has left or been discarded: its cells return once it is written to its end or discarded and no copy refers
to it (R237); it is forgotten once its verdict has come, the Drip has done with it, and no provisional record holds it (R296). -/
def tidy (s : State) (id : Nat) : State :=
  match s.frm id with
  | none => s
  | some f =>
    if f.decided && (copiesOf s id).isEmpty && (f.gone || f.bad || f.stored) then
      if f.verdict.isSome && f.drip.isNone && !s.red.prov.any (fun p => p.2.held == some id) then forget s id
      else s.setFrm id { f with gone := true, cells := [] }
    else s

/-- A queue that empties has DEF set to 0 (R262). -/
def defEmptied (s : State) (p q : Nat) : State :=
  if (queueCopies s p q).any (fun c => c.issued == 0) then s
  else let x := s.sch p; s.setSch p { x with defs := mput 0 x.defs q 0 }

/-- A copy is discarded before it began, without a counter of the Carafe. -/
def dropCopy (s : State) (c : CCopy) : State :=
  let t := s.delCpy c.id
  tidy (if c.issued = 0 then defEmptied t c.port c.queue else t) c.frame

/-- What `act` does to frame `id` with the registers as they were when its lookup began (R48). -/
def asOfLookup (s : State) (id : Nat) (act : State → State) : State :=
  match s.frm id with
  | none => act s
  | some f =>
    let put (s : State) (l : List (Reg × Word)) : State := l.foldl (fun s x => s.setReg x.1 x.2) s
    put (act (put s f.keeps)) (f.keeps.map (fun x => (x.1, s.reg x.1)))

/-- The registers `ch`, which a strobe changes, with their values before it: the frames whose lookup has begun keep them (R48). -/
def keepOld (s : State) (ch : List (Reg × Word)) : State :=
  { s with car := { s.car with frames := s.car.frames.map (fun f =>
    if f.2.looked || f.2.started then
      (f.1, { f.2 with keeps := f.2.keeps ++ ch.filter (fun x => f.2.keeps.all (fun y => y.1 != x.1)) })
    else f) } }

/-- A copy found bad (R249, R250): a begun one is to be ended with an inverted FCS, one not
begun is discarded and counted in CAR_SPEC_DISCARD. -/
def copyFoundBad (s : State) (c : CCopy) : State :=
  if c.endBad then s
  else if c.begun then s.modCpy (fun x => x.id == c.id) (fun x => { x with endBad := true })
  else dropCopy (occ (s.bump .CAR_SPEC_DISCARD) 17 0x15 (feedOf c.port)) c

/-- A frame found bad (R249 to R251): every copy by its own state; the ingress port counts it once in
MAC_RX_TAIL_MARKED when a copy had begun (R151, R153). -/
def frameFoundBad (s : State) (id : Nat) : State :=
  match s.frm id with
  | none => s
  | some f =>
    if f.bad then s else
    let s := s.setFrm id { f with bad := true, decided := true, plan := [] }
    let s := if f.anyBegun then macCount s (f.via.getD f.src) 25 else s
    tidy ((copiesOf s id).foldl copyFoundBad s) id

/-! ## Charges and free cells (R237 to R243) -/

/-- USED of queue `i` of port `p`: the cells written of the frames of its copies. -/
def usedQ (s : State) (p i : Nat) : Nat := sumN ((queueCopies s p i).map (fun c => cellsOf s c.frame))

/-- MIN of a queue. -/
def minQ (s : State) (p i : Nat) : Nat := s.rf .CAR_Q_CFG (queueNo p i) 0 0 16

/-- EXCESS of a port (R239). -/
def excessP (s : State) (p : Nat) : Nat := sumN ((List.range (queueCount p)).map (fun i => usedQ s p i - minQ s p i))

/-- Cells in use in bank `b` (the bank of a cell pointer is its bits [18:15]). -/
def bankUsed (s : State) (b : Nat) : List Nat :=
  s.car.frames.flatMap (fun f => (f.2.cells.filter (fun c => c.2 / 32768 == b)).map (·.2)) ++
    s.ept.launches.flatMap (fun l => l.cells.filter (fun c => c / 32768 == b))

/-- CAR_BANK_FREE_b. -/
def bankFree (s : State) (b : Nat) : Nat := 32768 - (bankUsed s b).length

/-- The ports that exist. -/
def allPorts (s : State) : List Nat := (List.range 134).filter (portPresent s)

/-- OWED (R239). -/
def carOwed (s : State) : Nat :=
  sumN ((allPorts s).map (fun p =>
    sumN ((List.range (queueCount p)).map (fun i => minQ s p i - usedQ s p i)) + (s.rf .CAR_P_CFG p 0 0 16 - excessP s p)))

/-- F, the shared-pool free count (R239). -/
def carFree (s : State) : Nat :=
  let m := ((List.range 16).map (bankFree s)).foldl min 32768
  16 * (m - s.rf .CAR_CFG 0 0 0 16) - carOwed s

/-- The shared-pool test of R242: `x` is below alpha(code) × F. -/
def alphaOk (code x f : Nat) : Bool := code != 15 && decide (x * 64 < 2 ^ code * f)

/-- A host error leaves the admission of every queue open (R256): BANK_RESERVE out of range, or reservations beyond what it
leaves. -/
def poolOpen (s : State) : Bool :=
  let r := s.rf .CAR_CFG 0 0 0 16
  decide (r < 256) || decide (16384 < r) ||
    decide (524288 - 16 * r < sumN ((allPorts s).map (fun p =>
      s.rf .CAR_P_CFG p 0 0 16 + sumN ((List.range (queueCount p)).map (fun i => minQ s p i)))))

/-- The same for one queue: a reserved ALPHA. -/
def admitOpen (s : State) (c : CCopy) : Bool :=
  let a := s.rf .CAR_Q_CFG (queueNo c.port c.queue) 0 16 4
  poolOpen s || (decide (9 < a) && decide (a < 15))

/-- A free cell of bank `b`, `none` where its free list is empty.  The order of the free lists is not stated, so
which one it is is a free value (log entry 1); those of `also` are taken too. -/
def takeCell (s : State) (b : Nat) (also : List Nat := []) : Option Nat :=
  let used := bankUsed s b ++ also.filter (fun c => c / 32768 == b)
  let a := Config.free s.freeCtr % 32768
  if used.length ≥ 32768 then none
  else ((List.range (used.length + 1)).map (fun i => b * 32768 + (a + i) % 32768)).find? (fun c => !used.contains c)

/-! ## Admission (R242 to R244, R246) -/

/-- MAX_SDU of queue `q` of port `p`, 0 for no limit; one out of range leaves it free (R283; log entry 6). -/
def maxSdu (s : State) (p q : Nat) : Nat :=
  let v := s.rf .SCH_Q_CFG p q 16 14
  if v = 0 then 0 else s.within 64 10240 v

/-- A copy is cut-through (R246). -/
def isCut (s : State) (f : CFrame) (c : CCopy) : Bool :=
  !c.store && !c.held && decide (f.src < 133) &&
  (if c.port < 128 then decide (portRate s c.port ≤ f.rate) else 130 ≤ c.port && c.port < 133) &&
  (match c.kind with
    | .fwd => true
    | .mirror _ t => t == 0
    | _ => false)

/-- What one destination queue decides: admitFrame, against the given F (R242). -/
def admits (s : State) (free : Nat) (c : CCopy) : Bool :=
  let u := usedQ s c.port c.queue
  let m := minQ s c.port c.queue
  decide (u < m) || decide (excessP s c.port < s.rf .CAR_P_CFG c.port 0 0 16) ||
    alphaOk (s.rf .CAR_Q_CFG (queueNo c.port c.queue) 0 16 4) (u - m) free

/-- The transmit path of port `p` sleeps no longer, no opening is posted for it, and the port is not in Doze (R124, R125). -/
def pathOpen (s : State) (p : Nat) : State :=
  { s with hot := { s.hot with
    leads := s.hot.leads.filter (fun q => q.1 != p), txAsleep := s.hot.txAsleep.filter (· != p), doze := s.hot.doze.filter (· != p) } }

/-- A sleeping transmit path of port `p` is called awake: its egress, MAC and lane (R119, R125). -/
def pathWake (s : State) (p : Nat) : State :=
  if s.hot.txAsleep.contains p then [178 + p / 16, p, 128 + p / 4].foldl (fun s d => trigger s 2 d) (pathOpen s p) else s

/-- An admitted copy of frame `f` wakes what its way out needs (R119, R125, R473): the transmit path when its gate is open, the
endpoint domain for a host port, the service engine for port 133 and the PTP engine for a message there.  A wake by a frame that a
port has received is one for receive traffic (R473). -/
def admitWake (s : State) (f : CFrame) (c : CCopy) : State :=
  let cls := if f.src < 133 then 1 else 2
  if c.port < 128 then
    if !((s.sch c.port).gates).testBit c.queue then s
    else trigger (pathWake s c.port) 2 (178 + c.port / 16)
  else if c.port < 130 then trigger s cls 234
  else if c.port = 133 then
    let s := trigger s cls 223
    if (parse f.alt f.bytes f.ended).ptp.isSome then trigger s cls 220 else s
  else s

/-- The destinations of a frame in the order of R242: ascending queue. -/
def queueOrder (cs : List CCopy) : List CCopy :=
  cs.foldl (fun l c =>
    l.takeWhile (fun x => queueNo x.port x.queue ≤ queueNo c.port c.queue) ++ [c] ++
      l.dropWhile (fun x => queueNo x.port x.queue ≤ queueNo c.port c.queue)) []

/-- A copy that the express queue sends whatever its class: one with a one-step insertion, and every message of the PTP engine
(R164, R316). -/
def CCopy.forced (c : CCopy) : Bool :=
  match c.note with
  | .none => c.kind == .own
  | .launch _ pfx => fld (pfx.getD 3 0) 6 2 != 0
  | _ => true

/-- Admission decides for frame `id` (R242): every destination against the same F, USED and EXCESS; while the free lists
are rebuilt it refuses every frame (R105); a host error leaves its answer free (R256; log entry 6).  The closed wrapper of block 17
discards the frame (R27, R104). -/
def admitFrame (s : State) (id : Nat) : State :=
  match s.frm id with
  | none => s
  | some f =>
    if f.decided then s
    else if f.bad || f.verdict == some false then tidy (s.setFrm id { f with decided := true, plan := [], gone := true }) id
    else
      if closed s 17 then
        tidy ((isoDiscard s 17).setFrm id { f with decided := true, plan := [], gone := true }) id
      else
      let free := carFree s
      let cs := queueOrder f.plan
      let many := decide (cs.length ≥ 2)
      let old := s
      let s := s.setFrm id { f with decided := true, plan := [], born := s.mono }
      -- a frame counts once in MAC_TX_DISCARD of a port that takes nothing, however many copies were for it (R174)
      let s := ((cs.map (·.port)).dedup.filter (fun p => !portTakes s p)).foldl (fun s p => macCount s p 42) s
      let step (s : State) (c : CCopy) : State :=
        if !portTakes s c.port then s else
        let wild := admitOpen old c
        let yes := if wild then s.free % 2 == 1 else admits old free c
        let s := if wild then s.drawn else s
        if !s.car.rebuild && yes then
          let s := occ s 17 0x13 (feedOf c.port)
          let cut := isCut s f c
          let c := { c with
            id := s.car.next, frame := id, cut := cut
            elig := !c.held && (cut || (f.verdict == some true && decide (f.src < 133))) }
          admitWake { s with car := { s.car with copies := s.car.copies ++ [c], next := s.car.next + 1 } } f c
        else occ (s.bump (if many then .CAR_Q_MC_REFUSED else .CAR_Q_DROP) (queueNo c.port c.queue)) 17 0x14 (feedOf c.port)
      let s := cs.foldl step s
      if (copiesOf s id).isEmpty then
        let s := if cs = [] then s else s.bump .CAR_DROPS
        tidy (s.modFrm id (fun f => { f with gone := true })) id
      else occ s 17 0x12 f.feed

/-- Cell `i` of a frame becomes complete in slot `k`: the slots in which its cells became complete, brought up to date. -/
def CFrame.stampCells (f : CFrame) (k : Nat) : CFrame :=
  let n := if f.ended then ceilDiv f.bytes.length 128 else f.bytes.length / 128
  { f with ctimes := f.ctimes ++ List.replicate (n - f.ctimes.length) k }

/-- The seconds of a timestamp in 2^-16 ns. -/
def tsSec (t : Nat) : Nat := t / 65536000000000

/-- The whole nanoseconds of a timestamp in 2^-16 ns. -/
def tsNs (t : Nat) : Nat := t / 65536 % 1000000000

/-- The word of TS_HALF and TS_NS (R351, R429). -/
def tsWord (t : Nat) : Word := bitw 31 (nbit t 15) ||| put 0 30 (tsNs t)

/-- The arrival prefix of a copy (R351); `cut` says that its inner frame was cut. -/
def arrivalWords (f : CFrame) (c : CCopy) (cut : Bool) : List Word :=
  match c.kind with
  | .report _ pfx => pfx
  | _ =>
    let drip : Option (Nat × Bool) := match c.kind with
      | .drip _ pc t => some (pc, t)
      | _ => none
    let red := drip.isNone && (f.dup == 1 || f.dup == 5)
    [wd (tsSec f.t), tsWord f.t,
     put 30 2 (b2n drip.isSome) ||| put 27 3 f.carry.cls ||| put 17 10 f.ref ||| bitw 16 f.carry.handleV |||
       (match drip with
        | some (pc, _) => put 10 6 f.carry.reason ||| (if f.carry.reason = 1 then put 6 4 pc else 0)
        | none => 0) |||
       bitw 5 (cut || (drip.map (·.2)).getD false) ||| bitw 4 red ||| bitw 3 (red && f.sideB) ||| bitw 2 (red && f.dup == 5) |||
       bitw 1 f.oow ||| bitw 0 f.exceeded,
     (if f.carry.handleV then put 16 16 f.carry.handle else 0) ||| put 10 6 f.audFlags ||| put 3 5 f.carry.hit]

/-! ## Redundancy pairs (R285) -/

/-- The pair and the side of which a board-set reference is a pair port: pair number, true for PORT_B. -/
def pairOf (s : State) (ref : Nat) : Option (Nat × Bool) :=
  (List.range 16).findSome? (fun n =>
    if !tst (s.rw .RED_PAIR_CFG n) 31 then none
    else if s.rf .RED_PAIR_PORTS n 0 16 10 = ref then some (n, false)
    else if s.rf .RED_PAIR_PORTS n 0 0 10 = ref then some (n, true)
    else none)

/-- MODE of a pair: 0 PRP, 1 HSR mode H, 2 HSR mode N. -/
def pairMode (s : State) (n : Nat) : Nat := s.rf .RED_PAIR_CFG n 0 29 2

/-- A reserved bit of a register that keeps it is not zero (R304). -/
def reservedBits (s : State) (f : Fam) (i : Nat) : Bool := s.rw f i &&& ~~~ f.row.mask != 0

/-- The registers of pair `n` hold a host error (R60, R304): a reserved MODE, a reserved bit, or a reserved reference. -/
def pairCfgErr (s : State) (n : Nat) : Bool :=
  pairMode s n == 3 || reservedBits s .RED_CFG 0 || reservedBits s .RED_PAIR_CFG n || reservedBits s .RED_PAIR_PORTS n ||
    decide (134 ≤ s.rf .RED_PAIR_PORTS n 0 16 8) || decide (134 ≤ s.rf .RED_PAIR_PORTS n 0 0 8) ||
    (!tst (s.rw .RED_PAIR_CFG n) 24 && decide (134 ≤ s.rf .RED_PAIR_CFG n 0 0 8))

/-- The traffic of a port is unpredictable (R304): it lies in two enabled pairs, is both a pair port and an interlink, or its pair has
a host error. -/
def portErr (s : State) (ref : Nat) : Bool :=
  let on := (List.range 16).filter (fun n => tst (s.rw .RED_PAIR_CFG n) 31)
  let mine := on.filter (fun n => s.rf .RED_PAIR_PORTS n 0 16 10 == ref || s.rf .RED_PAIR_PORTS n 0 0 10 == ref)
  decide (2 ≤ mine.length) || mine.any (pairCfgErr s) ||
    (!mine.isEmpty && on.any (fun n => !tst (s.rw .RED_PAIR_CFG n) 24 && s.rf .RED_PAIR_CFG n 0 0 10 == ref))

/-- Copies that a host error leaves open (R283, R304; log entry 6): by the next free value they go as computed, go nowhere, or go to
any ports. -/
def freeCopies (s : State) (cs : List CCopy) : List CCopy × State :=
  let n := s.free
  (match n % 3, cs with
    | 0, _ => cs
    | 1, _ | _, [] => []
    | _, c :: _ => (maskPorts s (n / 3 % 2 ^ 134)).map (fun p => { c with port := p, queue := classQueue p (n / 3 / 2 ^ 134 % 8) }),
   s.drawn)

/-- The copies of a frame that the device originates; those to ports whose traffic a host error leaves open are free (R304). -/
def sparePlan (s : State) (cs : List CCopy) : List CCopy × State :=
  let open_ (c : CCopy) : Bool := portErr s (portRef s c.port)
  if cs.any open_ then
    let r := freeCopies s (cs.filter open_)
    (cs.filter (fun c => !open_ c) ++ r.1, r.2)
  else (cs, s)

/-- A frame that the device originates is handed to admission (R244), its bytes given without an FCS: whole,
store-and-forward, with a good verdict.  It comes between slots, so its copies are eligible from the next slot boundary on (R246). -/
def originate (s : State) (f : CFrame) : State :=
  let p := sparePlan s f.plan
  let s := p.2
  let f := { f with plan := p.1, bytes := f.bytes ++ fcsBytes f.bytes, ended := true, looked := true, verdict := some true }
  -- what the service engine forms is received at port 133 (R244, R402, R406)
  let s := if f.src = 133 then countRxGood s 133 f.bytes else s
  let r := s.newFrm (f.stampCells s.car.slot)
  admitFrame r.1 r.2

/-- A good verdict makes the stored copies of its frame eligible, at the next slot boundary (R246). -/
def makeEligible (s : State) : State :=
  s.modCpy (fun c => !c.elig && !c.held && (match s.frm c.frame with
    | some f => f.verdict == some true
    | none => false)) (fun c => { c with elig := true })

/-- A copy whose traffic a host error has left unpredictable (R59): by the next free value it stays, is lost, goes to another port,
or goes twice.  One that is on its way out can only be lost. -/
def wildCopy (s : State) (c : CCopy) : State :=
  let n := s.free
  let q := n / 4 % 134
  let s := s.drawn
  if n % 4 = 0 then s
  else if c.begun then (if n % 4 = 1 then s.modCpy (fun x => x.id == c.id) (fun x => { x with endBad := true }) else s)
  else if n % 4 = 1 then dropCopy s c
  else if c.issued ≠ 0 ∨ !portTakes s q then s
  else if n % 4 = 2 then s.modCpy (fun x => x.id == c.id) (fun x => { x with port := q, queue := c.queue % queueCount q })
  else { s with car := { s.car with
    copies := s.car.copies ++ [{ c with id := s.car.next, port := q, queue := c.queue % queueCount q }], next := s.car.next + 1 } }

/-- Block `b` carries the traffic of a copy: the frame came through it or the copy leaves by it. -/
def blockCarries (s : State) (b : Nat) (c : CCopy) : Bool :=
  let src := match s.frm c.frame with
    | some f => f.src
    | none => c.port
  if b < 8 then pipeOf src == b || pipeOf c.port == b
  else if b = 16 then pipeOf src == 8 || pipeOf c.port == 8
  else if b = 17 ∨ b = 18 ∨ b = 19 then true
  else if 21 ≤ b ∧ b ≤ 26 then
    match s.frm c.frame with
    | none => false
    | some f =>
      -- the PTP engine's messages, the endpoint's launches and deliveries, what holds a local buffer, a line channel's packets
      if b = 21 then (f.buf.map (·.1)) == some 2
      else if b = 23 then f.launch.isSome || (128 ≤ c.port && c.port < 130)
      else if b = 24 then f.buf.isSome
      else (f.chan.map (fun i => 25 + i / 8)) == some b
  else portBlock src == b || portBlock c.port == b

/-- The traffic of block `b` is unpredictable (R59). -/
def blockWild (s : State) (b : Nat) : State := (s.car.copies.filter (blockCarries s b)).foldl wildCopy s

/-- Every copy queued for port `p` and not begun is discarded, and every begun one is lost; all are counted in
MAC_TX_DISCARD (R172, R174). -/
def purgePort (s : State) (p : Nat) (begunToo : Bool) : State :=
  (s.car.copies.filter (fun c => c.port == p && (begunToo || !c.begun))).foldl (fun s c => dropCopy (macCount s p 42) c) s

end Sys2Proof.Machine
end

