-- ==== Sys2Proof/Machine/Tables.lean ====
section
/-!
DEFINITION. Machine/Tables.lean: the guard partition's judgement (R55, R58), the regions of the table memory (R69), entry
parity, hashed and ternary searches and the table commands (09_fdb_learning.md R201 to R213).
-/
namespace Sys2Proof.Machine

/-! ## Guard operations (R55, R58, R213) -/

/-- Guard state is sealed (R58). -/
def guardSealed (s : State) : Bool := tst (s.rw .CTL_GUARD_SEAL) 0

/-- A refused guard operation is counted and flagged (R55, R402). -/
def guardRefused (s : State) (who : Who) : State :=
  occ ((s.bump .CTL_GUARD_REFUSED).setFlags .CTL_STATUS 0 0 8) 35 0x12 who.ctx

/-- The judgement of a guard operation: `none` where it may go on; else its STATUS and the state with the refusal counted. -/
def guardJudge (s : State) (who : Who) (isOp : Bool) : Option (Nat × State) :=
  if !isOp then none
  else if guardSealed s then some (stGuardSealed, guardRefused s who)
  else if !who.acting then some (stGuardDenied, guardRefused s who)
  else none

/-! ## Regions (R69, R472) -/

/-- The group of a region: 0 FDB, 1 ternary, 2 exact, 3 stream. -/
def regionGroup (r : Nat) : Nat := [0, 0, 1, 1, 2, 2, 2, 2, 3, 3, 3, 3, 3].getD r 4

/-- The greatest number of granules of a region. -/
def regionMax (r : Nat) : Nat := [64, 8, 32, 16, 2, 32, 8, 8, 16, 16, 8, 16, 8].getD r 0

/-- The bytes of an entry of a region. -/
def entryBytes (r : Nat) : Nat := [16, 32, 256, 256, 16, 16, 8, 32, 16, 16, 32, 64, 32].getD r 0

/-- The number of entries of a region under the partition records `parts`; the FDB has its 262,144 slots and 2,048
overflow entries (R201). -/
def entriesOf (parts : List (Nat × Nat × Nat)) (r : Nat) : Nat :=
  if r = 0 then 264192 else
  match parts.find? (fun p => p.1 == r) with
  | some (_, _, c) => c * 65536 / entryBytes r
  | none => 0

/-- The number of entries of a region. -/
def regionSize (s : State) (r : Nat) : Nat := entriesOf s.roast.parts r

/-- The words of an entry. -/
def entryWords (r : Nat) : Nat := entryBytes r / 4

/-- The first word of entry `i` of region `r` (R472); the FDB overflow store follows the window's last word. -/
def entryAddr (s : State) (r i : Nat) : Nat :=
  if r = 0 then (if i < 262144 then 4 * i else 6291456 + 4 * (i - 262144)) else
  match s.roast.parts.find? (fun p => p.1 == r) with
  | some (_, first, _) => first * 16384 + i * entryWords r
  | none => 0

/-- The table bank that a word of the table memory lies in; 16 for the overflow store (R69). -/
def bankOf (w : Nat) : Nat := if w < 6291456 then w / 327680 else 16

/-- The power domain of a word of the table memory (R117, R201, R354): the overflow store is in that of FDB bank 0, and the last
1,048,576 words are the local store. -/
def tblDom (w : Nat) : Nat := if w < 5242880 then 202 + w / 327680 else if w < 6291456 then 228 + (w - 5242880) / 262144 else 202

/-- The granules of region `r` and of another one overlap (R82). -/
def granuleShared (s : State) (r : Nat) : Bool :=
  let all := (0, 0, 64) :: s.roast.parts
  match all.find? (fun p => p.1 == r) with
  | none => false
  | some p => all.any (fun q => q.1 != r && decide (0 < q.2.2) && decide (0 < p.2.2) &&
      decide (p.2.1 < q.2.1 + q.2.2) && decide (q.2.1 < p.2.1 + p.2.2))

/-- The words of entry `i` of region `r`; those of a region that shares a granule with another are free (R82). -/
def entryAt (s : State) (r i : Nat) : List Word :=
  if granuleShared s r then (List.range (entryWords r)).map (fun k => Config.freeW (s.freeCtr + 64 * i + k))
  else s.tws (entryAddr s r i) (entryWords r)

/-- Word and bit of V, of G and of PAR in an entry; `none` where the region has no V. -/
def vBit (r : Nat) : Option (Nat × Nat) :=
  [some (2, 31), none, some (20, 31), some (20, 31), some (1, 31), some (3, 31), none, some (0, 31), some (3, 31),
   some (0, 31), some (0, 31), some (0, 31), some (0, 31)].getD r none
def gBit (r : Nat) : Nat × Nat :=
  [(2, 30), (0, 30), (20, 30), (20, 30), (1, 30), (3, 30), (0, 29), (0, 30), (3, 30), (0, 30), (0, 30), (0, 30), (0, 30)].getD r (0, 30)
def parBit (r : Nat) : Nat × Nat :=
  [(2, 29), (0, 29), (20, 29), (20, 29), (1, 29), (3, 29), (0, 28), (0, 29), (3, 29), (0, 29), (0, 29), (0, 29), (0, 29)].getD r (0, 29)

/-- The words that PAR covers (R186, R205, R264, R276, R278, R292, R293, R299). -/
def parWords (r : Nat) (ws : List Word) : List Word :=
  match r with
  | 0 => ws.take 3
  | 2 | 3 => ws.take 25
  | 7 => ws.take 3
  | 9 | 12 => ws.take 2
  | 10 => ws.take 4
  | 11 => (ws.getD 0 0 &&& 0xFE000000) :: (ws.drop 1).take 3
  | _ => ws

/-- The words hold an odd number of ones. -/
def oddOnes (ws : List Word) : Bool := (sumN (ws.map (fun w => (onesOf 32 w.toNat).length))) % 2 == 1

/-- An entry's words with one bit set to `b`. -/
def setBit (ws : List Word) (p : Nat × Nat) (b : Bool) : List Word := setAt ws p.1 (setFld (ws.getD p.1 0) p.2 1 (b2n b))

/-- An entry's words with PAR as the device computes it. -/
def fixPar (r : Nat) (ws : List Word) : List Word :=
  let z := setBit ws (parBit r) false
  setBit z (parBit r) (oddOnes (parWords r z))

/-- The entry's parity is good. -/
def parOk (r : Nat) (ws : List Word) : Bool := !oddOnes (parWords r ws)

/-- The entry is valid; where the region's entries carry no V, every entry is (R210). -/
def isValid (r : Nat) (ws : List Word) : Bool :=
  match vBit r with
  | some (w, b) => tst (ws.getD w 0) b
  | none => true

/-- The entry is guard-flagged by its own G. -/
def isGuard (r : Nat) (ws : List Word) : Bool := tst (ws.getD (gBit r).1 0) (gBit r).2

/-- An entry written as the device writes it: with PAR. -/
def putEntry (s : State) (r i : Nat) (ws : List Word) : State := s.setTws (entryAddr s r i) (fixPar r ws)

/-- An entry that a host writes (R186, R189, R276, R278, R279, R292, R299): what the device keeps takes its first value, and the bits
of absent ports in a port mask read as zero (R3, R15, R192). -/
def hostEntry (s : State) (r : Nat) (ws : List Word) : List Word :=
  match r with
  | 0 => ws.take 3 ++ [0]
  | 1 => ws.mapIdx (fun i w => if i = 0 then w &&& (0xFFFFFFC0 ||| maskBits s 4) else if i ≤ 4 then w &&& maskBits s (4 - i) else w)
  | 2 | 3 => setAt ws 25 0
  | 7 => setAt (setAt (setAt ws 3 (ws.getD 2 0)) 4 0) 5 0
  | 9 => setBit ws (0, 26) true
  | 10 => setAt (setAt (setBit ws (0, 23) false) 4 0) 5 0
  | 11 =>
    let w := setBit (setBit ws (0, 24) false) (0, 23) false
    w.take 4 ++ List.replicate 7 0 ++ [0x7FFFFFFF, 0x80000000, 0, 0, 0]
  | 12 => setBit ws (0, 24) true
  | _ => ws

/-! ## Searches (R184, R185, R202, R203) -/

/-- The key width in bytes of an exact region; the FDB and the node table hash 8 bytes. -/
def keyBytes (r : Nat) : Nat := if r = 4 then 4 else if r = 5 ∨ r = 8 then 12 else 8

/-- The stage whose key record an exact region uses. -/
def regionStage (r : Nat) : Nat := if r = 4 then 0 else if r = 8 then 1 else 3

/-- KEY_BITS of a stage (R71). -/
def keyBits (s : State) (st : Nat) : Nat :=
  match s.roast.keys.find? (fun k => k.1 == st) with
  | some k => k.2.1
  | none => 0

/-- The key that an entry holds, as a number (R187, R188, R205, R291, R293). -/
def entryKey (r : Nat) (ws : List Word) : Nat :=
  let w (i : Nat) : Nat := (ws.getD i 0).toNat
  match r with
  | 4 => w 0
  | 5 | 8 => w 0 * 2 ^ 64 + w 1 * 2 ^ 32 + w 2
  | 12 => w 0 % 65536 * 2 ^ 32 + w 1
  | _ => w 0 % 2 ^ 28 * 2 ^ 32 + w 1

/-- The bits of a key that take part in a compare. -/
def keyMask (s : State) (r : Nat) : Nat :=
  if r = 4 ∨ r = 5 ∨ r = 8 then 2 ^ keyBits s (regionStage r) else 2 ^ 64

/-- The indices of the bucket that a key hashes to (R184, R202, R203). -/
def bucketOf (s : State) (r key : Nat) : List Nat :=
  let n := if r = 0 then 65536 else regionSize s r / 4
  if n = 0 then [] else
  let b := crc32 (beBytes (keyBytes r) key) % n
  (List.range 4).map (fun j => 4 * b + j)

/-- The overflow entries of the FDB that are not all zero, ascending (R202). -/
def ovfUsed (s : State) : List Nat :=
  (((s.tbl.mem.filter (fun p => 6291456 ≤ p.1)).map (fun p => (p.1 - 6291456) / 4)).dedup).map (· + 262144)

/-- A key's search places, in order: its bucket, then for the FDB the overflow store. -/
def places (s : State) (r key : Nat) : List Nat := bucketOf s r key ++ (if r = 0 then ovfUsed s else [])

/-- The entry that a key finds, and the indices of the entries with a parity error that the search met (R184, R186,
R202, R206). -/
def findKey (s : State) (r key : Nat) : Option Nat × List Nat :=
  let ps := places s r key
  let m := keyMask s r
  (ps.find? (fun i =>
      let e := entryAt s r i
      isValid r e && parOk r e && entryKey r e % m == key % m),
   ps.filter (fun i => !parOk r (entryAt s r i)))

/-- The lowest free place for a key: V = 0 with a good PAR, in the bucket and then, for the FDB, in the overflow
store (R210). -/
def freePlace (s : State) (r key : Nat) : Option Nat :=
  let ok (i : Nat) : Bool := let e := entryAt s r i; !isValid r e && parOk r e
  match (bucketOf s r key).find? ok with
  | some i => some i
  | none => if r = 0 then ((List.range 2048).map (· + 262144)).find? ok else none

/-- An FDB entry with a parity error was met (R206). -/
def fdbParity (s : State) (i : Nat) : State :=
  occ (((s.bump .FDB_PARITY).wr .FDB_PARITY_IDX 0 0 (wd i)).setFlags .FDB_STATUS 0 0 8) 20 0x07 0

/-- Word 3 of an FDB entry: AGE, MOVES, SPAR and WIN_START (R205). -/
def fdbW3 (age moves win : Nat) : Word :=
  let w := put 30 2 age ||| put 26 4 moves ||| put 0 16 win
  w ||| bitw 25 (oddOnes [w])

/-- An FDB entry is written by the device. -/
def fdbPut (s : State) (i : Nat) (e : List Word) : State := s.setTws (entryAddr s 0 i) (fixPar 0 (e.take 3) ++ [e.getD 3 0])

/-- An access to FDB entry `i` (R206): a word 3 with an SPAR error is counted and rewritten as AGE 0 and MOVES 0.  An entry with a
PAR error the device never rewrites. -/
def fdbSpar (s : State) (i : Nat) : State :=
  let e := entryAt s 0 i
  if parOk 0 e && oddOnes [e.getD 3 0] then fdbPut (fdbParity s i) i (e.take 3 ++ [fdbW3 0 0 0]) else s

/-- An access to entry `i` of region `r`, as far as word 3 of an FDB entry goes (R206). -/
def sparAt (s : State) (r i : Nat) : State := if r = 0 then fdbSpar s i else s

/-- Entries of region `r` with a parity error were met by pipeline `k` (R186, R206). -/
def countParity (s : State) (k r : Nat) (bads : List Nat) : State :=
  if r = 0 then bads.foldl fdbParity s
  else if r ≤ 5 ∨ r = 8 then bads.foldl (fun s _ => occ ((s.bump .CLS_PARITY k).setFlags .CLS_STATUS k 0 2) (if k < 8 then k else 16) 0x07 0) s else s

/-- A search for `key` in region `r` by pipeline `k` meets the entries at the key's places: those with a parity error are counted, and
so is a word 3 of an FDB entry with one, which is rewritten (R186, R206). -/
def searchMet (s : State) (k r key : Nat) : State :=
  let s := countParity s k r (findKey s r key).2
  if r = 0 then (places s r key).foldl fdbSpar s else s

/-- FDB entries fit by hash, in image order, into an empty FDB; else the offset of the record that does not
(R76).  The accumulator holds the keys placed, each with its bucket, or 65,536 for the overflow store: an entry of a key that is
there replaces it, and one with V = 0 leaves its place free. -/
def fdbFits : List (Nat × Nat) → List (Nat × List (List Word)) → Option Nat
  | _, [] => none
  | acc, (off, es) :: t =>
    let r := es.foldl (fun (a : Option (List (Nat × Nat))) e =>
      match a with
      | none => none
      | some m =>
        let k := entryKey 0 e
        let b := crc32 (beBytes 8 k) % 65536
        let held (x : Nat) : Nat := (m.filter (fun q => q.2 == x)).length
        match mfind m k, (if held b < 4 then some b else if held 65536 < 2048 then some 65536 else none) with
        | some _, _ => some (if isValid 0 e then m else mdel m k)
        | none, none => none
        | none, some x => some (if isValid 0 e then mins m k x else m)) (some acc)
    match r with
    | none => some off
    | some m => fdbFits m t

/-! ## The flush sweep's start (R213, R222, R223) -/

/-- A flush sweep starts. -/
def flushStart (s : State) (filters : List Word) (ctx : Nat) (link guard : Bool) : State :=
  { s with tbl := { s.tbl with
    flush := true
    filters := filters
    flushPos := 0
    flushCtx := ctx
    flushLink := link
    flushGuard := guard } }

/-- The filter of a link-down flush: BY_DEST and a reference (R222, R223). -/
def linkFilter (ref : Nat) : Word := bitw 30 true ||| put 0 10 ref

/-- A link-down flush for a local port: at once, or merged with those that wait for the running sweep (R223); one that
block 20's reset holds waits for the release (R227). -/
def linkdownFlush (s : State) (p : Nat) : State :=
  if !tst (s.rw .FDB_CFG) 29 then s
  else if s.tbl.flush || closed s 20 then
    { s with tbl := { s.tbl with waiting := if s.tbl.waiting.contains (portRef s p) then s.tbl.waiting
                                            else s.tbl.waiting ++ [portRef s p] } }
  else flushStart s [linkFilter (portRef s p)] 0 true false

/-! ## Table commands (R210 to R213) -/

/-- Word `n` of a context's entry buffer. -/
def bufW (s : State) (c n : Nat) : Word := if n < 64 then mget 0 s.tbl.buf (64 * c + n) else 0

/-- A context's entry buffer with words written from `n`. -/
def setBuf (s : State) (c : Nat) : Nat → List Word → State
  | _, [] => s
  | n, w :: t => setBuf (if n < 64 then { s with tbl := { s.tbl with buf := mput 0 s.tbl.buf (64 * c + n) w } } else s) c (n + 1) t

/-- The first `n` words of a context's entry buffer. -/
def bufWords (s : State) (c n : Nat) : List Word := (List.range n).map (bufW s c)

/-- TBL_REQ and TBL_RES words of a context. -/
def setReq (s : State) (c : Nat) : Nat → List Word → State
  | _, [] => s
  | n, w :: t => setReq { s with tbl := { s.tbl with req := mput 0 s.tbl.req (16 * c + n) w } } c (n + 1) t
def setResW (s : State) (c : Nat) : Nat → List Word → State
  | _, [] => s
  | n, w :: t => setResW { s with tbl := { s.tbl with res := mput 0 s.tbl.res (16 * c + n) w } } c (n + 1) t

/-- The tokens that a bucket gains by a rate in tokens per second: whole tokens and the fraction in 10^-9 token
that remains, at 1 ns resolution (R198, R279). -/
def accrue (rate frac ticks : Nat) : Nat × Nat :=
  let t := frac + rate * 4 * ticks
  (t / 1000000000, t % 1000000000)

/-- A policer's TOKENS brought up to date (R279). -/
def meterSync (s : State) (i : Nat) : State :=
  let e := entryAt s 7 i
  let b := mget {} s.red.meters i
  let r := accrue (e.getD 1 0).toNat b.frac (s.time.ticks - b.tick)
  let burst : Int := (e.getD 2 0).toNat
  let v := sgn 32 (e.getD 3 0).toNat + r.1
  let full := decide (v ≥ burst)
  let s := { s with red := { s.red with meters := mins s.red.meters i { tick := s.time.ticks, frac := if full then 0 else r.2 } } }
  s.setTw (entryAddr s 7 i + 3) (wOfInt (if full then burst else v))

/-- Entry `i` of the gate-list pool has been given other words: the ports whose operating list holds it are marked (R272). -/
def listWritten (s : State) (i : Nat) : State :=
  s.schs.foldl (fun s x =>
    let w := s.rw .SCH_OPER_LIST x.1
    let a := 16 * fld (portRec s x.1).2 16 12 + fld w 16 16
    if x.2.running && decide (a ≤ i) && decide (i < a + fld w 0 16) then s.setSch x.1 { x.2 with rewr := true } else s) s

/-- An entry as a host write leaves it; a policer's bucket is full from now on. -/
def hostPut (s : State) (r i : Nat) (ws : List Word) : State :=
  let old := entryAt s r i
  let s := putEntry s r i (hostEntry s r ws)
  if r = 7 then { s with red := { s.red with meters := mins s.red.meters i { tick := s.time.ticks } } }
  else if r = 6 ∧ entryAt s 6 i ≠ old then listWritten s i
  else s

/-- The operation is allowed for the region (R210). -/
def opRegion (op r : Nat) : Bool :=
  r ≤ 12 && (match op with
    | 1 | 2 | 6 | 8 | 9 => true
    | 3 | 4 | 5 => r == 0 || r == 4 || r == 5 || r == 8
    | 7 => r == 0
    | _ => false)

/-- The key of a context's buffer for a region, cut to the bits that take part. -/
def bufKey (s : State) (c r : Nat) : Nat := entryKey r (bufWords s c (entryWords r)) % keyMask s r

/-- The buffer's words with the key bits at or above KEY_BITS zero (R210: INSERT). -/
def cutKey (s : State) (r : Nat) (ws : List Word) : List Word :=
  let k := entryKey r ws % keyMask s r
  match r with
  | 4 => setAt ws 0 (wd k)
  | 5 | 8 => setAt (setAt (setAt ws 0 (wd (k / 2 ^ 64))) 1 (wd (k / 2 ^ 32))) 2 (wd k)
  | _ => ws

/-- A command that changes entry `i` to `new` is a guard operation (R213). -/
def guardEntry (s : State) (r i : Nat) (new : List Word) : Bool :=
  isGuard r (entryAt s r i) || isGuard r new || s.roast.guardRegions.testBit r

/-- The first entry at `idx` or above that NEXT returns (R210, R211): a valid one, or one with a parity error. -/
def nextAt (s : State) (r idx : Nat) : Option Nat :=
  let a := entryAddr s r 0
  let n := entryWords r
  -- the entries that are not all zero, ascending; every entry where the region carries no V
  let cand := if vBit r = none then [idx] else
    ((s.tbl.mem.filterMap (fun p =>
      if r = 0 then (if p.1 < 1048576 then some (p.1 / 4) else if 6291456 ≤ p.1 then some (262144 + (p.1 - 6291456) / 4) else none)
      else if a ≤ p.1 ∧ p.1 < a + regionSize s r * n then some ((p.1 - a) / n) else none)).dedup).filter (fun i => idx ≤ i)
  cand.find? (fun i => isValid r (entryAt s r i) || !parOk r (entryAt s r i))

/-- The outcome of a table command: its CODE and INDEX; a STATUS that replaces TABLE_ERROR where the guard refused it. -/
structure TblOut where
  code : Nat := 0
  index : Nat := 0
  off : Nat := 0
  refused : Option Nat := none
deriving DecidableEq, Repr

/-- One table command on the buffer of context `who.ctx` (R210, R211).  A WRITE, INSERT or DELETE that addresses a region of
GUARD_REGIONS is a guard operation whatever it would find there (R213). -/
def tableExec (s : State) (who : Who) (op r idx nargs : Nat) : TblOut × State :=
  let c := who.ctx
  let n := entryWords r
  let size := regionSize s r
  let readAt (i : Nat) : TblOut × State :=
    let s := sparAt (if r = 7 then meterSync s i else s) r i
    let e := entryAt s r i
    let bad := !parOk r e
    let s := setBuf s c 0 e
    ({ code := if bad then 5 else 0, index := i }, if bad then countParity s 8 r [i] else s)
  if op = 8 then (if idx % 64 + nargs > 64 then { code := 3 } else if r > 12 then { code := 4 } else {}, s)
  else if op = 9 ∧ r ≤ 12 then ({ off := idx % 64 }, s)
  else if !opRegion op r then ({ code := 4 }, s)
  else match (if (op = 2 ∨ op = 3 ∨ op = 5) ∧ s.roast.guardRegions.testBit r then guardJudge s who true else none) with
  | some (st, s) => ({ refused := some st }, s)
  | none =>
  if size = 0 then ({ code := 7 }, s)
  else match op with
  | 1 => if idx ≥ size then ({ code := 3 }, s) else readAt idx
  | 2 =>
    if idx ≥ size then ({ code := 3 }, s) else
    let new := bufWords s c n
    match guardJudge s who (guardEntry s r idx new) with
    | some (st, s) => ({ index := idx, refused := some st }, s)
    | none => ({ index := idx }, hostPut s r idx new)
  | 3 =>
    let new := cutKey s r (bufWords s c n)
    let f := findKey s r (bufKey s c r)
    match (match f.1 with
      | some i => some i
      | none => freePlace s r (bufKey s c r)) with
    | none =>
      match guardJudge s who (isGuard r new || s.roast.guardRegions.testBit r) with
      | some (st, s) => ({ refused := some st }, s)
      | none => ({ code := 2 }, searchMet s 8 r (bufKey s c r))
    | some i =>
      match guardJudge s who (guardEntry s r i new) with
      | some (st, s) => ({ index := i, refused := some st }, s)
      | none => ({ index := i }, hostPut (searchMet s 8 r (bufKey s c r)) r i new)
  | 4 =>
    let f := findKey s r (bufKey s c r)
    let s := searchMet s 8 r (bufKey s c r)
    match f.1, f.2 with
    | some i, _ => ({ index := i }, setBuf s c 0 (entryAt s r i))
    | none, b :: _ => ({ code := 5, index := b }, setBuf s c 0 (entryAt s r b))
    | none, [] => ({ code := 1 }, s)
  | 5 =>
    let f := findKey s r (bufKey s c r)
    match f.1 with
    | none => ({ code := 1 }, searchMet s 8 r (bufKey s c r))
    | some i =>
      match guardJudge s who (guardEntry s r i []) with
      | some (st, s) => ({ index := i, refused := some st }, s)
      | none => ({ index := i }, (searchMet s 8 r (bufKey s c r)).setTws (entryAddr s r i) (List.replicate n 0))
  | 6 =>
    if idx ≥ size then ({ code := 3 }, s) else
    match nextAt s r idx with
    | some i => readAt i
    | none => ({ code := 1 }, s)
  | _ =>
    if s.tbl.flush then ({ code := 6 }, s)
    else ({}, flushStart s [bufW s c 0] c false (who.acting && !guardSealed s))

/-- The power domains of entries `lo` to `hi` of region `r`. -/
def spanDoms (s : State) (r lo hi : Nat) : List Nat :=
  let a := tblDom (entryAddr s r lo)
  if r = 0 ∧ 262144 ≤ lo then [a]
  else
    let z := tblDom (entryAddr s r (if r = 0 then min hi 262143 else hi) + entryWords r - 1)
    (List.range (z + 1 - a)).map (· + a) ++ (if r = 0 ∧ 262144 ≤ hi then [202] else [])

/-- The power domains of the entries that a table command reads or writes: NEXT reads from INDEX to the entry that ends its search, or
to the region's end (R210). -/
def tableDoms (s : State) (c op r idx : Nat) : List Nat :=
  if op = 1 ∨ op = 2 then spanDoms s r idx idx
  else if op = 6 then spanDoms s r idx ((nextAt s r idx).getD (regionSize s r - 1))
  else match bucketOf s r (bufKey s c r) with
    | [] => []
    | b :: _ => spanDoms s r b (b + 3) ++ (if r = 0 then [202] else [])

/-- A table command meets a sleeping bank, and waits for its wake (R118). -/
def tableAsleep (s : State) (c op r idx : Nat) : Bool :=
  opRegion op r && op < 7 && regionSize s r != 0 && ((op != 1 && op != 2 && op != 6) || decide (idx < regionSize s r)) &&
    (tableDoms s c op r idx).any (fun d => !domOn s d)

/-- The argument words are copied into the buffer before the command is checked (R210). -/
def loadArgs (s : State) (c op idx : Nat) (args : List Word) : State :=
  if op = 8 then (if idx % 64 + args.length > 64 then s else setBuf s c (idx % 64) args) else setBuf s c 0 args

/-- A TABLE operation must wait: a bank that it meets sleeps, or other commands wait before it, since the engine executes one command
at a time for all contexts (R118, R212).  A closed wrapper answers at once, and the guard comes before the bank's domain (R55). -/
def tableWaits (s : State) (who : Who) (words : List Word) : Bool :=
  let cw := words.getLastD 0
  let op := fld cw 28 4
  let r := fld cw 24 4
  let idx := fld cw 0 19
  let l := loadArgs s who.ctx op idx words.dropLast
  !closed s 20 && (s.ctl.tblWaits != [] ||
    (tableAsleep l who.ctx op r idx && (tableExec l who op r idx words.dropLast.length).1.refused.isNone))

/-- A TABLE operation (R33, R35, R210 to R213): its words, the last being the command word, and how many result words it
returns; its STATUS, the result words and the state. -/
def tableOp (s : State) (who : Who) (words : List Word) (nres : Nat) : Nat × List Word × State :=
  let args := words.dropLast
  let cw := words.getLastD 0
  let c := who.ctx
  let op := fld cw 28 4
  let idx := fld cw 0 19
  let r0 := (tableExec (loadArgs s c op idx args) who op (fld cw 24 4) idx args.length).1.refused
  if closed s 20 then
    (match r0 with
      | some st => (st, [], guardRefused s who)
      | none => (stDomainOff, [], isoError s 20))
  else
  let s := loadArgs (setReq (occ (occ s 20 0x06 0) 20 0x10 0) c 0 words) c op idx args
  let r := tableExec s who op (fld cw 24 4) idx args.length
  let o := r.1
  let s := r.2
  match o.refused with
  | some st => (st, [], s)
  | none =>
    let res := (put 28 4 o.code ||| put 0 19 o.index) :: (List.range 15).map (fun i => bufW s c (o.off + i))
    let s := setResW s c 0 res
    (if o.code = 0 then stOk else stTableError, res.take nres, if o.code = 0 then s else s.bump .TBL_ERRORS)

/-- The command word of a table command. -/
def tblWord (op region index : Nat) : Word := put 28 4 op ||| put 24 4 region ||| put 0 19 index

end Sys2Proof.Machine
end

