-- ==== Sys2Proof/Machine/Fdb.lean ====
section
/-!
DEFINITION. Machine/Fdb.lean: learning, station moves, aging and flushing of the forwarding database
(09_fdb_learning.md R207 to R227).
-/
namespace Sys2Proof.Machine

/-- The key of (FID, MAC) (R202). -/
def fdbKey (fid mac : Nat) : Nat := fid % 4096 * 2 ^ 48 + mac % 2 ^ 48

/-- The fields of an FDB entry (R205). -/
def fdbDest (e : List Word) : Nat := fld (e.getD 2 0) 0 14
def fdbKind (e : List Word) : Bool := tst (e.getD 2 0) 14
def fdbStatic (e : List Word) : Bool := tst (e.getD 2 0) 28
def fdbFlap (e : List Word) : Bool := tst (e.getD 2 0) 27
def fdbAge (e : List Word) : Nat := fld (e.getD 3 0) 30 2
def fdbMoves (e : List Word) : Nat := fld (e.getD 3 0) 26 4
def fdbWin (e : List Word) : Nat := fld (e.getD 3 0) 0 16

/-- A learn notice is given to the stitch engine of every link that is up (R224). -/
def learnNotice (s : State) (fid mac ref : Nat) : State :=
  [0, 1, 2].foldl (fun s l =>
    let x := s.link l
    if x.up then s.setLink l { x with notices := x.notices ++ [(fid, mac, ref)] } else s) s

/-- A learn request enters the learning queue, or is lost to a full one (R214); the closed wrapper of block 20 discards it (R104). -/
def learnPush (s : State) (q : LearnReq) : State :=
  if closed s 20 then isoDiscard s 20
  else if s.tbl.queue.length ≥ 1024 then (s.bump .FDB_LEARN_OVF).setFlags .FDB_STATUS 0 0 2
  else { s with tbl := { s.tbl with queue := s.tbl.queue ++ [q] } }

/-- The reference names a port of this device. -/
def localRef (s : State) (ref : Nat) : Bool := nfld ref 8 2 == devNo s

/-- The learning engine's 16-bit millisecond count (R218): the device's own ticks of 4 ns, which no step of the Timekeeper moves. -/
def learnMs (s : State) : Nat := s.time.ticks / 250000 % 65536

/-- A station move (R218).  A MOVE_LIMIT or MOVE_WINDOW out of range leaves the move free (R228). -/
def stationMove (s : State) (i : Nat) (e : List Word) (q : LearnReq) : State :=
  let now := learnMs s
  let lim := s.within 1 15 (s.rf .FDB_MOVE_CFG 0 0 16 4)
  let win := s.within 1 60000 (s.rf .FDB_MOVE_CFG 0 0 0 16)
  let apply (moves start : Nat) : State :=
    let s := fdbPut s i [e.getD 0 0, e.getD 1 0, setFld (setFld (e.getD 2 0) 0 14 q.ref) 14 1 1, fdbW3 0 moves start]
    let s := occ (s.bump .FDB_MOVES) 20 0x12 0
    if localRef s q.ref then learnNotice s q.fid q.mac q.ref else s
  if fdbMoves e = 0 ∨ (now + 65536 - fdbWin e) % 65536 ≥ win then apply 1 now
  else if fdbMoves e < lim then apply (fdbMoves e + 1) (fdbWin e)
  else
    let s := fdbPut s i [e.getD 0 0, e.getD 1 0, setFld (e.getD 2 0) 27 1 1, e.getD 3 0]
    ((s.wr .FDB_LAST_FLAP 0 0 (wd i)).bump .FDB_FROZEN_HITS).setFlags .FDB_STATUS 0 0 1

/-- The learning engine handles a request (R215). -/
def learnOne (s : State) (q : LearnReq) : State :=
  if !tst (s.rw .FDB_CFG) 31 then s
  else if s.roast.guardRegions.testBit 0 then s.bump .FDB_LEARN_REFUSED
  else
    let f := findKey s 0 (fdbKey q.fid q.mac)
    let s := searchMet s 8 0 (fdbKey q.fid q.mac)
    match f.1 with
    | none =>
      if q.refresh then s else
      match freePlace s 0 (fdbKey q.fid q.mac) with
      | none => (s.bump .FDB_LEARN_FULL).setFlags .FDB_STATUS 0 0 4
      | some i =>
        let k := fdbKey q.fid q.mac
        let s := fdbPut s i [wd (k / 2 ^ 32), wd k, bitw 31 true ||| bitw 14 true ||| put 0 10 q.ref, fdbW3 0 0 0]
        let s := occ (s.bump .FDB_LEARNS) 20 0x11 0
        if localRef s q.ref then learnNotice s q.fid q.mac q.ref else s
    | some i =>
      let e := entryAt s 0 i
      if isGuard 0 e || fdbStatic e || !fdbKind e then s.bump .FDB_LEARN_REFUSED
      else if fdbDest e % 1024 = q.ref then
        if q.refresh ∨ fdbAge e ≠ 0 then fdbPut s i (e.take 3 ++ [fdbW3 0 (fdbMoves e) (fdbWin e)]) else s
      else if fdbFlap e then s.bump .FDB_FROZEN_HITS
      else stationMove s i e q

/-- The bank of an FDB entry is awake; an access to it waits for its wake otherwise (R118). -/
def fdbAwake (s : State) (i : Nat) : Bool := domOn s (tblDom (entryAddr s 0 i))

/-- The learning engine takes its next request (R214, R215). -/
def learnCommit (s : State) : State :=
  if closed s 20 then s else
  match s.tbl.queue with
  | [] => s
  | q :: t =>
    if ((bucketOf s 0 (fdbKey q.fid q.mac)).headD 0 :: [262144]).all (fdbAwake s) then
      learnOne { s with tbl := { s.tbl with queue := t } } q
    else s

/-- The aging sweep visits its next index (R221).  An AGE_TIME below 3 leaves it open whether the sweep ages there (R228). -/
def agingSweep (s : State) : State :=
  if !tst (s.rw .FDB_CFG) 30 || closed s 20 || !fdbAwake s s.tbl.agePos then s else
  let i := s.tbl.agePos
  let idle := decide (s.rf .FDB_CFG 0 0 0 16 < 3) && s.free % 2 == 1
  let s := if s.rf .FDB_CFG 0 0 0 16 < 3 then s.drawn else s
  let s := { s with tbl := { s.tbl with agePos := (i + 1) % 264192 } }
  let e := entryAt s 0 i
  if idle then s
  else if !parOk 0 e then fdbParity s i
  else if !isValid 0 e then s
  else
    let s := fdbSpar s i
    let e := entryAt s 0 i
    if fdbStatic e || isGuard 0 e || s.roast.guardRegions.testBit 0 then s
    else if fdbAge e = 3 then occ ((s.setTws (entryAddr s 0 i) [0, 0, 0, 0]).bump .FDB_AGED) 20 0x13 0
    else fdbPut s i (e.take 3 ++ [fdbW3 (fdbAge e + 1) (fdbMoves e) (fdbWin e)])

/-- An entry matches a flush filter (R222); a reserved field of the filter that is not zero leaves it open which entries do (R228). -/
def flushMatch (s : State) (w : Word) (e : List Word) : Bool :=
  if fld w 24 5 ≠ 0 ∨ fld w 10 2 ≠ 0 then s.free % 2 == 1
  else
    (!tst w 31 || fld (e.getD 0 0) 16 12 == fld w 12 12) &&
    (!tst w 30 || (fdbKind e && fdbDest e % 1024 == fld w 0 10)) &&
    (tst w 29 || !fdbStatic e)

/-- The flush sweep meets entry `i`. -/
def flushAt (s : State) (i : Nat) : State :=
  if !parOk 0 (entryAt s 0 i) then fdbParity s i
  else if !isValid 0 (entryAt s 0 i) then s
  else
    let s := fdbSpar s.drawn i
    let e := entryAt s 0 i
    if s.tbl.filters.any (fun w => flushMatch s w e) &&
        (!(isGuard 0 e || s.roast.guardRegions.testBit 0) || s.tbl.flushGuard) then
      s.setTws (entryAddr s 0 i) [0, 0, 0, 0]
    else s

/-- A flush sweep ends: FLUSH_DONE, and the link-down flushes that wait start as one sweep (R222, R223). -/
def flushEnd (s : State) : State :=
  let s := { s with tbl := { s.tbl with flush := false, flushLink := false, flushCtx := 0, flushPos := 0, filters := [] } }
  let s := s.setFlags .FDB_STATUS 0 0 16
  if s.tbl.waiting = [] then s else
  let w := s.tbl.waiting.map linkFilter
  flushStart { s with tbl := { s.tbl with waiting := [] } } w 0 true false

/-- The flush sweep visits its next bucket, or the overflow store after the last (R222). -/
def flushSweep (s : State) : State :=
  if !s.tbl.flush || closed s 20 || !fdbAwake s (min 262144 (4 * s.tbl.flushPos)) then s
  else if s.tbl.flushPos < 65536 then
    let b := s.tbl.flushPos
    (List.range 4).foldl (fun s j => flushAt s (4 * b + j)) { s with tbl := { s.tbl with flushPos := b + 1 } }
  else flushEnd ((ovfUsed s).foldl flushAt s)

/-- FDB_COUNT. -/
def fdbCount (s : State) : Word :=
  let v := s.tbl.mem.filter (fun p => p.1 % 4 == 2 && tst p.2 31 && (p.1 < 1048576 || 6291456 ≤ p.1))
  put 19 12 (v.filter (fun p => 6291456 ≤ p.1)).length ||| put 0 19 v.length

/-- TBL_STATUS; a command is executing while one waits for a bank (R118, R472). -/
def tblStatus (s : State) : Word :=
  bitw 31 (s.ctl.tblWaits != []) ||| bitw 30 s.tbl.flush ||| put 27 3 s.tbl.flushCtx ||| bitw 26 s.tbl.flushLink ||| put 0 17 s.tbl.flushPos

/-- A reserved field of a valid entry is not zero: what becomes of the frames that use it is free (R228). -/
def fdbReserved (e : List Word) : Bool :=
  fld (e.getD 0 0) 28 4 != 0 || fld (e.getD 2 0) 15 12 != 0 || fld (e.getD 3 0) 16 9 != 0 ||
    (fdbKind e && decide (1024 ≤ fdbDest e))

/-- The destination lookup of S4 (R207): DEST_KIND and DEST, and the parity errors met. -/
def fdbLookup (s : State) (fid mac : Nat) : Option (Bool × Nat) × State :=
  let f := findKey s 0 (fdbKey fid mac)
  let s := searchMet s 8 0 (fdbKey fid mac)
  match f.1 with
  | some i =>
    let e := entryAt s 0 i
    if fdbReserved e then (some (s.free % 2 == 1, s.free / 2 % 16384), s.drawn) else (some (fdbKind e, fdbDest e), s)
  | none => (none, s)

/-- The source lookup of S4 and the request it forms (R208): a learn request only for a SMAC that is neither zero nor a group
address. -/
def fdbSource (s : State) (fid mac ref : Nat) : Option LearnReq × State :=
  let f := findKey s 0 (fdbKey fid mac)
  let s := searchMet s 8 0 (fdbKey fid mac)
  let learn : Option LearnReq := if mac = 0 ∨ nbit mac 40 then none else some ⟨fid, mac, ref, false, false⟩
  match f.1 with
  | none => (learn, s)
  | some i =>
    let e := entryAt s 0 i
    if !fdbKind e then (none, s)
    else if fdbDest e % 1024 ≠ ref then (learn, s)
    else if fdbAge e ≠ 0 then (some ⟨fid, mac, ref, true, false⟩, s)
    else (none, s)

end Sys2Proof.Machine
end

