-- ==== Sys2Proof/Machine/Mac.lean ====
section
/-!
DEFINITION. Machine/Mac.lean: links, faults, preemption verification, low-power idle, and the enable and disable of ports
(07_mac.md R155 to R174).
-/
namespace Sys2Proof.Machine

/-- PREEMPT is allowed for port `p` in lane mode `m` (R157). -/
def modePreempt (p m : Nat) : Bool := p < 128 && [1, 2, 3, 4, 5, 6, 7, 8, 9, 10].contains m

/-- EEE is allowed for port `p` in lane mode `m` (R157). -/
def modeEee (p m : Nat) : Bool := p < 130 && [2, 3, 5, 7, 8, 9, 10].contains m

/-- The lane goes to electrical idle when its port is in Doze (R129). -/
def idleMode (m : Nat) : Bool := m == 3 || m == 7 || m == 10

/-- Preemption is active on port `p` (R158). -/
def mmActive (s : State) (p : Nat) : Bool :=
  portPreempt s p && tst (s.rw .MAC_MM_CFG p) 31 && (s.mac p).link &&
    (tst (s.rw .MAC_MM_CFG p) 30 || (s.mac p).ver == .succeeded)

/-- EEE is active on port `p` (R168). -/
def eeeActive (s : State) (p : Nat) : Bool := portEee s p && tst (s.rw .MAC_EEE_CFG p) 31 && (s.mac p).link

/-- VERIFY of a port on which no verification runs (R159): INITIAL where one is to start at link up (log entry 110). -/
def verRest (s : State) (p : Nat) : VerSt :=
  if portPreempt s p && tst (s.rw .MAC_MM_CFG p) 31 && !tst (s.rw .MAC_MM_CFG p) 30 then .initial else .disabled

/-- Verification starts (R159): a verify mPacket is sent, unless MM_EN is clear, VERIFY_DIS is set or the link is down. -/
def startVerify (s : State) (p : Nat) : State :=
  let v := verRest s p
  if v = .initial ∧ (s.mac p).link then
    macCount ((s.setMac p { (s.mac p) with ver := .verifying, tries := 1 }).emit (.mpacket p false)) p 55
  else s.setMac p { (s.mac p) with ver := v, tries := 0 }

/-- A verify mPacket is answered whatever MM_EN holds (R159). -/
def verifyRx (s : State) (p : Nat) : State :=
  if portPresent s p && (s.mac p).link then s.emit (.mpacket p true) else s

/-- A respond mPacket ends a verification with success (R159). -/
def respondRx (s : State) (p : Nat) : State :=
  if (s.mac p).ver = .verifying then s.setMac p { (s.mac p) with ver := .succeeded } else s

/-- VERIFY_TIME has passed without a response (R159): another attempt, or failure after three.  A VERIFY_TIME out of range leaves the
port's preemption free (R177). -/
def verifyTimeout (s : State) (p : Nat) : State :=
  let m := s.mac p
  let t := s.rf .MAC_MM_CFG p 0 16 8
  if m.ver ≠ .verifying then s
  else if t = 0 ∨ t > 128 then
    s.drawn.setMac p { m with ver := [VerSt.disabled, .verifying, .succeeded].getD (s.free % 4) .failed }
  else if m.tries < 3 then macCount ((s.setMac p { m with tries := m.tries + 1 }).emit (.mpacket p false)) p 55
  else (s.setMac p { m with ver := .failed }).setFlags .MAC_STATUS p 0 8

/-- A port in low-power idle in both directions spends one Hotplate tick there: LPI_TIME counts whole microseconds (R175). -/
def lpiTime (s : State) (p : Nat) : State :=
  let m := s.mac p
  if m.txLpi && m.rxLpi then
    macCount (s.setMac p { m with lpiRest := (m.lpiRest + 320) % 1000 }) p 46 ((m.lpiRest + 320) / 1000)
  else s

/-- The low-power idle of a port changes, and a host lane's contexts follow (R169, R170). -/
def setLpi (s : State) (p : Nat) (tx rx : Bool) : State :=
  let m := s.mac p
  let s := if tx && !m.txLpi then macCount s p 45 else s
  let s := if rx && !m.rxLpi then macCount s p 27 else s
  refreshDormant (s.setMac p { (s.mac p) with txLpi := tx, rxLpi := rx })

/-- Transmit low-power idle ends: nothing is sent until TW_TX has passed (R127, R169). -/
def lpiExit (s : State) (p : Nat) : State :=
  if (s.mac p).txLpi then
    let s := setLpi s p false (s.mac p).rxLpi
    s.setMac p { (s.mac p) with txWait := s.time.ticks + 250 * s.rf .MAC_EEE_TW p 0 16 16 }
  else s

/-- A frame has reached the MAC of port `p` or B8: one that its drain has begun to read, or one of the control engine. -/
def txQueued (s : State) (p : Nat) : Bool :=
  !(s.mac p).ctlq.isEmpty || (s.mac p).tx.isSome || (s.mac p).txP.isSome ||
    s.car.copies.any (fun c => c.port == p && c.issued != 0 && decide (0 < c.read))

/-- The control, express and preemptable queues and B8 have held nothing for IDLE µs (R169). -/
def txLpiEntry (s : State) (p : Nat) : State :=
  if eeeActive s p && !(s.mac p).txLpi && !txQueued s p then setLpi s p true (s.mac p).rxLpi else s

/-- A frame reaches a port in low-power idle (R169). -/
def txLpiExit (s : State) (p : Nat) : State := if txQueued s p then lpiExit s p else s

/-- A dozing port is woken by a receive-class wake, and with it its lane and its slice's ingress (R119, R124, R128). -/
def dozeWake (s : State) (p : Nat) : State :=
  if s.hot.doze.contains p then
    let s := { s with hot := { s.hot with doze := s.hot.doze.filter (· != p) } }
    trigger (trigger (trigger s 1 p) 1 (128 + p / 4)) 1 (170 + p / 16)
  else s

/-- The transmit path of a port on which EEE is not active stays awake (R170). -/
def pathKept (s : State) (p : Nat) : State := if eeeActive s p then s else pathWake s p

/-- MAC_EEE_CFG is written (R170): a port on which EEE is then not active signals no low-power idle, and its transmit path is
awake. -/
def eeeWrite (s : State) (p : Nat) (w : Word) : State :=
  let s := s.wr .MAC_EEE_CFG p 0 w
  if eeeActive s p then s
  else
    let s := pathWake (dozeWake s p) p
    if (s.mac p).txLpi || (s.mac p).rxLpi then setLpi (lpiExit s p) p false false else s

/-- The partner enters or leaves low-power idle (R169): with its end a port leaves Doze (R124). -/
def rxLpiChange (s : State) (p : Nat) (lpi : Bool) : State :=
  if !eeeActive s p then s
  else
    let s := setLpi s p (s.mac p).txLpi lpi
    if lpi then s else dozeWake s p


/-- The lane state that carries port `p` is UP (R171). -/
def laneUp (s : State) (p : Nat) : Bool := (s.lane (portLane p)).st == .up

/-- A port's link comes up (R171): its lane is UP and auto-negotiation, if any, has completed with SPEED `sp`.  In a mode
with one rate the speed is the mode's. -/
def linkUpFx (s : State) (p sp : Nat) : State :=
  let m := laneMode s (portLane p)
  let full := modeSpeed m
  let speed := if (m = 2 ∨ m = 5 ∨ m = 8 ∨ m = 9) ∧ sp ≤ full then sp else full
  if p < 130 && portPresent s p && laneUp s p && enState s p == .enabled && !(s.mac p).link then
    let s := if (s.mac p).rf || (s.mac p).lf then s.emit (.signal p none) else s
    let s := s.setMac p { (s.mac p) with link := true, speed := speed, rf := false, lf := false }
    let s := s.setFlags .MAC_STATUS p 0 1
    let s := (List.range 16).foldl (fun s k => trigger s 2 (186 + k)) s
    let s := if 128 ≤ p then trigger s 2 232 else trigger (trigger s 2 p) 2 (170 + p / 16)
    refreshDormant (startVerify s p)
  else s

/-- The 64b/66b modes, which signal link faults (R155). -/
def faultMode (m : Nat) : Bool := 6 ≤ m && m ≤ 10


/-- MAC_STATE (R158, R171). -/
def macState (s : State) (p : Nat) : Word :=
  let m := s.mac p
  put 30 2 (match enState s p with
    | .disabled => 0
    | .enabled => 1
    | .disabling => 2) ||| bitw 29 m.enPend ||| bitw 28 m.link ||| put 24 4 m.speed ||| bitw 23 (mmActive s p) |||
    bitw 22 m.txLpi ||| bitw 21 m.rxLpi ||| bitw 20 m.rf ||| bitw 19 m.lf

/-- MAC_MM_STATUS. -/
def macMmStatus (s : State) (p : Nat) : Word :=
  bitw 3 (s.mac p).hold ||| put 0 3 (match (s.mac p).ver with
    | .disabled => 0
    | .initial => 1
    | .verifying => 2
    | .succeeded => 3
    | .failed => 4)

end Sys2Proof.Machine
end

