-- ==== Sys2Proof/Machine/Classify.lean ====
section
/-!
DEFINITION. Machine/Classify.lean: keys, stage lookups, resolution, the frame's disposition, the egress stage S5 and the Drip
(08_classification.md R183 to R198).
-/
namespace Sys2Proof.Machine

/-- The carry field as 128 bits (R183). -/
def Carry.bits (c : Carry) : Nat :=
  c.handle <<< 112 ||| b2n c.handleV <<< 111 ||| c.cls <<< 108 ||| c.vid <<< 96 ||| c.fid <<< 84 ||| b2n c.destKind <<< 83 |||
  c.dest <<< 69 ||| b2n c.destSet <<< 68 ||| c.mirror <<< 64 ||| b2n c.copy <<< 63 ||| c.copyCtx <<< 60 ||| c.verdict <<< 58 |||
  c.reason <<< 52 ||| b2n c.learn <<< 51 ||| c.req <<< 47 ||| c.hit <<< 42 ||| c.user

/-- ALT_TPID of a pipeline, when ALT_EN is 1 (R179). -/
def altTpid (s : State) (k : Nat) : Option Nat :=
  if tst (s.rw .CLS_CFG k) 16 then some (s.rf .CLS_CFG k 0 0 16) else none

/-- A field of a frame by FIELD code, with the carry as it stands (R182). -/
def fieldOf (p : Parsed) (inPort : Nat) (c : Carry) (eg : Nat × Nat) (code : Nat) : Nat :=
  if code = 0 then inPort else if code = 0x30 then eg.1 else if code = 0x31 then eg.2 else if code = 0x80 then c.bits
  else p.get code

/-- The key of a stage (R71): every selector's bits in their places, the others zero. -/
def stageKey (s : State) (st : Nat) (get : Nat → Nat) : Nat :=
  match s.roast.keys.find? (fun k => k.1 == st) with
  | none => 0
  | some k => k.2.2.foldl (fun a x => a ||| (nfld (get x.field) x.srcBit x.width) <<< x.keyBit) 0

/-- The counter block of a pipeline (R102, R398). -/
def pipeBlock (k : Nat) : Nat := if k < 8 then k else 16

/-- The place of a port in its pipeline's registers and sub-units. -/
def pipeSub (p : Nat) : Nat := if p < 128 then p % 16 else p - 128

/-- A lookup's hit or miss is counted for its pipeline (R199), and for its port as R402 gives. -/
def countStage (s : State) (k st port : Nat) (hit : Bool) : State :=
  occ (s.bump (if hit then .CLS_HIT else .CLS_MISS) k st) (pipeBlock k) ((if hit then 0x14 else 0x1A) + st) (pipeSub port)


/-- A lookup in region `r` is counted in the bank of its bucket (R402). -/
def countLookup (s : State) (r key : Nat) : State :=
  if regionSize s r = 0 then s else occ s 38 0x10 (bankOf (entryAddr s r ((bucketOf s r key).headD 0)))

/-- An exact stage's lookup by pipeline `k` (R184, R186). -/
def exactLookup (s : State) (k st r key port : Nat) : Option (List Word) × State :=
  let f := findKey s r key
  let s := countLookup (countStage (countParity s k r f.2) k st port f.1.isSome) r key
  (f.1.map (entryAt s r), s)

/-- The indices of the entries of a region that are not all zero, ascending. -/
def usedEntries (s : State) (r : Nat) : List Nat :=
  let a := entryAddr s r 0
  let n := entryWords r
  ((s.tbl.mem.filter (fun p => a ≤ p.1 && p.1 < a + regionSize s r * n)).map (fun p => (p.1 - a) / n)).dedup

/-- The number that words spell, the first word most significant. -/
def wNat (ws : List Word) : Nat := ws.foldl (fun a w => a * 2 ^ 32 + w.toNat) 0

/-- A ternary entry matches a key (R185); S5 compares 160 bits. -/
def ternMatch (st key : Nat) (e : List Word) : Bool :=
  let o := if st = 5 then 5 else 0
  let v := wNat ((e.drop o).take (10 - o))
  let m := wNat ((e.drop (10 + o)).take (10 - o))
  (key &&& m) == (v &&& m)

/-- A ternary stage's lookup by pipeline `k` (R185, R186, R189): the lowest matching valid entry wins and counts HITS; entries
with a parity error that would match before it are met and counted. -/
def ternLookup (s : State) (k st r key port : Nat) : Option (List Word) × State :=
  let c := (usedEntries s r).filter (fun i => isValid r (entryAt s r i) && ternMatch st key (entryAt s r i))
  let bads := c.takeWhile (fun i => !parOk r (entryAt s r i))
  -- a lookup is counted in the bank where its region begins (R402)
  let s := if regionSize s r = 0 then s else occ s 38 0x10 (bankOf (entryAddr s r 0))
  match c.find? (fun i => parOk r (entryAt s r i)) with
  | none => (none, countStage (countParity s k r bads) k st port false)
  | some i =>
    let e := entryAt s r i
    let s := countStage (countParity s k r bads) k st port true
    (some e, s.setTw (entryAddr s r i + 25) (e.getD 25 0 + 1))

/-- The VERDICT of an entry or a default: where its encoding is reserved, or `odd` says that another field of it is, what becomes of
the frames that use it is free (R82, R200; log entry 6). -/
def openVerdict (s : State) (v : Nat) (odd : Bool := false) : Nat := if v = 3 ∨ odd then s.free % 3 else v

/-- The free value of `openVerdict` has been used. -/
def verdictDrawn (s : State) (v : Nat) (odd : Bool := false) : State := if v = 3 ∨ odd then s.drawn else s

/-- set_verdict of R193: the first verdict other than pass stands. -/
def Carry.setVerdict (c : Carry) (v reason : Nat) : Carry :=
  if c.verdict = 0 ∧ v ≠ 0 then { c with verdict := v, reason := reason } else c

/-- A stage's HIT bit (R183). -/
def Carry.hitBit (c : Carry) (st : Nat) : Carry := { c with hit := c.hit ||| (1 <<< st) }

/-- The CLS_PCP_MAP class of a PCP. -/
def pcpClass (s : State) (k pcp : Nat) : Nat := s.rf .CLS_PCP_MAP k 0 (3 * pcp) 3

/-- Stage S0 and the ingress port's default result (R187, R193). -/
def stageS0 (s : State) (k port : Nat) (p : Parsed) : Carry × State :=
  let key := stageKey s 0 (fieldOf p port {} (0, 0))
  let r := exactLookup s k 0 4 key port
  let s := r.2
  let i := pipeSub port
  let e := match r.1 with
    | some e => e
    | none => [0, s.rw .CLS_S0_DEF_W1 k i, s.rw .CLS_S0_DEF_W2 k i, s.rw .CLS_S0_DEF_W3 k i]
  let w1 := e.getD 1 0
  let w2 := e.getD 2 0
  let c : Carry := {
    cls := fld w1 16 3, vid := fld w1 0 12, fid := fld w2 20 12, dest := fld w2 0 14, learn := tst w1 26,
    req := fld w1 19 4, user := (e.getD 3 0).toNat }
  let c := if tst w1 25 && p.tags > 0 then { c with cls := pcpClass s k (p.get 0x05 / 8192) } else c
  let c := if r.1.isSome then c.hitBit 0 else c
  -- V, G and PAR are reserved in the default alone
  let odd := fld w1 23 2 != 0 || fld w1 12 4 != 0 || fld w2 14 6 != 0 || (r.1.isNone && fld w1 29 3 != 0)
  (c.setVerdict (openVerdict s (fld w1 27 2) odd) (if r.1.isSome then 0x07 else 0x02), verdictDrawn s (fld w1 27 2) odd)

/-- A stage of S1, S2 and S3 that missed (R193): its REQ bit may trap; REQ holds S4, S3, S2, S1 from bit 3 down. -/
def Carry.missed (c : Carry) (st : Nat) : Carry := if c.req.testBit (st - 1) then c.setVerdict 2 (2 + st) else c

/-- Stage S1 (R291): HANDLE; its flags WIN_V, MET_V and AUD_V as a number, with 8 for an entry whose reserved field is not zero. -/
def stageS1 (s : State) (k port : Nat) (p : Parsed) (c : Carry) : Carry × Nat × State :=
  let r := exactLookup s k 1 8 (stageKey s 1 (fieldOf p port c (0, 0))) port
  match r.1 with
  | none => (c.missed 1, 0, r.2)
  | some e =>
    let w := e.getD 3 0
    ({ (c.hitBit 1) with handle := fld w 0 16, handleV := true }, fld w 26 3 + 8 * b2n (fld w 16 10 != 0), r.2)

/-- A reserved field that S2 and S5 entries share is not zero: word 20 below its flags, or words 26 to 63 (R189, R200). -/
def ternOdd (e : List Word) : Bool := fld (e.getD 20 0) 0 29 != 0 || (e.drop 26).any (· != 0)

/-- Stage S2 (R190, R193). -/
def stageS2 (s : State) (k port : Nat) (p : Parsed) (c : Carry) : Carry × State :=
  let r := ternLookup s k 2 2 (stageKey s 2 (fieldOf p port c (0, 0))) port
  match r.1 with
  | none => (c.missed 2, r.2)
  | some e =>
    let w := e.getD 21 0
    let um := (e.getD 24 0).toNat
    -- REASON counts only for a trap; one below 0x10 is reserved there (R190, R196)
    let v := fld w 30 2
    let odd := ternOdd e || fld w 0 9 != 0 || fld (e.getD 22 0) 14 18 != 0 || (v == 2 && decide (fld w 24 6 < 0x10))
    let c := (c.hitBit 2).setVerdict (openVerdict r.2 v odd) (if v = 2 then fld w 24 6 else 0)
    let c := if tst w 23 then { c with cls := fld w 20 3 } else c
    let c := if tst w 19 then { c with copy := true, copyCtx := fld w 16 3 } else c
    let c := { c with mirror := c.mirror ||| fld w 12 4 }
    let c := if tst w 10 then { c with destSet := true, destKind := tst w 9, dest := fld (e.getD 22 0) 0 14 } else c
    let c := { c with user := (c.user &&& (0xFFFFFFFF ^^^ um)) ||| ((e.getD 23 0).toNat &&& um) }
    (if tst w 11 then { c with learn := false } else c, verdictDrawn r.2 v odd)

/-- Stage S3 (R188, R193). -/
def stageS3 (s : State) (k port : Nat) (p : Parsed) (c : Carry) : Carry × State :=
  let r := exactLookup s k 3 5 (stageKey s 3 (fieldOf p port c (0, 0))) port
  match r.1 with
  | none => (c.missed 3, r.2)
  | some e =>
    let w := e.getD 3 0
    let c := (c.hitBit 3).setVerdict (openVerdict r.2 (fld w 27 2)) 0x08
    let c := if tst w 26 then { c with cls := fld w 23 3 } else c
    let c := if tst w 22 then { c with copy := true, copyCtx := fld w 19 3 } else c
    let c := { c with mirror := c.mirror ||| fld w 15 4 }
    (if tst w 14 then { c with destSet := true, destKind := false, dest := fld w 0 14 } else c, verdictDrawn r.2 (fld w 27 2))

/-- Stage S4 (R193, R207): the destination lookup of every frame; with DEST_SET its result changes nothing but the HIT bit. -/
def stageS4 (s : State) (k port : Nat) (p : Parsed) (c : Carry) : Carry × State :=
  let r := fdbLookup s c.fid (p.get 0x01)
  let s := countLookup (countStage r.2 k 4 port r.1.isSome) 0 (fdbKey c.fid (p.get 0x01))
  match r.1 with
  | some (kind, d) => (if c.destSet then c.hitBit 4 else { (c.hitBit 4) with destKind := kind, dest := d }, s)
  | none => (if c.destSet then c else c.missed 4, s)

/-- What resolution gives (R193): the carry, the S1 flags, the learn request, and the state with lookups counted. -/
structure Resolved where
  carry : Carry
  s1 : Nat := 0
  learn : Option LearnReq := none
deriving DecidableEq, Repr

/-- The ingress pipeline decides for a frame (R193): pipeline `k`, ingress port, original reference. -/
def resolve (s : State) (k port ref : Nat) (p : Parsed) : Resolved × State :=
  let s := occ (s.bump .CLS_LOOKUPS k) (pipeBlock k) 0x10 (pipeSub port)
  let s := if p.depth then s.bump .CLS_DEPTH k else s
  let r := stageS0 s k port p
  let c := r.1
  let s := r.2
  if p.code ≠ 0 then
    ({ carry := { c with verdict := 2, reason := 0x01, learn := false } },
     occ ((s.bump .CLS_PARSE_FAIL k).setFlags .CLS_STATUS k 0 1) (pipeBlock k) 0x20 (pipeSub port))
  else
    let r1 := stageS1 s k port p c
    let r2 := stageS2 r1.2.2 k port p r1.1
    let r3 := stageS3 r2.2 k port p r2.1
    let r4 := stageS4 r3.2 k port p r3.1
    let c := r4.1
    let s := r4.2
    let q := if c.learn then fdbSource s c.fid (p.get 0x02) ref else (none, s)
    let pass := c.verdict == 0
    ({ carry := if pass then c else { c with learn := false }, s1 := r1.2.1, learn := if pass then q.1 else none }, q.2)

/-- The ports of DEST (R192, R194): a port mask or the port a reference names.  A reserved reference, an index beyond the
port-mask region, and an entry with a reserved field that is not zero leave open which ports they are (R200). -/
def destPorts (s : State) (k : Nat) (c : Carry) : List Nat × State :=
  if (if c.destKind then 1024 ≤ c.dest ∨ 134 ≤ c.dest % 256 else regionSize s 1 ≤ c.dest) then
    (maskPorts s (s.free % 2 ^ 134), s.drawn)
  else if c.destKind then ((refPort s c.dest).toList, s)
  else
    let e := entryAt s 1 c.dest
    if !parOk 1 e then ([], countParity s k 1 [c.dest])
    else if tst (e.getD 0 0) 31 ∨ fld (e.getD 0 0) 8 21 ≠ 0 ∨ (e.drop 5).any (· != 0) then
      (maskPorts s (s.free % 2 ^ 134), s.drawn)
    else
      let m := (e.getD 0 0).toNat % 256 * 2 ^ 128 + wNat ((e.drop 1).take 4)
      (maskPorts s m, if m < 2 ^ 134 then s else s.drawn)

/-- The board-set reference that DEST names (R192); none for a port mask and a reserved reference. -/
def destRef (c : Carry) : Option Nat :=
  if c.destKind && decide (c.dest < 1024) && decide (c.dest % 256 < 134) then some c.dest else none

/-- The copies of mirror session `m` (R195): none where EN is 0 or its port is absent.  With a TRUNC out of range or a reserved DEST
they are free (R200): none, or copies at any ports, cut anywhere. -/
def mirrorCopies (s : State) (m : Nat) : List CCopy × State :=
  let w := s.rw .MIR_CFG m
  let t := fld w 0 14
  let one (trunc p : Nat) : CCopy :=
    { id := 0, frame := 0, port := p, queue := classQueue p (fld w 28 3), kind := .mirror m trunc, store := trunc != 0 }
  if !tst w 31 then ([], s)
  else if (1 ≤ t ∧ t < 64) ∨ 10240 < t ∨ 134 ≤ fld w 16 8 then
    let n := s.free
    (if n % 3 = 0 then [] else if n % 3 = 1 then (refPort s (fld w 16 10)).toList.map (one (n / 3 % 10241))
      else (maskPorts s (n / 3 / 10241 % 2 ^ 134)).map (one (n / 3 % 10241)), s.drawn)
  else ((refPort s (fld w 16 10)).toList.map (fun p => { one t p with toRef := some (fld w 16 10) }), s)

/-- The copies that a passed frame asks for (R194, R195): forwarding copies less the ingress port, mirror copies, and a host
copy.  A frame from a stitch link loses the stitch ports of a port mask (R433), and one whose reference leads to a stitch link is
discarded (R225).  A copy for a context that is not valid is free (R200). -/
def passPlan (s : State) (k port : Nat) (c : Carry) : List CCopy × State :=
  let r := destPorts s k c
  let s := r.2
  let st (p : Nat) : Bool := 130 ≤ p && p < 133
  if st port && c.destKind && r.1.any st then ([], s.bump .FDB_STITCH_LOOP) else
  let ps := (if st port then r.1.filter (fun p => !st p) else r.1).filter (· != port)
  let s := if ps = [] then s.bump .CLS_NO_DEST k else s
  let fwd := ps.map (fun p => ({ id := 0, frame := 0, port := p, queue := classQueue p c.cls, toRef := destRef c } : CCopy))
  let mir := (onesOf 4 c.mirror).foldl (fun (a : List CCopy × State) m => let r := mirrorCopies a.2 m; (a.1 ++ r.1, r.2)) ([], s)
  let s := mir.2
  let bad := c.copy && !ctxValid s c.copyCtx
  let host := if c.copy && (!bad || s.free % 2 == 1) then
      [({ id := 0, frame := 0, port := 128 + (if bad then s.free / 2 % 2 else ctxLane s c.copyCtx), queue := 8 + c.cls,
          kind := .host c.copyCtx } : CCopy)]
    else []
  (fwd ++ mir.1 ++ host, if bad then s.drawn else s)

/-! ## S5 (R191) -/

/-- The ALT_TPID with which a frame's headers are read: that of its ingress pipeline when it was looked up (R191). -/
def frameAlt (s : State) (f : CFrame) : Option Nat := if f.looked && f.src < 133 then f.alt else altTpid s (pipeOf f.src)

/-- CLASS as it left S4 (R191); that of its own carry for a frame that no ingress pipeline has looked up (log entry 101). -/
def CFrame.s4Class (f : CFrame) : Nat := if f.src < 133 then f.s4cls else f.carry.cls

/-- S5 for one copy: its result word, zero on a miss.  The key's other fields are those the frame had at ingress, and CARRY is the
carry as it left S4.  A reserved field of the entry that is not zero leaves the edit free (R200). -/
def stageS5 (s : State) (f : CFrame) (port queue : Nat) : Word × State :=
  let k := pipeOf port
  let p := parse (frameAlt s f) f.bytes f.ended
  let r := ternLookup s k 5 3 (stageKey s 5 (fieldOf p (f.via.getD f.src) { f.carry with cls := f.s4Class } (port, queue))) port
  match r.1 with
  | some e =>
    let w := e.getD 21 0
    if fld w 23 8 ≠ 0 ∨ fld w 12 5 ≠ 0 ∨ ternOdd e ∨ (e.take 5 ++ (e.drop 10).take 5 ++ (e.drop 22).take 3).any (· != 0) then (Config.freeW r.2.freeCtr, r.2.drawn) else (w, r.2)
  | none => (0, r.2)

/-- The S5 tag edit on a frame without its FCS (R191); `alt` is the third TPID that marks a tag. -/
def s5Edit (alt : Option Nat) (w : Word) (cls : Nat) (b : Bytes) : Bytes :=
  let tagged := isTpid alt (beAt b 12 2)
  let pcp := if tst w 20 then fld w 17 3 else cls
  let push := b.take 12 ++ beBytes 2 0x8100 ++ beBytes 2 (pcp * 8192 + fld w 0 12) ++ b.drop 12
  match fld w 21 2 with
  | 1 => if tagged then let c := b.take 12 ++ b.drop 16; c ++ List.replicate (60 - c.length) 0 else b
  | 2 => push
  | 3 =>
    if tagged then
      let tci := beAt b 14 2
      let p := if tst w 20 then fld w 17 3 else tci / 8192
      b.take 14 ++ beBytes 2 (p * 8192 + tci / 4096 % 2 * 4096 + fld w 0 12) ++ b.drop 16
    else push
  | _ => b

/-! ## The Drip (R197, R198) -/

/-- DRIP_RATE_c or DRIP_BURST_c is out of range: what becomes of the context's traps is free (R200). -/
def dripErr (s : State) (c : Nat) : Bool :=
  decide (1000000 < s.rf .DRIP_RATE c 0 0 21) || s.rf .DRIP_BURST c 0 0 13 == 0 || decide (4096 < s.rf .DRIP_BURST c 0 0 13)

/-- The context of a trap reason (DRIP_TGT). -/
def dripCtx (s : State) (reason : Nat) : Nat := s.rf .DRIP_TGT (reason / 8) 0 (4 * (reason % 8)) 3

/-- The Drip bucket of a context, up to date. -/
def dripBucket (s : State) (c : Nat) : Bucket :=
  let b := mget {} s.drip c
  let r := accrue (s.within 0 1000000 (s.rf .DRIP_RATE c 0 0 21)) b.frac (s.time.ticks - b.tick)
  let cap := s.within 1 4096 (s.rf .DRIP_BURST c 0 0 13)
  if b.tok + r.1 ≥ cap then { tick := s.time.ticks, frac := 0, tok := min cap (b.tok + r.1) }
  else { tick := s.time.ticks, frac := r.2, tok := b.tok + r.1 }

/-- A trap is refused for context `c`. -/
def dripDrop (s : State) (c : Nat) : State := (s.bump .DRIP_DROPPED c).setFlags .DRIP_STATUS 0 0 (1 <<< c)

/-- The Drip decides for a trapped frame (R197): the part of the frame it keeps, if any. -/
def dripTrap (s : State) (f : CFrame) (parseCode : Nat) (reason : Nat) : Option DripSt × State :=
  let c := dripCtx s reason
  if !ctxValid s c || !linkUp s (128 + ctxLane s c) then (none, dripDrop s c)
  else
    let b := dripBucket s c
    let wild := dripErr s c
    let go := if wild then s.free % 2 == 1 else decide (1 ≤ b.tok)
    let s := if wild then s.drawn else s
    if !go then (none, dripDrop { s with drip := mput {} s.drip c b } c)
    else
      let s := { s with drip := mput {} s.drip c { b with tok := b.tok - 1 } }
      let len := if f.ended then f.bytes.length else min (macMaxLen s f.src) (s.within 64 10240 (s.rf .LBM_DRIP_CAP 0 0 0 14))
      let r := lbmTake s 4 (len + 12)
      match r.1 with
      | some k => (some { ctx := c, reason := reason, parse := if reason = 1 then parseCode else 0, pool := k }, r.2)
      | none => (none, (r.2.bump .DRIP_NOBUF).setFlags .DRIP_STATUS 0 0 (1 <<< (8 + c)))

/-- A write of DRIP_BURST_c (R198): a fuller bucket is reduced. -/
def dripBurst (s : State) (c : Nat) (w : Word) : State :=
  let b := dripBucket s c
  let s := s.wr .DRIP_BURST c 0 w
  { s with drip := mput {} s.drip c { b with tok := min b.tok (fld w 0 13) } }

/-- A write of DRIP_RATE_c: the tokens gained so far stand. -/
def dripRate (s : State) (c : Nat) (w : Word) : State :=
  let b := dripBucket s c
  { s with drip := mput {} s.drip c b }.wr .DRIP_RATE c 0 w

/-- Image application fills every bucket (R198). -/
def dripFill (s : State) : State :=
  { s with drip := (List.range 8).foldl (fun m c => mput {} m c { tick := s.time.ticks, tok := s.rf .DRIP_BURST c 0 0 13 }) [] }

end Sys2Proof.Machine
end

