-- ==== Sys2Proof/Machine/Redund.lean ====
section
/-!
DEFINITION. Machine/Redund.lean: the stream unit: receive windows and policers (11_scheduling.md R275 to R281), redundancy
pairs, tags, duplicate decisions, sweeps and the stream audit (12_redundancy_audit.md R284 to R304).
-/
namespace Sys2Proof.Machine

/-! ## Stream records and their windows and policers -/

/-- An entry of a stream region with a parity error was met (R292, R298). -/
def redParity (s : State) : State := occ ((s.bump .RED_PARITY).setFlags .RED_STATUS 0 0 16) 19 0x07 0

/-- A window or policer entry with a parity error was met (R275). -/
def polParity (s : State) : State := occ ((s.bump .POL_PARITY).setFlags .POL_STATUS 0 0 1) 19 0x07 0

/-- The stream record of a handle: `none` for V = 0, a parity error (counted) or a handle beyond the region (R292). -/
def streamRec (s : State) (h : Nat) : Option (List Word) × State :=
  if h ≥ regionSize s 9 then (none, s) else
  let e := entryAt s 9 h
  if !parOk 9 e then (none, redParity s)
  else (if isValid 9 e then some e else none, s)

/-- An entry of a window or policer region that applies: `none` where absent, invalid or with a parity error (R275). -/
def polEntry (s : State) (r i : Nat) : Option (List Word) × State :=
  if i ≥ regionSize s r then (none, s) else
  let e := entryAt s r i
  if !parOk r e then (none, polParity s) else (if isValid r e then some e else none, s)

/-- The first nominal arrival of a window at or after `a` ns, OFFSET taken off (R277). -/
def nominalFrom (per : Nat) (a : Int) : Int :=
  let sec := a / 1000000000
  let r := (a % 1000000000).toNat
  let i := ceilDiv (r * per) 1000000000
  sec * 1000000000 + ((i * 1000000000 / per : Nat) : Int)

/-- The last nominal arrival at or before `a` ns. -/
def nominalTo (per : Nat) (a : Int) : Int :=
  let sec := a / 1000000000
  let r := (a % 1000000000).toNat
  let i := ceilDiv ((r + 1) * per) 1000000000 - 1
  sec * 1000000000 + ((i * 1000000000 / per : Nat) : Int)

/-- The signed distance from the nearest nominal arrival, 32 bits, saturating (R276). -/
def windowDev (per : Nat) (u : Int) : Int :=
  let b := u - nominalTo per u
  let a := u - nominalFrom per u
  let d := if b ≤ -a then b else a
  max (-2147483648) (min 2147483647 d)

/-- A frame with ingress time `t`, in 2^-16 ns, is inside a window entry by its MODE (R277, R280). -/
def windowInside (e : List Word) (t : Nat) : Bool :=
  let w := e.getD 0 0
  let per := fld w 0 17
  let o : Int := (e.getD 1 0).toNat
  match fld w 27 2 with
  | 0 => true
  | 1 => decide (nominalFrom per ((ceilDiv t 65536 : Int) - o - (e.getD 3 0).toNat) ≤ (t / 65536 : Int) - o + (e.getD 2 0).toNat)
  | _ => false

/-- What the window and the policer decide for a frame: `true` to discard it; its class and marks. -/
structure PolOut where
  drop : Bool := false
  cls : Nat
  oow : Bool := false
  exceeded : Bool := false
  meter : Option (Nat × Nat) := none
deriving DecidableEq, Repr

/-- The receive window (R280), for a frame with ingress time `t` in 2^-16 ns; LAST_DEV counts whole ns, rounded down. -/
def windowStep (s : State) (x cls t : Nat) : PolOut × State :=
  let q := polEntry s 10 x
  match q.1 with
  | none => ({ cls := cls }, q.2)
  | some e =>
    let s := q.2
    if !tst (s.rw .POL_CFG) 31 then ({ cls := cls }, s) else
    let w := e.getD 0 0
    if windowInside e t && !tst w 23 then ({ cls := cls }, putEntry s 10 x (setAt e 4 (e.getD 4 0 + 1)))
    else
      let dev := windowDev (fld w 0 17) ((t / 65536 : Int) - (e.getD 1 0).toNat)
      let latch := tst w 24 && !tst w 23
      let e := setAt (setAt e 5 (e.getD 5 0 + 1)) 6 (wOfInt dev)
      let e := if latch then setBit e (0, 23) true else e
      let s := occ ((putEntry s 10 x e).bump .POL_WIN_OUT) 19 0x14 0
      let s := if latch then (s.wr .POL_LAST_LATCH 0 0 (wd x)).setFlags .POL_STATUS 0 0 2 else s
      match fld w 25 2 with
      | 1 => ({ cls := cls, drop := true }, s.bump .POL_WIN_DROPS)
      | 2 => ({ cls := fld w 20 3, oow := true }, s)
      | _ => ({ cls := cls }, s)

/-- The policer (R279, R280): `known` is the frame's length where it is known at lookup. -/
def meterStep (s : State) (x : Nat) (o : PolOut) (known : Option Nat) : PolOut × State :=
  let q := polEntry s 7 x
  match q.1 with
  | none => (o, q.2)
  | some _ =>
    let s := q.2
    if !tst (s.rw .POL_CFG) 30 then (o, s) else
    let s := meterSync s x
    let e := entryAt s 7 x
    let w := e.getD 0 0
    let bytes := tst w 28
    let cost : Nat := if bytes then known.getD (fld w 0 14) else 1
    let tok := sgn 32 (e.getD 3 0).toNat
    if tok ≥ (cost : Int) then
      ({ o with meter := if bytes && known.isNone then some (x, fld w 0 14) else none },
       putEntry s 7 x (setAt (setAt e 3 (wOfInt (tok - cost))) 4 (e.getD 4 0 + 1)))
    else
      let s := occ ((putEntry s 7 x (setAt e 5 (e.getD 5 0 + 1))).bump .POL_METER_EXCEEDED) 19 0x15 0
      match fld w 26 2 with
      | 1 => ({ o with drop := true }, s.bump .POL_METER_DROPS)
      | 2 => ({ o with cls := fld w 23 3, exceeded := true }, s)
      | _ => (o, s)

/-- A frame charged NOM_LEN at its lookup, `nom`, is charged the rest at a good verdict (R54, R279). -/
def meterRest (s : State) (x nom len : Nat) : State :=
  let s := meterSync s x
  let e := entryAt s 7 x
  if len ≤ nom then s
  else putEntry s 7 x (setAt e 3 (wOfInt (max (-2147483648) (sgn 32 (e.getD 3 0).toNat - ((len - nom : Nat) : Int)))))

/-! ## Redundancy pairs (R285) -/

/-- The reference lies on the elimination side of pair `n`: its interlink, or a pair port of the pair it names (R285). -/
def onElimSide (s : State) (n ref : Nat) : Bool :=
  let w := s.rw .RED_PAIR_CFG n
  if tst w 24 then
    match pairOf s ref with
    | some (m, _) => m == fld w 0 4 && m != n
    | none => false
  else fld w 0 10 == ref

/-! ## Node entries and stream records under one view (R292, R293) -/

/-- What a duplicate decision reads and keeps of its entry. -/
structure Ent where
  region : Nat
  index : Nat
  seq : Nat
  hist : Nat
  takeAny : Bool
  act : Bool
  diff : Int
  paths : Nat
deriving DecidableEq, Repr

/-- The view of entry `i` of region 0x0C (node) or 0x09 (stream record). -/
def entOf (s : State) (r i : Nat) : Ent :=
  let e := entryAt s r i
  let w (k : Nat) : Word := e.getD k 0
  if r = 12 then
    ⟨12, i, fld (w 2) 16 16, (w 3).toNat * 2 ^ 32 + (w 4).toNat, tst (w 0) 24, tst (w 0) 23, sgn 16 (fld (w 7) 0 16), 2⟩
  else
    ⟨9, i, fld (w 0) 0 16, (w 2).toNat * 2 ^ 32 + (w 3).toNat, tst (w 0) 26, tst (w 0) 25, sgn 16 (fld (w 1) 0 16),
     if fld (w 1) 30 2 = 0 then 1 else fld (w 1) 30 2 + 1⟩

/-- A signed count that saturates at ±32,767. -/
def sat16 (v : Int) : Nat := unsgn 16 (max (-32767) (min 32767 v))

/-- The entry takes what the decision keeps; a node entry's AGE returns to 0 (R298). -/
def putEnt (s : State) (x : Ent) : State :=
  let e := entryAt s x.region x.index
  let w (k : Nat) : Word := e.getD k 0
  if x.region = 12 then
    let w0 := setFld (setFld (setFld (w 0) 24 1 (b2n x.takeAny)) 23 1 (b2n x.act)) 21 2 0
    putEntry s 12 x.index [w0, w 1, setFld (w 2) 16 16 x.seq, wd (x.hist / 2 ^ 32), wd x.hist, w 5, w 6,
      setFld (w 7) 0 16 (sat16 x.diff)]
  else
    let w0 := setFld (setFld (setFld (w 0) 26 1 (b2n x.takeAny)) 25 1 (b2n x.act)) 0 16 x.seq
    putEntry s 9 x.index [w0, setFld (w 1) 0 16 (sat16 x.diff), wd (x.hist / 2 ^ 32), wd x.hist]

/-- The node entry of an address (R293): entries with a parity error are absent and counted. -/
def nodeFind (s : State) (mac : Nat) : Option Nat × State :=
  let f := findKey s 12 mac
  (f.1, f.2.foldl (fun s _ => redParity s) s)

/-- The entry of an address has a parity error: it decides nothing, and no second one is created (R293, R295). -/
def nodeBad (s : State) (mac : Nat) : Bool :=
  let f := findKey s 12 mac
  f.1.isNone && f.2.any (fun i => let e := entryAt s 12 i; isValid 12 e && entryKey 12 e % keyMask s 12 == mac % keyMask s 12)

/-- A node entry is created (R293): PROXY on the elimination side; NODE_FULL where the bucket is full. -/
def nodeCreate (s : State) (mac pair : Nat) (proxy : Bool) : Option Nat × State :=
  if regionSize s 12 = 0 then (none, s.setFlags .RED_STATUS 0 0 2) else
  match freePlace s 12 mac with
  | none => (none, s.setFlags .RED_STATUS 0 0 2)
  | some i =>
    (some i, putEntry s 12 i [bitw 31 true ||| bitw 27 proxy ||| bitw 24 true ||| put 16 4 pair ||| put 0 16 (mac / 2 ^ 32), wd mac,
      0, 0, 0, 0, 0, 0])

/-- CNT_A or CNT_B, and DAN_A or DAN_B, of a node that a decision meets; its AGE returns to 0 (R293, R295, R298). -/
def nodeSeen (s : State) (i : Nat) (sideB : Bool) : State :=
  let e := entryAt s 12 i
  let k := if sideB then 6 else 5
  putEntry s 12 i (setAt (setAt e k (e.getD k 0 + 1)) 0 (setFld (setFld (e.getD 0 0) (if sideB then 25 else 26) 1 1) 21 2 0))

/-! ## The duplicate decision (R294, R295) -/

/-- What the decision answers. -/
inductive Dec where
  | undecided
  | accept (ooo : Bool)
  | noRecord
  | duplicate
  | hold (port : Nat)
  | rogue
deriving DecidableEq, Repr

/-- The provisional record of the same entry and sequence, with its receiving port (R296). -/
def provFor (s : State) (r i seq : Nat) : Option (Nat × Prov) :=
  s.red.prov.find? (fun p => p.2.region == r && p.2.index == i && p.2.seq == seq)

/-- The accepted frame's entry (R295). -/
def Ent.take (x : Ent) : Ent := { x with act := true, diff := x.diff + (x.paths : Int) - 1 }

/-- A frame is accepted, or found a duplicate (R295, R402). -/
def countAccept (s : State) : State := occ (s.bump .RED_ACCEPTED) 19 0x11 0

/-- The same for a duplicate. -/
def countDup (s : State) : State := occ (s.bump .RED_DUPLICATES) 19 0x12 0

/-- The decision against an entry for sequence `q`; `known` tells that this frame's verdict is known (R295). -/
def decideDup (s : State) (r i q : Nat) (known : Bool) : Dec × State :=
  let s := occ s 19 0x10 0
  let x := entOf s r i
  let d := sgn 16 (q + 65536 - x.seq)
  if x.takeAny then (.accept false, countAccept (putEnt s { x.take with seq := q, hist := 1, takeAny := false }))
  else if 0 < d ∧ d < 64 then
    (.accept false, countAccept (putEnt s { x.take with seq := q, hist := (x.hist <<< d.toNat ||| 1) % 2 ^ 64 }))
  else if -64 < d ∧ d ≤ 0 then
    let b := (-d).toNat
    if x.hist.testBit b then
      match provFor s r i q with
      | some p =>
        if p.2.held.isNone && !known then (.hold p.1, s)
        else (.duplicate, countDup (putEnt s { x with diff := x.diff - 1 }))
      | none => (.duplicate, countDup (putEnt s { x with diff := x.diff - 1 }))
    else
      (.accept true, countAccept ((putEnt s { x.take with hist := x.hist ||| (1 <<< b) }).bump .RED_OUT_OF_ORDER))
  else if r = 12 then (.accept false, countAccept (putEnt s { x.take with seq := q, hist := 1 }))
  else (.rogue, (s.bump .RED_ROGUE).setFlags .RED_STATUS 0 0 4)

/-- The decision of a tagged frame from a pair port against its source's node entry, which it creates (R293, R295). -/
def decideNode (s : State) (mac pair : Nat) (sideB : Bool) (q : Nat) (known : Bool) : Dec × Option Nat × State :=
  if !tst (s.rw .RED_CFG) 31 then (.undecided, none, s) else
  let f := nodeFind s mac
  let g := match f.1 with
    | some i => (some i, f.2)
    | none => if nodeBad s mac then (none, f.2) else nodeCreate f.2 mac pair false
  match g.1 with
  | none => (.noRecord, none, g.2.bump .RED_NO_NODE)
  | some i =>
    let r := decideDup (nodeSeen g.2 i sideB) 12 i q known
    (r.1, some i, r.2)

/-- The valid stream identification entries, as their flags and HANDLE (R291). -/
def s1Uses (s : State) : List (Nat × Nat) :=
  ((usedEntries s 8).map (fun i => entryAt s 8 i)).filterMap (fun e =>
    if isValid 8 e && parOk 8 e then some (fld (e.getD 3 0) 26 3, fld (e.getD 3 0) 0 16) else none)

/-- Two streams share record `h`, or audit entry `x` (R304). -/
def recShared (s : State) (h : Nat) : Bool := decide (2 ≤ ((s1Uses s).filter (fun u => u.2 == h)).length)
def audShared (s : State) (x : Nat) : Bool :=
  decide (2 ≤ ((s1Uses s).filter (fun u => u.1.testBit 0 && decide (u.2 < regionSize s 9) && isValid 9 (entryAt s 9 u.2) &&
    fld ((entryAt s 9 u.2).getD 1 0) 16 14 == x)).length)

/-- The decision of an FRER frame against its stream record; it is free for a record that two streams share (R304). -/
def decideRec (s : State) (h q : Nat) (known : Bool) : Dec × State :=
  if !tst (s.rw .RED_CFG) 31 then (.undecided, s)
  else if !recShared s h then decideDup s 9 h q known
  else
    match s.free % 4 with
    | 0 => decideDup s.drawn 9 h q known
    | 1 => (.noRecord, s.drawn)
    | 2 => (.duplicate, countDup s.drawn)
    | _ => (.rogue, (s.drawn.bump .RED_ROGUE).setFlags .RED_STATUS 0 0 4)

/-- A provisional record of receiving port `p` (R296). -/
def setProv (s : State) (p : Nat) (x : Prov) : State := { s with red := { s.red with prov := mins s.red.prov p x } }

/-- Receiving port `p` has no provisional record. -/
def delProv (s : State) (p : Nat) : State := { s with red := { s.red with prov := mdel s.red.prov p } }

/-! ## RCT (R288) -/

/-- The offset after the source address and the VLAN tags. -/
def afterTags (alt : Option Nat) (b : Bytes) : Nat :=
  if isTpid alt (beAt b 12 2) then (if isTpid alt (beAt b 16 2) then 20 else 16) else 12

/-- A frame without its FCS ends in an RCT: LanId and sequence (R288). -/
def rctOf (alt : Option Nat) (b : Bytes) : Option (Nat × Nat) :=
  let n := b.length
  if n < 20 then none else
  let lan := beAt b (n - 4) 1 / 16
  if beAt b (n - 2) 2 = 0x88FB ∧ (lan = 0xA ∨ lan = 0xB) ∧ beAt b (n - 4) 2 % 4096 = n - afterTags alt b then
    some (lan, beAt b (n - 6) 2)
  else none


/-- A frame without its FCS. -/
def CFrame.body (f : CFrame) : Bytes := if f.ended then f.bytes.take (f.bytes.length - 4) else f.bytes

/-! ## What becomes of a frame's copies (R286, R287, R289) -/

/-- The sequence for the tags or trailers of pair `n` (R289): that of the source's proxy entry, which is created here for the first
frame of a source on the elimination side (R293) when `side` holds; else the pair's own.  The second part tells an entry's. -/
def pairSeq (s : State) (n mac : Nat) (side : Bool) : Nat × Bool × State :=
  let f := nodeFind s mac
  let g := match f.1 with
    | some i => (some i, f.2)
    | none => if side && !nodeBad s mac then nodeCreate f.2 mac n true else (none, f.2)
  let own (s : State) : Nat × Bool × State :=
    (s.rf .RED_PAIR_SEQ n 0 0 16, false, s.wr .RED_PAIR_SEQ n 0 (put 0 16 (s.rf .RED_PAIR_SEQ n 0 0 16 + 1)))
  match g.1 with
  | none => own g.2
  | some i =>
    let e := entryAt g.2 12 i
    if !tst (e.getD 0 0) 27 then own g.2 else
    let w2 := e.getD 2 0
    (fld w2 0 16, true, putEntry g.2 12 i (setAt (setAt e 0 (setFld (e.getD 0 0) 21 2 0)) 2 (setFld w2 0 16 (fld w2 0 16 + 1))))

/-- A stitch port: its copies are delivered by another device. -/
def stitchPort (p : Nat) : Bool := decide (130 ≤ p) && decide (p < 133)

/-- The board-set reference of a copy's destination: the one that names it, or its port's. -/
def copyRef (s : State) (c : CCopy) : Nat := c.toRef.getD (portRef s c.port)

/-- The pair, and its side, of which a forwarding or mirror copy's destination is a pair port (R286). -/
def copyPair (s : State) (c : CCopy) : Option (Nat × Bool) :=
  match c.kind with
  | .fwd | .mirror _ _ => pairOf s (copyRef s c)
  | _ => none

/-- The pair, and its side, whose pair port a copy goes to, of a frame that did not enter through that pair (R287, R289). -/
def outPair (s : State) (ref : Nat) (c : CCopy) : Option (Nat × Bool) :=
  (copyPair s c).filter (fun x => (pairOf s ref).all (fun y => y.1 != x.1))

/-- A copy to the pair port of pair `n` on its side A or B gets the pair's trailer or tag with sequence `q` (R289); one with an HSR
tag is stored whole (R290).  The device of the pair port edits it: a copy to another device takes the sequence with it (R433). -/
def tagCopy (s : State) (n q : Nat) (sideB tagged : Bool) (c : CCopy) : CCopy :=
  if stitchPort c.port then c
  else if pairMode s n = 0 then { c with red := { c.red with rctAdd := some (q, if sideB then 0xB else 0xA) } }
  else if tagged then c
  else { c with store := true, red := { c.red with hsrAdd := some (q, 2 * s.rf .RED_PAIR_CFG n 0 26 3 + b2n sideB) } }

/-- The copies to the pair ports of pair `n` get its trailer or tag (R289). -/
def tagCopies (s : State) (ref n q : Nat) (tagged : Bool) (cs : List CCopy) : List CCopy :=
  cs.map (fun c =>
    match outPair s ref c with
    | some (m, b) => if m ≠ n then c else tagCopy s n q b tagged c
    | none => c)

/-- A frame on its way to pair ports: its copies, the pair and the sequence that a stitch header brings or takes on (R433), the
sequence that its source's entry gave, and the state. -/
structure Outbound where
  cs : List CCopy
  seq : Option (Nat × Nat)
  ent : Option Nat := none
  st : State
deriving DecidableEq, Repr

/-- The copies to the pair ports of pair `n` take one sequence (R287, R289): the carried one, the source's, or the pair's own. -/
def outboundPair (ref mac : Nat) (tagged : Bool) (o : Outbound) (n : Nat) : Outbound :=
  match o.seq.filter (fun x => x.1 == n), o.ent with
  | some x, _ => { o with cs := tagCopies o.st ref n x.2 tagged o.cs }
  | none, some q => { o with cs := tagCopies o.st ref n q tagged o.cs }
  | none, none =>
    let r := pairSeq o.st n mac (onElimSide o.st n ref)
    { cs := tagCopies r.2.2 ref n r.1 tagged o.cs, seq := o.seq.orElse (fun _ => some (n, r.1))
      ent := if r.2.1 then some r.1 else none, st := r.2.2 }

/-- A frame that goes to pair ports gets the trailer or tag of each pair (R287, R289); a frame with an HSR tag gets no other. -/
def outbound (s : State) (ref mac : Nat) (tagged : Bool) (carried : Option (Nat × Nat)) (cs : List CCopy) :
    List CCopy × Option (Nat × Nat) × State :=
  let ns := ((cs.filterMap (outPair s ref)).map (·.1)).dedup.filter (fun n => !tagged || pairMode s n == 0)
  let o := ns.foldl (outboundPair ref mac tagged) { cs := cs, seq := carried, st := s }
  (o.cs, o.seq, o.st)

/-- A copy that this device delivers lies on the elimination side of pair `n`: a host copy, or a copy to it (R285, R286, R297). -/
def elimCopy (s : State) (n : Nat) (c : CCopy) : Bool :=
  match c.kind with
  | .host _ => true
  | .fwd | .mirror _ _ => !stitchPort c.port && onElimSide s n (copyRef s c)
  | _ => false

/-- A copy to the pair port of pair `n` other than the one, on side B or A, that the frame came in by (R286). -/
def otherPort (s : State) (n : Nat) (sideB : Bool) (c : CCopy) : Bool :=
  match copyPair s c with
  | some (m, b) => m == n && b != sideB
  | none => false

/-- The copies of a frame received on a PRP pair port (R286). -/
def prpCopies (s : State) (n : Nat) (sideB : Bool) (cs : List CCopy) : List CCopy × State :=
  let cross := cs.filter (otherPort s n sideB)
  ((cs.filter (fun c => !otherPort s n sideB c)).map (fun c =>
      if elimCopy s n c then { c with elim := true, store := true, red := { c.red with rctDel := true } } else c),
   cross.foldl (fun s _ => s.bump .RED_CROSS_LAN) s)

/-- The copies of a frame with an HSR tag received on a ring port (R286): modes H and N. -/
def hsrCopies (s : State) (n : Nat) (sideB : Bool) (fid da sa : Nat) (cs : List CCopy) : List CCopy × State :=
  let proxy := match (nodeFind s sa).1 with
    | some i => tst ((entryAt s 12 i).getD 0 0) 27 && fld ((entryAt s 12 i).getD 0 0) 16 4 == n
    | none => false
  let mine := !nbit da 40 && (match (findKey s 0 (fdbKey fid da)).1 with
    | some i => fdbKind (entryAt s 0 i) && onElimSide s n (fdbDest (entryAt s 0 i) % 1024)
    | none => false)
  let ring := cs.filter (otherPort s n sideB)
  let drop := pairMode s n != 1 || proxy || mine
  let s := if pairMode s n == 1 && proxy then ring.foldl (fun s _ => s.bump .RED_SOURCE_REMOVED) s else s
  ((cs.filter (fun c => !(drop && otherPort s n sideB c))).map (fun c =>
      if otherPort s n sideB c then { c with elim := !stitchPort c.port }
      else if elimCopy s n c then
        { c with elim := true, red := { c.red with hsrDel := (copyPair s c).all (fun x => pairMode s x.1 == 0) } }
      else c), s)

/-- The R-TAG edits of FRER (R289). -/
def rtagCopies (s : State) (gen : Option Nat) (recover : Bool) (cs : List CCopy) : List CCopy :=
  let m := regMask s .RED_RTAG_PORTS
  cs.map (fun c =>
    let on := m.testBit c.port
    match gen with
    | some q => if on then { c with red := { c.red with rtagAdd := some q } } else c
    | none => if recover && !on then { c with red := { c.red with rtagDel := true } } else c)

/-- The next generated R-TAG sequence of a stream (R289, R292). -/
def rtagSeq (s : State) (h : Nat) : Nat × State :=
  let e := entryAt s 9 h
  let q := fld (e.getD 0 0) 0 16
  (q, putEntry s 9 h (setAt e 0 (setFld (e.getD 0 0) 0 16 (q + 1))))

/-- The decision's outcome on a frame and its copies at lookup: `port` is the receiving port (R295, R296). -/
def applyDec (s : State) (id : Nat) (f : CFrame) (d : Dec) (r i q : Nat) (cs : List CCopy) : CFrame × List CCopy × State :=
  match d with
  | .undecided => (f, cs, s)
  | .accept ooo =>
    let s := if f.verdict.isNone then setProv s f.src { frame := id, region := r, index := i, seq := q } else s
    ({ f with dup := if ooo then 5 else 1 }, cs, s)
  | .noRecord => ({ f with dup := 1 }, cs, s)
  | .duplicate => ({ f with dup := 2 }, cs.filter (fun c => !c.elim), s)
  | .hold p =>
    let s := match mfind s.red.prov p with
      | some x => setProv s p { x with held := some id }
      | none => s
    ({ f with dup := 3 }, cs.map (fun c => if c.elim then { c with held := true, store := true } else c), occ (s.bump .RED_HELD) 19 0x13 0)
  | .rogue => ({ f with dup := 4 }, cs.filter (fun c => !c.elim), s)

/-- The function FN of a frame's stream record on its copies (R289, R292, R294): with recovery, the decision on every copy that this
device delivers (R297), or none without an R-TAG; with generation, the next sequence. -/
def frerStage (s : State) (id : Nat) (f : CFrame) (p : Parsed) (fn : Nat) (cs : List CCopy) : CFrame × List CCopy × State :=
  let h := f.carry.handle
  if fn = 1 then
    if p.layers.testBit 3 then
      let q := p.get 0x09
      let d := decideRec s h q f.verdict.isSome
      applyDec d.2 id f d.1 9 h q (rtagCopies d.2 none true (cs.map (fun c => { c with elim := !stitchPort c.port })))
    else (f, cs, s.bump .RED_UNTAGGED)
  else if fn = 2 then
    let g := rtagSeq s h
    (f, rtagCopies g.2 (some g.1) false cs, g.2)
  else (f, cs, s)

/-- The redundancy functions at lookup (R286 to R295), on the copies that the pipeline asked for. -/
def redAtLookup (s : State) (id : Nat) (f : CFrame) (p : Parsed) (rec : Option (List Word)) (cs : List CCopy) :
    CFrame × List CCopy × State :=
  let tagged := p.layers.testBit 2
  let sa := p.get 0x02
  let fn := match rec with
    | some e => fld (e.getD 0 0) 27 2
    | none => 0
  let known := f.verdict.isSome
  match pairOf s f.ref with
  | some (n, b) =>
    let f := { f with pair := some n, sideB := b }
    if pairMode s n = 0 then
      let r := prpCopies s n b cs
      let o := outbound r.2 f.ref sa tagged f.stitchSeq r.1
      frerStage o.2.2 id { f with prpWait := true, stitchSeq := o.2.1 } p fn o.1
    else if tagged then
      -- decided by its HSR tag only; its own R-TAG passes unchanged (R294)
      let g := frerStage s id f p (if fn = 2 then 2 else 0) cs
      let r := hsrCopies g.2.2 n b f.carry.fid (p.get 0x01) sa g.2.1
      let q := p.get 0x08 % 65536
      let d := decideNode r.2 sa n b q known
      let o := outbound d.2.2 f.ref sa tagged f.stitchSeq r.1
      applyDec o.2.2 id { f with seqNo := some q, stitchSeq := o.2.1 } d.1 12 (d.2.1.getD 0) q o.1
    else
      let o := outbound (s.bump .RED_UNTAGGED) f.ref sa tagged f.stitchSeq (cs.filter (fun c => !otherPort s n b c))
      frerStage o.2.2 id { f with pair := none, stitchSeq := o.2.1 } p (if fn = 1 ∧ !p.layers.testBit 3 then 0 else fn) o.1
  | none =>
    let o := outbound s f.ref sa tagged f.stitchSeq cs
    frerStage o.2.2 id { f with stitchSeq := o.2.1 } p fn o.1

/-! ## Resolution at the verdict (R296) -/

/-- Copies of frame `id` for which `p` holds are discarded without a counter of the Carafe. -/
def dropCopies (s : State) (id : Nat) (p : CCopy → Bool) : State :=
  let s := s.modFrm id (fun f => { f with plan := f.plan.filter (fun c => !p c) })
  ((copiesOf s id).filter p).foldl dropCopy s

/-- A held duplicate is released (R296): stored whole, eligible from the slot boundary that R246 gives. -/
def releaseHeld (s : State) (h : Nat) : State :=
  let s := s.modFrm h (fun f => { f with dup := 1, plan := f.plan.map (fun c => { c with held := false }) })
  s.modCpy (fun c => c.frame == h && c.held) (fun c => { c with held := false })

/-- LE_DIFF of an entry changes. -/
def addDiff (s : State) (r i : Nat) (d : Int) : State := let x := entOf s r i; putEnt s { x with diff := x.diff + d }

/-- The HISTORY bit of a sequence, where it still lies in the window. -/
def setHist (s : State) (r i q : Nat) (b : Bool) : State :=
  let x := entOf s r i
  let d := sgn 16 (x.seq + 65536 - q)
  if 0 ≤ d ∧ d < 64 then
    let m := 1 <<< d.toNat
    putEnt s { x with hist := if b then x.hist ||| m else x.hist - (x.hist &&& m) }
  else s

/-- A provisional record is withdrawn (R296, R303). -/
def withdraw (s : State) (x : Prov) : State :=
  let s := setHist s x.region x.index x.seq false
  let s := addDiff s x.region x.index (1 - ((entOf s x.region x.index).paths : Int))
  s.wr .RED_ACCEPTED 0 0 (s.rw .RED_ACCEPTED - 1)

/-- The verdict of frame `id` from receiving port `port` resolves its provisional record, or frees the record it is held
against (R296). -/
def resolveProv (s : State) (port id : Nat) (good : Bool) : State :=
  match s.red.prov.find? (fun p => p.1 == port && p.2.frame == id) with
  | some (_, x) =>
    let s := delProv s port
    if good then
      match x.held with
      | none => s
      | some h =>
        tidy (countDup (addDiff (dropCopies (s.modFrm h (fun f => { f with dup := 2 })) h (fun c => c.elim)) x.region x.index (-1))) h
    else
      let s := withdraw s x
      match x.held with
      | none => s
      | some h =>
        match s.frm h with
        | none => s
        | some f =>
          let s := setHist s x.region x.index x.seq true
          let e := entOf s x.region x.index
          let s := countAccept (putEnt s { e with act := true, diff := e.diff + (e.paths : Int) - 1 })
          let s := if f.verdict = some true then s else setProv s f.src { x with frame := h, held := none }
          (releaseHeld s h).bump .RED_HELD_RELEASED
  | none =>
    if good then s
    else { s with red := { s.red with prov := s.red.prov.map (fun p =>
      if p.2.held = some id then (p.1, { p.2 with held := none }) else p) } }

/-- The PRP decision at a good verdict (R288, R294): a frame with an RCT from a PRP pair port. -/
def prpDecision (s : State) (id : Nat) (f : CFrame) : State :=
  match f.pair, rctOf (frameAlt s f) f.body with
  | some n, some (lan, q) =>
    let sa := beAt f.bytes 6 6
    let wrong := lan != (if f.sideB then 0xB else 0xA)
    let d := decideNode s sa n f.sideB q true
    let s := d.2.2
    let s := if wrong then (s.bump .RED_WRONG_LAN).setFlags .RED_STATUS 0 0 8 else s
    let s := match wrong, (nodeFind s sa).1 with
      | true, some i =>
        let e := entryAt s 12 i
        putEntry s 12 i (setAt e 7 (setFld (e.getD 7 0) 16 16 (min 65535 (fld (e.getD 7 0) 16 16 + 1))))
      | _, _ => s
    -- a decision against a stream record has been made before (R294): what it discarded or holds stays so
    let dup (f : CFrame) (n : Nat) : Nat := if f.dup = 2 ∨ f.dup = 3 ∨ f.dup = 4 then f.dup else n
    match d.1 with
    | .undecided => s.modFrm id (fun f => { f with prpWait := false })
    | .accept ooo => s.modFrm id (fun f => { f with prpWait := false, dup := dup f (if ooo then 5 else 1), seqNo := some q })
    | .duplicate => dropCopies (s.modFrm id (fun f => { f with prpWait := false, dup := 2 })) id (fun c => c.red.rctDel)
    | _ => s.modFrm id (fun f => { f with prpWait := false, dup := dup f 1 })
  | _, _ => s.modFrm id (fun f => { f with prpWait := false })

/-! ## The stream audit (R299, R300) -/

/-- Samples per second of a RATE code. -/
def audRate (c : Nat) : Nat := [4000, 4800, 12800, 14400].getD c 4000

/-- The nominal arrival nearest to ingress time `t`: E with −0.5 s ≤ t − E < 0.5 s (R300). -/
def audDev (t n rate off : Nat) : Int :=
  let base : Int := (n * 1000000000 / rate + off : Nat)
  let d := (t : Int) - base
  (d + 500000000) % 1000000000 - 500000000

/-- The audit of one confirmed good frame against entry `x` (R300); the second part is the arrival prefix's LATE, EARLY,
GAP, REPEAT and DECODE_ERR (R351). -/
def auditFrame (s : State) (x t : Nat) (smp : Option (Nat × Nat)) (oow exc : Bool) : Nat × State :=
  let e := entryAt s 11 x
  if x ≥ regionSize s 11 ∨ !tst (s.rw .RED_CFG) 30 then (0, s)
  else if !parOk 11 e then (0, redParity s)
  else if !isValid 11 e then (0, s)
  else
    let s := occ s 19 0x16 0
    let inc (e : List Word) (k : Nat) : List Word := setAt e k (e.getD k 0 + 1)
    let w := e.getD 0 0
    let rate := audRate (fld w 25 2)
    let e := inc e 4
    let e := setAt e 15 (setFld (setFld (e.getD 15 0) 16 16 (min 65535 (fld (e.getD 15 0) 16 16 + b2n oow))) 0 16
      (min 65535 (fld (e.getD 15 0) 0 16 + b2n exc)))
    match smp with
    | none => (1, putEntry s 11 x (inc e 8))
    | some (k, n) =>
      if n ≥ rate then (1, putEntry s 11 x (inc e 8)) else
      let d := audDev t n rate (e.getD 1 0).toNat
      let lat := tst w 27
      let late := lat && decide (d > ((e.getD 2 0).toNat : Int))
      let early := lat && decide (d < -((e.getD 3 0).toNat : Int))
      let sum := (sgn 64 ((e.getD 13 0).toNat * 2 ^ 32 + (e.getD 14 0).toNat) + d)
      let e := if lat then
          setAt (setAt (setAt (setAt e 11 (wOfInt (min d (sgn 32 (e.getD 11 0).toNat)))) 12
            (wOfInt (max d (sgn 32 (e.getD 12 0).toNat)))) 13 (wd (unsgn 64 sum / 2 ^ 32))) 14 (wd (unsgn 64 sum))
        else e
      let e := if late then inc e 9 else e
      let e := if early then inc e 10 else e
      let s := if late then s.setFlags .RED_STATUS 0 0 32 else s
      let flags := 16 * b2n late + 8 * b2n early
      if !tst w 28 then (flags, putEntry s 11 x e) else
      let next := fld w 0 16
      let g := (n + rate - next % rate) % rate
      let setNext (e : List Word) (back : Bool) (nx : Nat) : List Word :=
        setAt e 0 (setFld (setFld (setFld (e.getD 0 0) 24 1 1) 23 1 (b2n back)) 0 16 nx)
      if !tst w 24 ∨ n = next then (flags, putEntry s 11 x (setNext e false ((n + k) % rate)))
      else if g < rate / 2 then
        (flags + 4, (putEntry s 11 x (setNext (setAt e 5 (e.getD 5 0 + wd g)) false ((n + k) % rate))).setFlags .RED_STATUS 0 0 64)
      else
        let rep := decide ((next + rate - n) % rate = k)
        let e := inc e (if rep then 6 else 7)
        let e := if tst w 23 then setNext e false ((n + k) % rate) else setNext e true next
        (flags + 2 * b2n rep, putEntry s 11 x e)

/-- The counts of an audit entry that two streams share are free (R304). -/
def audWild (s : State) (x : Nat) : State :=
  (putEntry s 11 x ((entryAt s 11 x).take 4 ++ (List.range 12).map (fun k => Config.freeW (s.freeCtr + k)))).drawn

/-! ## Host errors in entries and pairs (R283, R304; log entry 6) -/

/-- A window entry that R283 calls a host error: its MODE, ACTION, reserved fields, PER_SEC or OFFSET. -/
def windowErr (e : List Word) : Bool :=
  let w := e.getD 0 0
  fld w 27 2 == 3 || fld w 25 2 == 3 || fld w 17 3 != 0 || e.getD 7 0 != 0 || fld w 0 17 == 0 || decide (100000 < fld w 0 17) ||
    decide (999999999 < (e.getD 1 0).toNat)

/-- A policer entry that R283 calls a host error: its ACTION, reserved fields, or NOM_LEN in byte mode. -/
def meterErr (e : List Word) : Bool :=
  let w := e.getD 0 0
  fld w 26 2 == 3 || fld w 14 9 != 0 || e.getD 6 0 != 0 || e.getD 7 0 != 0 ||
    (tst w 28 && (decide (fld w 0 14 < 64) || decide (10240 < fld w 0 14)))

/-- An audit entry whose reserved field is not zero (R304). -/
def auditErr (e : List Word) : Bool := fld (e.getD 0 0) 16 7 != 0

/-- The traffic of stream `h` is unpredictable (R283, R304), by its S1 flags and its record. -/
def streamErr (s : State) (h flags : Nat) (rec : Option (List Word)) : Bool :=
  decide (regionSize s 9 ≤ h) || flags.testBit 3 ||
  match rec with
  | none => false
  | some e =>
    let x := fld (e.getD 1 0) 16 14
    let bad (r : Nat) (p : List Word → Bool) : Bool :=
      decide (regionSize s r ≤ x) || (let y := entryAt s r x; isValid r y && parOk r y && p y)
    fld (e.getD 0 0) 27 2 == 3 || fld (e.getD 0 0) 16 9 != 0 || reservedBits s .RED_CFG 0 ||
      (fld (e.getD 0 0) 27 2 != 0 && fld (s.rw .RED_RTAG_PORTS 4) 6 2 != 0) ||
      (fld (e.getD 0 0) 27 2 == 1 && reservedBits s .RED_FRER_RESET 0) || (flags.testBit 2 && bad 10 windowErr) ||
      (flags.testBit 1 && bad 7 meterErr) || (flags.testBit 0 && bad 11 auditErr)

/-- The traffic of a pair is unpredictable (R304): its registers, or a reserved field in the node entry of the frame's source. -/
def pairErr (s : State) (n sa : Nat) : Bool :=
  pairCfgErr s n || (match (findKey s 12 sa).1 with
    | some i => tst ((entryAt s 12 i).getD 0 0) 20
    | none => false)

/-- A host error leaves open a copy to a pair port of a frame from reference `ref` and source `sa` (R304). -/
def outErr (s : State) (ref sa : Nat) (cs : List CCopy) : Bool :=
  cs.any (fun c => portErr s (copyRef s c) || (match outPair s ref c with
      | some (n, _) => pairErr s n sa
      | none => false))

/-- A host error leaves open what becomes of a frame and its copies `cs`. -/
def frameErr (s : State) (f : CFrame) (sa flags : Nat) (rec : Option (List Word)) (cs : List CCopy) : Bool :=
  (f.carry.handleV && streamErr s f.carry.handle flags rec) || portErr s f.ref || outErr s f.ref sa cs ||
    (match pairOf s f.ref with
      | some (n, _) => pairErr s n sa
      | none => false)

/-! ## Sweeps (R298) -/

/-- A sweep's visit to an entry of a region. -/
def sweepEntry (s : State) (r i : Nat) (act : State → List Word → State) : State :=
  if i ≥ regionSize s r then s else
  let e := entryAt s r i
  if !parOk r e then redParity s else if isValid r e then act s e else s

/-- ACT is cleared, or TAKE_ANY set (R298). -/
def resetVisit (s : State) (r i : Nat) : State :=
  let e := entryAt s r i
  let a := if r = 12 then 23 else 25
  let t := if r = 12 then 24 else 26
  if tst (e.getD 0 0) a then putEntry s r i (setBit e (0, a) false)
  else if tst (e.getD 0 0) t then s
  else (putEntry s r i (setBit e (0, t) true)).bump .RED_RESETS

/-- A timing register of the sweeps has a field below its range (R304). -/
def nodeTimeBad (s : State) : Bool := decide (s.rf .RED_NODE_TIME 0 0 0 16 < 2) || s.rf .RED_NODE_TIME 0 0 16 16 == 0
def frerTimeBad (s : State) : Bool := decide (s.rf .RED_FRER_RESET 0 0 0 16 < 2)
def leTimeBad (s : State) : Bool := decide (s.rf .RED_LE_CFG 0 0 0 16 < 10) || s.rf .RED_LE_CFG 0 0 16 16 == 0

/-- A sweep falls due: while the stream unit sleeps it wakes it (R473), and the visit waits for it, as it waits for the sleeping
bank of the entry (R118).  With a timing register below its range, whether it takes place is free (R304; log entry 6). -/
def sweepDue (s : State) (wild : Bool) (r i : Nat) (visited : State) : State :=
  if !domOn s 233 then trigger s 2 233
  else if i < regionSize s r && !domOn s (tblDom (entryAddr s r i)) then s
  else if !wild then visited
  else if s.free % 2 = 0 then visited.drawn
  else s.drawn

/-- The node reset sweep visits its next index. -/
def nodeReset (s : State) : State :=
  let i := s.red.nodePos
  let n := regionSize s 12
  if closed s 19 then s else
  let t := { s with red := { s.red with nodePos := if n = 0 then 0 else (i + 1) % n } }
  sweepDue s (nodeTimeBad s) 12 i (sweepEntry t 12 i (fun s _ => resetVisit s 12 i))

/-- The record reset sweep visits its next index: records with FN recovery. -/
def recordReset (s : State) : State :=
  let i := s.red.recPos
  let n := regionSize s 9
  if closed s 19 then s else
  let t := { s with red := { s.red with recPos := if n = 0 then 0 else (i + 1) % n } }
  sweepDue s (frerTimeBad s) 9 i (sweepEntry t 9 i (fun s e => if fld (e.getD 0 0) 27 2 = 1 then resetVisit s 9 i else s))

/-- The node forget sweep visits its next index. -/
def nodeForget (s : State) : State :=
  let i := s.red.forgetPos
  let n := regionSize s 12
  if closed s 19 then s else
  let t := { s with red := { s.red with forgetPos := if n = 0 then 0 else (i + 1) % n } }
  sweepDue s (nodeTimeBad s) 12 i (sweepEntry t 12 i (fun s e =>
    let w := e.getD 0 0
    if tst w 28 || isGuard 12 e || s.roast.guardRegions.testBit 12 then s
    else if fld w 21 2 = 3 then s.setTws (entryAddr s 12 i) (List.replicate 8 0)
    else putEntry s 12 i (setAt e 0 (setFld w 21 2 (fld w 21 2 + 1)))))

/-- The latent error sweep's act on one entry. -/
def latentVisit (s : State) (r i : Nat) : State :=
  let x := entOf s r i
  let s := if x.diff > (s.rf .RED_LE_CFG 0 0 16 16 : Int) then
      ((s.bump .RED_LATENT).wr .RED_LAST_LE 0 0 (bitw 31 (r == 9) ||| put 0 16 i)).setFlags .RED_STATUS 0 0 1
    else s
  let e := entryAt s r i
  if r = 12 then putEntry s 12 i (setAt e 7 (setFld (e.getD 7 0) 0 16 0))
  else putEntry s 9 i (setAt e 1 (setFld (e.getD 1 0) 0 16 0))

/-- The latent error sweep visits its next index: node entries first, then stream records. -/
def latentSweep (s : State) : State :=
  let i := s.red.latPos
  let n := regionSize s 12
  let m := regionSize s 9
  if closed s 19 || !tst (s.rw .RED_CFG) 29 then s else
  let t := { s with red := { s.red with latPos := if n + m = 0 then 0 else (i + 1) % (n + m) } }
  if i < n then sweepDue s (leTimeBad s) 12 i (sweepEntry t 12 i (fun s e => if tst (e.getD 0 0) 27 then s else latentVisit s 12 i))
  else sweepDue s (leTimeBad s) 9 (i - n)
    (sweepEntry t 9 (i - n) (fun s e => if fld (e.getD 1 0) 30 2 = 0 then s else latentVisit s 9 (i - n)))

/-- RED_NODE_COUNT. -/
def nodeCount (s : State) : Nat := ((usedEntries s 12).filter (fun i => isValid 12 (entryAt s 12 i))).length

/-! ## The sent frame (R191, R289) -/

/-- A frame without FCS padded with zeros to 60 bytes. -/
def pad60 (b : Bytes) : Bytes := b ++ List.replicate (60 - b.length) 0

/-- The redundancy edits of a copy (R289), on the frame after S5. -/
def redBytes (alt : Option Nat) (e : RedEdit) (b : Bytes) : Bytes :=
  let b := if e.rctDel && (rctOf alt b).isSome then pad60 (b.take (b.length - 6)) else b
  let o := afterTags alt b
  let b := if e.hsrDel && beAt b o 2 == 0x892F then pad60 (b.take o ++ b.drop (o + 6)) else b
  let o2 := if beAt b o 2 = 0x892F then o + 6 else o
  let b := if e.rtagDel && beAt b o2 2 == 0xF1C1 then pad60 (b.take o2 ++ b.drop (o2 + 6)) else b
  let b := match e.rtagAdd with
    | some q => b.take o ++ beBytes 2 0xF1C1 ++ [0, 0] ++ beBytes 2 q ++ b.drop o
    | none => b
  let b := match e.hsrAdd with
    | some (q, path) =>
      if beAt b o 2 = 0x892F then b
      else b.take o ++ beBytes 2 0x892F ++ beBytes 2 (path * 4096 + (b.length - o + 4) % 4096) ++ beBytes 2 q ++ b.drop o
    | none => b
  match e.rctAdd with
  | some (q, lan) =>
    if (rctOf alt b).isSome then b
    else b ++ beBytes 2 q ++ beBytes 2 (lan * 4096 + (b.length - o + 6) % 4096) ++ beBytes 2 0x88FB
  | none => b

/-- The bytes of a copy as the egress pipeline forms them, without an FCS (R191, R195, R289). -/
def egressBytes (s : State) (f : CFrame) (c : CCopy) : Bytes :=
  let b := s5Edit (frameAlt s f) (c.s5.getD 0) f.s4Class f.body
  let b := redBytes (frameAlt s f) c.red b
  let b := match c.kind with
    | .mirror _ t => if t = 0 then b else b.take (t - 4)
    | _ => b
  c.patches.foldl (fun b p => patch b p.1 p.2) b

/-- A copy that its S5 push, or the HSR tag added after it, makes longer than MAX_LEN of its port (R200). -/
def overLong (s : State) (f : CFrame) (c : CCopy) : Bool :=
  c.port < 130 && (2 ≤ fld (c.s5.getD 0) 21 2 || c.red.hsrAdd.isSome) && decide (f.body.length < (egressBytes s f c).length) &&
    decide (macMaxLen s c.port < (egressBytes s f c).length + 4)

end Sys2Proof.Machine
end

