-- ==== Sys2Proof/Machine/Ingress.lean ====
section
/-!
DEFINITION. Machine/Ingress.lean: a frame's way from the MAC to the Carafe: reception, preemption reassembly, lookup,
admission and verdict (01_architecture.md R24 to R30; 07_mac.md R150 to R163; 08_classification.md R193 to R197;
10_carafe.md R242 to R252).
-/
namespace Sys2Proof.Machine

/-! ## Reception (R24, R150, R163, R165, R166) -/

/-- The power domain of the MAC of port `p`. -/
def macDom (p : Nat) : Nat := if p < 128 then p else p + 93

/-- The power domain of an ingress pipeline. -/
def pipeDom (k : Nat) : Nat := if k < 8 then 170 + k else 232

/-- The MAC of port `p` receives what is in progress: the port exists, is not disabled, its link is up and its domain is awake. -/
def rxGoing (s : State) (p : Nat) : Bool :=
  p < 130 && portPresent s p && !portDisabled s p && linkUp s p && domOn s (macDom p) && !closed s (portBlock p)

/-- A frame may begin at the MAC of port `p`: no disable is under way either (R172). -/
def rxReady (s : State) (p : Nat) : Bool := rxGoing s p && enState s p == .enabled

/-- The B2 cells of port `p` (R26). -/
def b2Depth (s : State) (p : Nat) : Nat := if quadMode (laneMode s (portLane p)) then 12 else 48

/-- The frames of write feed `d` whose cells it has been handed and has not written all, in the order in which they entered their
pipelines; none while the wrapper of block 17 returns every credit (R27). -/
def b5Frames (s : State) (d : Nat) : List (Nat × CFrame) :=
  if closed s 17 then []
  else (s.car.frames.filter (fun f => f.2.feed == d && f.2.looked && !f.2.gone && !f.2.bad && decide (f.2.cells.length < f.2.ctimes.length))).insertionSort
    (fun a b => a.2.enter ≤ b.2.enter)

/-- The cells that write feed `d` has been handed and has not written (B5, R24). -/
def b5Used (s : State) (d : Nat) : Nat := sumN ((b5Frames s d).map (fun f => f.2.ctimes.length - f.2.cells.length))

/-- The cells of port `p` among these that find no room in the `room` that B5 has: they stay at B2 (R24; log entry 16). -/
def b5Over (p : Nat) : List (Nat × CFrame) → Nat → Nat
  | [], _ => 0
  | f :: t, room =>
    let n := f.2.ctimes.length - f.2.cells.length
    (if f.2.src = p then n - room else 0) + b5Over p t (room - n)

/-- The bank that an exact lookup of a key in region `r` reads (R184, R202). -/
def keyBank (s : State) (r key : Nat) : List Nat :=
  if regionSize s r = 0 then [] else [bankOf (entryAddr s r ((bucketOf s r key).headD 0))]

/-- The banks over which a region's entries lie. -/
def regionBanks (s : State) (r : Nat) : List Nat :=
  if regionSize s r = 0 then []
  else
    let lo := bankOf (entryAddr s r 0)
    let hi := bankOf (entryAddr s r (regionSize s r - 1) + entryWords r - 1)
    (List.range (hi + 1 - lo)).map (· + lo)

/-- The banks that each of the stages S0 to S4 of a frame's lookup reads, and those that the stream unit, out of reset, reads for it
(R27, R184 to R190, R207, R275, R291). -/
def lookupBanks (s : State) (k port ref : Nat) (p : Parsed) : List (List Nat) :=
  let key (st : Nat) (c : Carry) : Nat := stageKey s st (fieldOf p port c (0, 0))
  let c0 := (stageS0 s k port p).1
  let s0 := keyBank s 4 (key 0 {})
  if p.code ≠ 0 then [s0]
  else
    let c1 := (stageS1 s k port p c0).1
    let c2 := (stageS2 s k port p c1).1
    let c3 := (stageS3 s k port p c2).1
    let c := (resolve s k port ref p).1.carry
    let dest := if c.verdict = 0 ∧ !c.destKind ∧ c.dest < regionSize s 1 then [bankOf (entryAddr s 1 c.dest)] else []
    let stream := if c.verdict = 0 ∧ c.handleV ∧ !closed s 19 then [7, 9, 10, 11].flatMap (regionBanks s) else []
    [s0, keyBank s 8 (key 1 c0), regionBanks s 2, keyBank s 5 (key 3 c2),
     keyBank s 0 (fdbKey c3.fid (p.get 0x01)) ++ (if c3.learn then keyBank s 0 (fdbKey c3.fid (p.get 0x02)) else []) ++ dest, stream]

/-- Where the pipeline holds a frame whose lookup is due (R24, R25, R118): at the first stage of S0 to S4 that waits for a sleeping
table bank, at 5 where the stream unit, out of reset (R27), or a bank of its own sleeps, at 6 where the write feed has no credit;
`none` where nothing holds it. -/
def frameHold (s : State) (f : CFrame) : Option Nat :=
  if b5Used s f.feed ≥ 32 then some 6
  else
    let k := pipeOf f.src
    let p := parse (altTpid s k) f.bytes f.ended
    let bs := lookupBanks s k f.src f.ref p
    match findIdx (fun l => l.any (fun b => b < 16 && !domOn s (202 + b))) bs 0 with
    | some i => some i
    | none => if !domOn s 233 && !closed s 19 && (resolve s k f.src f.ref p).1.carry.handleV then some 5 else none

/-- The lookup of a frame begins: its 96th byte, or its end, has come (R30). -/
def lookupBegins (f : CFrame) : Bool := f.ended || decide (f.bytes.length ≥ 96)

/-- A lookup that has begun can be carried out: the 100th byte, or the end, has come, so that no head byte can turn out to be one of
the FCS (R30, R178; log entry 108). -/
def lookupDue (f : CFrame) : Bool := f.ended || decide (f.bytes.length ≥ 100)

/-- The descriptors that a pipeline takes in while it holds: 32 between each pair of stages, those before stage `i`; 64 more toward
the stream unit (B3, B4; log entry 16). -/
def holdRoom (i : Nat) : Nat := if i ≤ 4 then 32 * i else if i = 5 then 192 else 128

/-- The frames of pipeline `k` that are not looked up yet. -/
def pipeQueue (s : State) (k : Nat) : List (Nat × CFrame) :=
  s.car.frames.filter (fun f => pipeOf f.2.src == k && f.2.src < 133 && !f.2.looked && !f.2.gone)

/-- Those that have entered it, in order of entry. -/
def pipeEntered (s : State) (k : Nat) : List (Nat × CFrame) :=
  ((pipeQueue s k).filter (fun f => f.2.enter != 0)).insertionSort (fun a b => a.2.enter ≤ b.2.enter)

/-- Where pipeline `k`, awake, holds: its foremost frame is held (R24); `none` where it does not hold. -/
def pipeHold (s : State) (k : Nat) : Option Nat := ((pipeEntered s k).head?).bind (fun f => frameHold s f.2)

/-- The bytes that port `p` occupies at B2 (R24 to R26): those of its frames that have not been looked up, while their pipeline is not
awake; while it holds, those of the frames for which it has no descriptor.  Otherwise it passes every cell on, but those for which
the write feed has no credit.  B2 holds bytes without padding: only so does its depth cover the times of R26 for frames of every
length (log entry 16). -/
def b2Used (s : State) (p : Nat) : Nat :=
  let k := pipeOf p
  let left (taken : List Nat) : Nat :=
    sumN (((pipeQueue s k).filter (fun f => f.2.src == p && !taken.contains f.1)).map (fun f => f.2.bytes.length))
  128 * b5Over p (b5Frames s (feedOf p)) 32 +
    if !domOn s (pipeDom k) then left []
    else match pipeHold s k with
      | none => 0
      | some i => left (((pipeEntered s k).take (holdRoom i)).map (·.1))

/-- The ingress timestamp of a frame that begins `half` half nanoseconds after the last tick (R165, R166, R311): the
instant of the timestamp point less RX_ADJ, in 2^-16 ns. -/
def rxStamp (s : State) (p half : Nat) : Nat :=
  s.stampBy half (-sgn 16 (s.rf .MAC_TS_ADJ p 0 16 16))

/-- A new frame in reception at port `p`; it is discarded whole where its first byte finds B2 full (R24, R26). -/
def rxOpen (s : State) (p half : Nat) : RxSt × State :=
  let m := macMaxLen s p
  if b2Used s p ≥ 128 * b2Depth s p then
    ({ noCredit := true, maxLen := m }, if p < 130 then occ (macCount s p 24) (portBlock p) 0x16 (portSub p) else s)
  else
    let r := s.newFrm { src := p, feed := feedOf p, ref := portRef s p, rate := portRate s p, t := rxStamp s p half }
    ({ fid := some r.2, maxLen := m }, r.1)

/-- The MAC of port `p` is left asleep by the host while a frame comes that it would receive (R120). -/
def rxLeft (s : State) (p : Nat) : Bool :=
  p < 130 && portPresent s p && enState s p == .enabled && linkUp s p && leftAsleep s (macDom p)

/-- The first byte of a frame arrives at the MAC of port `p` (R24, R165); `fifoErr` says that a receive FIFO of its lane
overflows or underruns within it (R138).  The closed wrapper of the port's block discards and counts the frame (R27, R104).
Whether a MAC that is left asleep receives it is free (R120). -/
def frameStart (s : State) (p half : Nat) (fifoErr : Bool) : State :=
  if p < 130 && portPresent s p && closed s (portBlock p) then isoDiscard s (portBlock p) else
  let ready := rxReady s p || (rxLeft s p && s.free % 2 == 1)
  let s := if rxLeft s p then s.drawn else s
  if !ready || (s.mac p).rx.isSome then s else
  let r := rxOpen s p half
  let s := r.2.setMac p { (r.2.mac p) with rx := some { r.1 with code := fifoErr } }
  if fifoErr then s.setFlags .LN_STATUS (portLane p) 0 2 else s

/-! ## The verdict's consequences (R209, R245 to R252, R279, R294 to R300) -/

/-- The audit acts on a frame that it names, once it is accepted or without a duplicate decision (R300). -/
def auditStep (s : State) (id : Nat) : State :=
  match s.frm id with
  | none => s
  | some f =>
    match f.audit with
    | none => s
    | some x =>
      if f.dup = 2 ∨ f.dup = 3 ∨ f.dup = 4 ∨ closed s 19 then s else
      let p := parse (frameAlt s f) f.bytes f.ended
      let smp := if beAt f.bytes p.et 2 = 0x88BA then smpDecode f.bytes (p.et + 10) else none
      let known := decide (x < regionSize s 11) && tst (s.rw .RED_CFG) 30 && parOk 11 (entryAt s 11 x) && isValid 11 (entryAt s 11 x)
      let r := auditFrame s x (f.t / 65536) smp f.oow f.exceeded
      let t := if known && audShared s x then audWild r.2 x else r.2
      t.modFrm id (fun f => { f with audit := none, audFlags := if known then 32 + r.1 else 0 })

/-- The inner bytes of a trapped frame that its buffer holds beside the 16-byte prefix, and whether it was cut (R355). -/
def dripInner (buf : Nat) (f : CFrame) : Bytes × Bool :=
  let b := f.body
  let room := 4 * poolWords (buf % 4) - 16
  (b.take room, decide (b.length > room))

/-- The bytes of a trapped frame are copied into its buffer as they arrive, behind the prefix (R197). -/
def dripFollow (s : State) (id : Nat) : State :=
  match s.frm id with
  | none => s
  | some f => match f.drip with
    | none => s
    | some d => bufPut s d.pool 16 f.body

/-- A trapped frame is delivered at its good verdict, or discarded (R197).  It goes to feed 11 as a frame that the device
originates, and holds its buffer until it has been sent (R356). -/
def dripVerdict (s : State) (id : Nat) (good : Bool) : State :=
  match s.frm id with
  | none => s
  | some f =>
    match f.drip with
    | none => s
    | some d =>
      let s := s.setFrm id { f with drip := none }
      if !good then lbmGive (s.bump .DRIP_BAD) 4 d.pool
      else
        let b := dripInner d.pool f
        let c : CCopy := { id := 0, frame := 0, port := 128 + ctxLane s d.ctx, queue := 14, kind := .drip d.ctx d.parse b.2 }
        let f := { f with carry := { f.carry with reason := d.reason } }
        (originate (bufPut s d.pool 0 (wsBytes (arrivalWords f c b.2) ++ b.1)) { f with
          src := 134, feed := 11, bytes := b.1, ctimes := [], cells := [], head := 0, decided := false, gone := false, drip := none,
          born := 0, buf := some (4, d.pool), plan := [c] }).bump .DRIP_PASSED d.ctx

/-- The bad verdict on a frame whose provisional record a duplicate is held against releases that duplicate (R296); the audit acts on
one that is good already (R300). -/
def resolveBad (s : State) (port id : Nat) : State :=
  let h := (s.red.prov.find? (fun p => p.1 == port && p.2.frame == id)).bind (·.2.held)
  let t := resolveProv s port id false
  match h with
  | some h => tidy (if ((t.frm h).bind (·.verdict)) = some true then auditStep t h else t) h
  | none => t

/-- A good verdict's consequences for the learning engine, the policer, the duplicate decisions and the audit. -/
def goodFx (s : State) (id : Nat) : State :=
  match s.frm id with
  | none => s
  | some f =>
    let s := s.setFrm id { f with learn := none, meter := none }
    let s := match f.learn with
      | some q => learnPush s q
      | none => s
    let s := match f.meter with
      | some x => meterRest s x.1 x.2 f.bytes.length
      | none => s
    let s := if f.prpWait then prpDecision s id f else s
    let s := resolveProv s f.src id true
    dripVerdict (auditStep s id) id true

/-- A frame's length becomes known to the schedulers at its verdict (R260, R262): what a copy issued at 64 still owes is taken
from its queue's DEF, and a cut-through copy longer than MAX_SDU is counted where it is sent whole. -/
def lenKnown (s : State) (id : Nat) (good : Bool) : State :=
  match s.frm id with
  | none => s
  | some f =>
    ((copiesOf s id).filter (fun c => c.issued != 0 && c.cut)).foldl (fun s c =>
      let x := s.sch c.port
      let s := if c.owes then s.setSch c.port { x with defs := mmod 0 x.defs c.queue (fun d => d - ((f.bytes.length : Int) - 64)) } else s
      let sdu := maxSdu s c.port c.queue
      if good ∧ sdu ≠ 0 ∧ f.bytes.length > sdu ∧ !c.endBad then s.bump .SCH_SDU_PASSED c.port else s) s

/-! ## Lookup (R193 to R197, R280 to R297) -/

/-- The window and policer of a stream (R275, R280), by its S1 flags and its record.  A frame from a stitch link has passed
them on the device that it came from (R433). -/
def streamPolice (s : State) (f : CFrame) (s1 : Nat) (rec : Option (List Word)) : PolOut × State :=
  match if 130 ≤ f.src then none else rec with
  | none => ({ cls := f.carry.cls }, s)
  | some e =>
    let x := fld (e.getD 1 0) 16 14
    let a := if s1.testBit 2 then windowStep s x f.carry.cls f.t else ({ cls := f.carry.cls }, s)
    if a.1.drop || !s1.testBit 1 then a
    else meterStep a.2 x a.1 (if f.ended then some f.bytes.length else none)

/-- A copy in the queue of its frame's class after marking (R280). -/
def CCopy.reclass (c : CCopy) (cls : Nat) : CCopy :=
  match c.kind with
  | .fwd => { c with queue := classQueue c.port cls }
  | .host _ => { c with queue := 8 + cls }
  | _ => c

/-- A frame ends at its lookup without any copy.  Its feed still writes its head, whose cell then returns (R234, R242). -/
def lookedGone (s : State) (id : Nat) : State :=
  s.modFrm id (fun f => { f with decided := closed s 17, gone := true, plan := [] })

/-- Each port holds at most one pending learn request, that of the frame it looked up last (R209). -/
def onePending (s : State) (src id : Nat) : State :=
  { s with car := { s.car with frames := s.car.frames.map (fun f =>
    if f.2.src == src && f.1 != id && f.2.learn.isSome then (f.1, { f.2 with learn := none }) else f) } }

/-- What becomes of a frame that a host error leaves open (R283, R304): by the next free value what is computed, no copy, or any
ports. -/
def wildFrame (s : State) (id : Nat) : State :=
  let n := s.free
  let s := s.drawn
  match n % 3 with
  | 0 => s
  | 1 => lookedGone s id
  | _ => s.modFrm id (fun f => { f with gone := false, decided := false, plan := (maskPorts s (n / 3 % 2 ^ 134)).map (fun p =>
      { id := 0, frame := 0, port := p, queue := classQueue p f.carry.cls }) })

/-- The stream unit and the redundancy functions on a passed frame with the copies its pipeline asks for. -/
def streamStage (s : State) (id : Nat) (f : CFrame) (p : Parsed) (s1 : Nat) (cs : List CCopy) : State :=
  let needs := f.carry.handleV || (pairOf s f.ref).isSome || cs.any (fun c => (outPair s f.ref c).isSome)
  if closed s 19 && needs then lookedGone (isoDiscard (s.setFrm id f) 19) id else
  let r := if f.carry.handleV then streamRec s f.carry.handle else (none, s)
  let wild := frameErr s f (p.get 0x02) s1 r.1 cs
  let o := if f.carry.handleV then streamPolice r.2 f s1 r.1 else ({ cls := f.carry.cls }, r.2)
  let f := { f with
    oow := o.1.oow, exceeded := o.1.exceeded, meter := o.1.meter, carry := { f.carry with cls := o.1.cls },
    audit := if s1.testBit 0 then r.1.map (fun e => fld (e.getD 1 0) 16 14) else none }
  let t :=
    if o.1.drop then lookedGone (o.2.setFrm id { f with audit := none }) id
    else
      let d := redAtLookup o.2 id f p r.1 (cs.map (fun c => c.reclass o.1.cls))
      d.2.2.setFrm id { d.1 with plan := d.2.1 }
  if wild then wildFrame t id else t

/-- The 48-bit control address (R31). -/
def controlMac (s : State) : Nat := s.rf .CTL_DEV_MAC_HI 0 0 0 16 * 2 ^ 32 + s.rn .CTL_DEV_MAC_LO

/-- A frame that the MAC or the endpoint consumes, and never an ingress pipeline (R23, R154): of those with EtherType 0x88B6 only the
ones sent to the control address (R339). -/
def neverLooked (s : State) (f : CFrame) : Bool :=
  let et := if beAt f.bytes 12 2 = 0x8100 then beAt f.bytes 16 2 else beAt f.bytes 12 2
  beAt f.bytes 12 2 == 0x8808 || (128 ≤ f.src && f.src < 130 &&
    (et == s.rf .CTL_ETYPE 0 0 0 16 || (et == 0x88B6 && beAt f.bytes 0 6 == controlMac s)))

/-- The lookup of frame `id` (R193 to R197).  A frame from a stitch link keeps the class of its header (R17). -/
def lookupFrame (s : State) (id : Nat) (f : CFrame) : State :=
  let k := pipeOf f.src
  if neverLooked s f then (if f.verdict.isSome then { s with car := { s.car with frames := mdel s.car.frames id } } else s) else
  let p := parse (altTpid s k) f.bytes f.ended
  let r := resolve s k f.src f.ref p
  let s := r.2
  let s := if r.1.learn.isSome then onePending s f.src id else s
  let f := { f with
    looked := true, learn := r.1.learn, alt := altTpid s k, s4cls := r.1.carry.cls
    carry := if 130 ≤ f.src ∧ f.src < 133 then { r.1.carry with cls := f.carry.cls } else r.1.carry }
  let ev (s : State) (n : Nat) : State := occ s (pipeBlock k) n (pipeSub f.src)
  let s := match f.carry.verdict with
    | 0 =>
      let c := passPlan (ev s 0x11) k f.src f.carry
      let s := streamStage c.2 id f p r.1.s1 c.1
      if c.1 = [] then lookedGone s id else s
    | 2 =>
      let t := dripTrap (ev (s.bump .CLS_TRAPS k) 0x13) f p.code f.carry.reason
      dripFollow (lookedGone (t.2.setFrm id { f with drip := t.1 }) id) id
    | _ => lookedGone ((ev (s.bump .CLS_DROPS k) 0x12).setFrm id f) id
  tidy (if f.verdict = some true then goodFx s id else s) id

/-- The frame of port `p` that is next to enter its pipeline: the oldest that has not. -/
def nextLookup (s : State) (p : Nat) : Option (Nat × CFrame) :=
  s.car.frames.find? (fun f => f.2.src == p && !f.2.looked && !f.2.gone && f.2.enter == 0)

/-- A domain that the lookup of a frame needs is left asleep by the host (R120): its pipeline's, a table bank's that it reads, or the
stream unit's. -/
def lookupLeft (s : State) (f : CFrame) : Bool :=
  let k := pipeOf f.src
  let p := parse (altTpid s k) f.bytes f.ended
  leftAsleep s (pipeDom k) || (domOn s (pipeDom k) && !neverLooked s f &&
    ((lookupBanks s k f.src f.ref p).any (fun l => l.any (fun b => b < 16 && leftAsleep s (202 + b))) ||
      (leftAsleep s 233 && (resolve s k f.src f.ref p).1.carry.handleV)))

/-- Frame `id` meets a domain that is left asleep (R120): by the next free value it waits, or goes to any ports or to none. -/
def lookupWild (s : State) (id : Nat) (f : CFrame) : State :=
  let n := s.free
  let s := s.drawn
  if n % 2 = 0 then s
  else s.setFrm id { f with looked := true, plan := (maskPorts s (n / 2 % 2 ^ 134)).map (fun p =>
    { id := 0, frame := 0, port := p, queue := classQueue p 0 }) }

/-- The foremost frame of pipeline `k` passes it, unless the pipeline is asleep or holds it; an admission that waits for its lookup
follows (R24, R242). -/
def pipeStep (s : State) (k : Nat) : Option State :=
  match pipeEntered s k with
  | [] => none
  | (id, f) :: _ =>
    if domOn s (pipeDom k) && (frameHold s f).isNone then
      some (asOfLookup s id (fun s =>
        let s := lookupFrame s id f
        if f.admitDue then admitFrame s id else s))
    else if lookupLeft s f then
      let t := lookupWild s id f
      if ((t.frm id).map (·.looked)) = some true then some t else none
    else none

/-- At most `n` frames pass pipeline `k`, in order. -/
def pipeRun (k : Nat) : Nat → State → State
  | 0, s => s
  | n + 1, s =>
    match pipeStep s k with
    | some t => pipeRun k n t
    | none => s

/-- Every frame that pipeline `k` does not hold passes it. -/
def pipeGo (s : State) (k : Nat) : State := pipeRun k (pipeEntered s k).length s

/-- A frame whose lookup has begun and is due enters its pipeline (R30; log entry 108). -/
def lookupResume (s : State) (id : Nat) : State :=
  match s.frm id with
  | none => s
  | some f =>
    if f.started && f.enter == 0 && !f.looked && lookupDue f then
      let n := s.car.enters + 1
      pipeGo ({ s with car := { s.car with enters := n } }.setFrm id { f with enter := n }) (pipeOf f.src)
    else s

/-- The pipelines go on after a wake of what held them (R25, R118). -/
def pipesGo (s : State) : State := (List.range 9).foldl pipeGo s

/-! ## The verdict, and bytes that arrive (R13, R24, R150, R245, R251) -/

/-- The verdict on frame `id` reaches every block in one cycle (R245, R251).  A bad one before the lookup leaves nothing
(R152). -/
def verdictFx (s : State) (id : Nat) (good : Bool) : State := asOfLookup s id fun s =>
  match s.frm id with
  | none => s
  | some f =>
    if f.verdict.isSome then s else
    let s := lenKnown (s.setFrm id ({ f with verdict := some good, ended := true }.stampCells s.car.slot)) id good
    if good then (if f.looked then tidy (goodFx s id) id else s)
    else if !f.looked then { s with car := { s.car with frames := mdel s.car.frames id } }
    else
      let s := if f.learn.isSome then s.bump .FDB_LEARN_BAD else s
      let s := dripVerdict (s.modFrm id (fun f => { f with learn := none, meter := none, audit := none, prpWait := false })) id false
      tidy (frameFoundBad (resolveBad s f.src id) id) id

/-- A stitch link goes down (R431): its frames in progress, received and sent, are found bad, its queued copies are
discarded, and the learn notices and messages gathered for it are dropped. -/
def stitchDown (s : State) (l : Nat) : State :=
  let x := s.link l
  let p := 130 + l
  let s := s.setLink l { x with up := false, tx := [], rx := [], notices := [], msgs := [] }
  let s := if l = 0 then { s with twin := { s.twin with rx := none } } else s
  let s := if x.up then purgePort (s.bump .TWN_LINK_DROPS l) p true else s
  (x.rx.filterMap (·.2)).foldl (fun s id => verdictFx s id false) s

/-- The MAC ends a frame in reception for lack of B2 credit (R24, R153, R249). -/
def rxNoCredit (s : State) (p : Nat) (x : RxSt) : RxSt × State :=
  let s := occ (macCount s p 24) (portBlock p) 0x16 (portSub p)
  ({ x with noCredit := true, fid := none }, match x.fid with
    | some id => verdictFx s id false
    | none => s)

/-- Bytes of a frame arrive (R13, R150): they are added to the frame, cut at MAX_LEN; a frame longer than MAX_LEN has its bad
verdict at once. -/
def rxAdd (s : State) (p : Nat) (x : RxSt) (bs : Bytes) : RxSt × State :=
  let all := x.bytes ++ bs
  let x := { x with bytes := all }
  match x.fid with
  | none => (x, s)
  | some id =>
    let s := s.modFrm id (fun f => if f.ended then f else { f with bytes := all.take x.maxLen }.stampCells s.car.slot)
    let s := dripFollow (lookupResume s id) id
    if all.length > x.maxLen then (x, verdictFx s id false)
    else if b2Used s p > 128 * b2Depth s p then rxNoCredit s p x else (x, s)

/-- Bytes of the express frame in reception at port `p` arrive. -/
def rxBytes (s : State) (p : Nat) (bs : Bytes) : State :=
  match (s.mac p).rx with
  | none => s
  | some x =>
    let r := rxAdd s p x bs
    r.2.setMac p { (r.2.mac p) with rx := some r.1 }

/-- The 96th byte of a frame, or its end, reaches the pipeline of port `p` (R30, R193).  `bytes` are those that arrived since
the last slot.  A pipeline that is not awake leaves the frame at B2, one that holds takes it in behind the frames that it holds, for
frames pass a pipeline in order (R24, R25); one whose wrapper is closed discards it (R104). -/
def lookupStart (s : State) (p : Nat) (bytes : Bytes) : State :=
  let s := if p < 130 then rxBytes s p bytes else s
  let k := pipeOf p
  match nextLookup s p with
  | none => pipeGo s k
  | some (id, f) =>
    if closed s (pipeBlock k) then isoDiscard { s with car := { s.car with frames := mdel s.car.frames id } } (pipeBlock k)
    else if !lookupBegins f then s
    else if neverLooked s f then lookupFrame s id f
    else if domOn s (pipeDom k) then lookupResume (s.setFrm id { f with started := true }) id
    else if lookupLeft s f then lookupWild s id f
    else s

/-- Admission decides for the oldest frame of port `p` whose lookup has begun and that is not decided (R242).  One whose lookup waits
for the byte that tells whether it reaches beyond its FCS is admitted after it (log entry 108). -/
def admission (s : State) (p : Nat) : State :=
  match s.car.frames.find? (fun f => f.2.src == p && (f.2.looked || (f.2.started && f.2.enter == 0 && !f.2.admitDue)) &&
    !f.2.decided && !f.2.gone) with
  | some (id, f) => if f.looked then asOfLookup s id (fun s => admitFrame s id) else s.setFrm id { f with admitDue := true }
  | none => s

/-! ## The verdict (R151 to R154, R163) -/

/-- The error counter of a bad frame, in the order of R151; `none` for a good one. -/
def rxError (x : RxSt) (pre codeErr : Bool) : Option Nat :=
  let n := x.bytes.length
  let good := fcsGood x.bytes
  if x.asmBad || (pre && !good) then some 51
  else if codeErr then some 19
  else if n > x.maxLen then some (if good then 22 else 23)
  else if !good then some (if n < 64 then 21 else 18)
  else if n < 64 then some 20
  else none

/-- The end of frame `id` reaches its pipeline: a lookup that waits for it is carried out before the verdict (R30, R178). -/
def frameEnds (s : State) (id : Nat) : State :=
  lookupResume (s.modFrm id (fun f => if f.started && !f.looked then { f with ended := true }.stampCells s.car.slot else f)) id

/-- A received frame ends at port `p` and its verdict is formed (R151). -/
def rxVerdict (s : State) (p : Nat) (x : RxSt) (pre codeErr : Bool) : State :=
  let n := x.bytes.length
  if x.noCredit then countRxAll s p n else
  match rxError x pre codeErr with
  | some c =>
    let s := countRxBad s p n c
    match x.fid with
    | some id => verdictFx (frameEnds s id) id false
    | none => s
  | none =>
    let s := countRxGood s p x.bytes
    let s := if pre && x.frags ≥ 2 then macCount s p 50 else s
    match x.fid with
    | some id =>
      if beAt x.bytes 12 2 = 0x8808 then { s with car := { s.car with frames := mdel s.car.frames id } }
      else verdictFx (frameEnds s id) id true
    | none => s

/-- An error that fell in a frame at port `p` (R138, R147): 1 a code error, 2 an overflow or underrun of a receive FIFO of its lane,
which sets FIFO_ERR, 3 an uncorrectable FEC block, which is counted and sets its flag. -/
def rxErrNote (s : State) (p err : Nat) : State :=
  let l := portLane p
  if err = 2 then s.setFlags .LN_STATUS l 0 2
  else if err = 3 then (s.bump .LN_FEC_UNCORR l).setFlags .LN_STATUS l 0 64
  else s

/-- The MAC's verdict on the frame that ends at port `p` (R151, R245): `pre` for the preemptable frame under reassembly,
`tail` the bytes that arrived since the last slot, and the error that fell in it, 0 for none. -/
def fcsVerdict (s : State) (p : Nat) (pre : Bool) (tail : Bytes) (err : Nat) : State :=
  let m := s.mac p
  match (if pre then m.asm else m.rx) with
  | none => s
  | some x =>
    let r := rxAdd (rxErrNote s p err) p x tail
    let s := r.2.setMac p (if pre then { (r.2.mac p) with asm := none } else { (r.2.mac p) with rx := none })
    rxVerdict s p r.1 pre (err != 0 || r.1.code)

/-! ## Preemption on receive (R163) -/

/-- What an mPacket's SMD says: a first fragment, a continuation, or nothing that R163 knows. -/
def smdErr (s : State) (p : Nat) : State := macCount s p 52

/-- Reassembly of the frame under reassembly fails (R163): it is bad at once, and its further fragments are discarded.  One that was
discarded for want of credit counts in no further counter (R153). -/
def asmFail (s : State) (p : Nat) (x : RxSt) : State :=
  if x.asmBad then s else
  let s := if x.noCredit then countRxAll s p x.bytes.length else countRxBad s p x.bytes.length 51
  let s := match x.fid with
    | some id => verdictFx s id false
    | none => s
  s.setMac p { (s.mac p) with asm := some { x with asmBad := true, fid := none } }

/-- A fragment's data joins the frame under reassembly. -/
def asmAdd (s : State) (p : Nat) (x : RxSt) (data : Bytes) (final mcrcOk : Bool) : State :=
  let r := rxAdd s p x data
  let s := r.2.setMac p { (r.2.mac p) with asm := some r.1 }
  if !final && (!mcrcOk || decide (data.length + 4 < 64)) then asmFail s p r.1 else s

/-- An mPacket that carries a fragment arrives at port `p` (R163): its SMD (0 SMD-S, 1 SMD-C, other values not recognised), its
fragment count, its data without the mCRC, whether it is the final one, and whether its mCRC is right.  The verdict on a
final fragment follows with FCS_VERDICT. -/
def fragmentRx (s : State) (p half smd frag : Nat) (data : Bytes) (final mcrcOk : Bool) : State :=
  if p < 130 && portPresent s p && closed s (portBlock p) then (if smd = 0 then isoDiscard s (portBlock p) else s)
  else if !rxGoing s p then s
  else if smd > 1 ∨ !tst (s.rw .MAC_MM_CFG p) 31 then smdErr s p
  else if smd = 0 then
    if !rxReady s p then s else
    let s := match (s.mac p).asm with
      | some x => asmFail s p x
      | none => s
    let r := rxOpen s p half
    asmAdd r.2 p { r.1 with frags := 1, expect := 0 } data final mcrcOk
  else
    match (s.mac p).asm with
    -- a frame that began during a disable is not received: its continuations reach no counter (R172)
    | none => if rxReady s p then countRxBad s p data.length 51 [(49, 1)] else s
    | some x =>
      let s := macCount s p 49
      -- the octets of a frame that has failed go on counting (R175)
      let octets (s : State) : State :=
        let s := bwCount (macCount s p 1 data.length) true p data.length
        if final then s.setMac p { (s.mac p) with asm := none } else s
      if x.asmBad then octets s
      else if frag % 4 ≠ x.expect then octets (asmFail s p x)
      else asmAdd s p { x with frags := x.frags + 1, expect := (x.expect + 1) % 4 } data final mcrcOk

/-! ## Link down (R155, R174) -/

/-- The frames in reception at port `p` are cut off by the loss of its link: each ends there, with a code error (R151, R174). -/
def rxCut (s : State) (p : Nat) : State :=
  let m := s.mac p
  let s := s.setMac p { m with rx := none, asm := none }
  let s := match m.rx with
    | some x => rxVerdict s p x false true
    | none => s
  match m.asm with
  | some x => if x.asmBad then s else rxVerdict s p x false true
  | none => s

/-- A port's link goes down (R174): its frames in progress are lost, its queued frames are discarded, those of its control queue with
them, what it discards is counted, low-power idle and a sleep of its transmit path end (R170), and a link-down flush starts
(R223). -/
def linkDownFx (s : State) (p : Nat) : State :=
  if !(s.mac p).link then s else
  let s := rxCut s p
  let q := (s.mac p).ctlq
  let s := s.setMac p { (s.mac p) with
    link := false, ver := verRest s p, tries := 0, tx := none, txP := none, txLpi := false, rxLpi := false, ctlq := [], ownPulse := false }
  let s := q.foldl (fun s x => match x.2 with
    | some (o, k) => lbmGive s o k
    | none => s) (macCount s p 42 q.length)
  let s := macCount (purgePort s p true) p 47
  let s := pathKept (s.setFlags .MAC_STATUS p 0 2) p
  refreshDormant (linkdownFlush { s with hot := { s.hot with doze := s.hot.doze.filter (· != p) } } p)

/-- Remote fault is received, and local fault no longer (R155): FAULT, the link counts as down (log entry 111), and the MAC sends
idle only. -/
def remoteFault (s : State) (p : Nat) : State :=
  if p < 130 && portPresent s p && faultMode (laneMode s (portLane p)) && !(s.mac p).rf then
    ((linkDownFx (s.setMac p { (s.mac p) with rf := true, lf := false }) p).setFlags .MAC_STATUS p 0 4).emit (.signal p (some false))
  else s

/-- Local fault is received, and remote fault no longer (R155): the link is down and remote fault is sent. -/
def localFault (s : State) (p : Nat) : State :=
  if p < 130 && portPresent s p && faultMode (laneMode s (portLane p)) && !(s.mac p).lf then
    (linkDownFx (s.setMac p { (s.mac p) with lf := true, rf := false }) p).emit (.signal p (some true))
  else s

end Sys2Proof.Machine
end

