-- ==== Sys2Proof/Machine/Slots.lean ====
section
/-!
DEFINITION. Machine/Slots.lean: the Carafe's slots: cell writes, cell reads with S5, scrubbing and aging
(10_carafe.md R229 to R253).
-/
namespace Sys2Proof.Machine

/-! ## Memory errors (R230) -/

/-- A single-bit error was corrected (R230). -/
def eccCorr (s : State) : State := (occ (s.bump .CAR_ECC_CORR) 17 0x07 0).setFlags .CAR_STATUS 0 0 1

/-- An uncorrectable error was met at a cell pointer (R230). -/
def eccUncorr (s : State) (ptr : Nat) : State :=
  ((occ (s.bump .CAR_ECC_UNCORR) 17 0x07 0).wr .CAR_ECC_PTR 0 0 (wd ptr)).setFlags .CAR_STATUS 0 0 2

/-- An error stands in cell `ptr`: every later read of the cell meets it, until the cell is written (R230, R233). -/
def cellBad (s : State) (ptr : Nat) (uncorr : Bool) : State :=
  { s with car := { s.car with bad := mins s.car.bad ptr uncorr } }

/-- A read of cell `ptr` corrects or meets the error that stands in it (R230, R233). -/
def cellRead (s : State) (ptr : Nat) : State :=
  match mfind s.car.bad ptr with
  | some true => eccUncorr s ptr
  | some false => eccCorr s
  | none => s

/-! ## Writes (R232, R234, R237, R239) -/

/-- The bytes of a frame that cell `i` holds now. -/
def cellPart (f : CFrame) (i : Nat) : Nat := min f.bytes.length (128 * (i + 1)) - 128 * i

/-- The content of cell `ptr` after `bs` is written from offset `o`; a write stores fresh code words. -/
def writeCell (s : State) (ptr o : Nat) (bs : Bytes) : State :=
  let v := patch (slice (mget [] s.car.mem ptr) 0 128) o bs
  { s with car := { s.car with mem := mput [] s.car.mem ptr (if v.all (· == 0) then [] else v), bad := mdel s.car.bad ptr } }

/-- The cells of a frame that are due at bank `b`, with the slot in which each became complete: the rest of cell 0, or a
later complete cell not yet written (R234). -/
def dueCells (f : CFrame) (b : Nat) : List (Nat × Nat) :=
  match mfind f.cells 0 with
  | none => []
  | some p0 =>
    let b0 := p0 / 32768
    (f.ctimes.zipIdx.filter (fun c => (b0 + c.2) % 16 == b &&
      (if c.2 = 0 then decide (f.head < cellPart f 0) else (mfind f.cells c.2).isNone))).map (fun c => (c.1, c.2))

/-- A frame still to be written: looked up and not discarded.  A frame whose lookup gives no copy has its head written all the same
(R234), and no more once it is discarded (R242). -/
def writing (f : CFrame) : Bool := f.looked && !f.bad && (!f.gone || (f.cells.isEmpty && !f.decided))

/-- The due cell of feed `d` at bank `b` that became complete first: frame and cell. -/
def feedDue (s : State) (d b : Nat) : Option (Nat × Nat) :=
  let c := (s.car.frames.filter (fun f => f.2.feed == d && writing f.2)).flatMap (fun f => (dueCells f.2 b).map (fun x => (x.1, f.1, x.2)))
  match c with
  | [] => none
  | h :: t =>
    let r := t.foldl (fun a x => if x.1 < a.1 then x else a) h
    some (r.2.1, r.2.2)

/-- The frame of feed `d` whose head waits longest (R234). -/
def feedHead (s : State) (d : Nat) : Option Nat :=
  (s.car.frames.find? (fun f => f.2.feed == d && writing f.2 && f.2.cells.isEmpty)).map (·.1)

/-- The length of a frame's head write: the first 96 bytes; the whole of cell 0 of a frame that the device originates. -/
def headBytes (f : CFrame) : Nat := min f.bytes.length (if f.src < 133 then 96 else 128)

/-- Feed `d` writes cell `i` of a frame to bank `b` (R234, R237); an empty free list makes the frame bad (R239). -/
def writeOne (s : State) (d b id i : Nat) : State :=
  match s.frm id with
  | none => s
  | some f =>
    let old := mfind f.cells i
    match (match old with
      | some p => some p
      | none => takeCell s b) with
    | none =>
      -- with reservations beyond the pool, what becomes of such a frame is free (R256)
      let t := (s.bump .CAR_BANK_EMPTY).setFlags .CAR_STATUS 0 0 4
      if poolOpen s && t.free % 2 == 1 then (copiesOf t id).foldl wildCopy t.drawn else frameFoundBad t id
    | some ptr =>
      let n := if i = 0 ∧ old.isNone then headBytes f else cellPart f i
      let o := if i = 0 ∧ old.isSome then f.head else 0
      let s := if old.isNone then s.drawn else s
      let s := occ (writeCell s ptr o (slice f.bytes (128 * i + o) (n - o))) 17 0x10 d
      s.setFrm id { f with cells := mins f.cells i ptr, head := if i = 0 then n else f.head }

/-- The cell that feed `d` would write to bank `b`: frame and cell: its due cell, else a head (R232, R234). -/
def feedPick (s : State) (d b : Nat) : Option (Nat × Nat) :=
  match feedDue s d b with
  | some x => some x
  | none => (feedHead s d).map (fun id => (id, 0))

/-- The write of feed `d` in slot `k` (R232, R234).  A write to a sleeping bank waits for its wake (R25, R118); a bank that the host
has left asleep leaves the traffic that needs it free (R120). -/
def feedWrite (s : State) (k d : Nat) : State :=
  let b := (d + k) % 16
  match feedPick s d b with
  | none => s
  | some (id, i) =>
    if domOn s (186 + b) then writeOne s d b id i
    else if leftAsleep s (186 + b) then (copiesOf s id).foldl wildCopy s
    else s

/-! ## Reads (R230, R232, R235) -/

/-- The bytes of a frame written in order from its start: what a drain may read. -/
def written (f : CFrame) : Nat :=
  if f.head < 128 then f.head
  else
    let n := ((List.range (ceilDiv f.bytes.length 128)).takeWhile (fun i => (mfind f.cells i).isSome)).length
    min f.bytes.length (128 * n)

/-- The bytes of a copy that its MAC has sent, by the time since its transmission began or resumed: 8 byte times of preamble come
first. -/
def sentNow (s : State) (c : CCopy) : Nat :=
  if !c.begun then 0
  else if c.susp then c.sent
  else c.sent + ((s.monoPs - c.beg) / bytePs s c.port - 8)

/-- The B8 cells that a copy holds (R24): those read and not sent. -/
def b8Of (s : State) (c : CCopy) : Nat := ceilDiv c.read 128 - sentNow s c / 128

/-- The B8 cells of port `p` (R24): 24 for each of its lanes, those of a lane shared by the sub-ports of a quad-port mode (log entry
31). -/
def b8Depth (s : State) (p : Nat) : Nat :=
  if p < 128 && quadMode (laneMode s (portLane p)) then 6 else if p = 130 then 96 else if p = 131 ∨ p = 132 then 48 else 24

/-- B8 takes a cell of a copy (R24, R156): its port has room; on a port with preemption active the express and the preemptable queue
have half of it each. -/
def b8Room (s : State) (c : CCopy) : Bool :=
  let mine := s.car.copies.filter (fun x => x.port == c.port)
  let n := b8Depth s c.port
  decide (sumN (mine.map (b8Of s)) < n) &&
    (!mmActive s c.port || decide (sumN ((mine.filter (fun x => x.express == c.express)).map (b8Of s)) < n / 2))

/-- Domain `d` serves a frame: it is awake, or it shuts down and has begun that frame, which it then finishes (R121). -/
def domServes (s : State) (d : Nat) (begun : Bool) : Bool := domOn s d || ((s.dom d).st == .sleeping && begun)

/-- The table banks in which S5 is looked up are awake, or the copy has passed S5: its lookup waits for their wake (R118, R191). -/
def s5Ready (s : State) (c : CCopy) : Bool :=
  c.s5.isSome || c.port == 133 || (regionBanks s 3).all (fun b => decide (16 ≤ b) || domOn s (202 + b))

/-- The drain's path to the port of a copy takes a cell: its egress pipeline is awake, or finishes the copy, and is not isolated, S5
can be looked up, and B8 has room (log entry 31). -/
def drainOpen (s : State) (c : CCopy) : Bool :=
  (if c.port < 128 then domServes s (178 + c.port / 16) (decide (0 < c.read)) && !closed s (c.port / 16) else !closed s 16) &&
    s5Ready s c && b8Room s c

/-- The copy that drain `d` reads at bank `b`: the one issued earliest whose next unread cell lies there, written at least
in part (R235).  A read of a sleeping bank waits for its wake (R118). -/
def drainDue (s : State) (d b : Nat) : Option (CCopy × Nat) :=
  let c := s.car.copies.filterMap (fun c =>
    if c.issued = 0 ∨ feedOf c.port ≠ d ∨ !drainOpen s c ∨ !domOn s (186 + b) then none else
    match s.frm c.frame with
    | none => none
    | some f =>
      match mfind f.cells (c.read / 128) with
      | none => none
      | some p => if p / 32768 = b ∧ c.read < written f then some (c, p) else none)
  match c with
  | [] => none
  | h :: t => some (t.foldl (fun a x => if x.1.issued < a.1.issued then x else a) h)


/-- The egress pipeline takes a copy's cell 0 (R191): S5 is looked up once, and may drop the copy before its first byte.  Port 133
has no MAC, and no S5. -/
def egressS5 (s : State) (c : CCopy) : State :=
  match c.s5, s.frm c.frame with
  | none, some f =>
    if c.port = 133 then s.modCpy (fun x => x.id == c.id) (fun x => { x with s5 := some 0 }) else
    let k := pipeOf c.port
    let r := stageS5 s f c.port c.queue
    let s := occ (occ r.2 (pipeBlock k) 0x21 (pipeSub c.port)) (pipeBlock k) 0x22 (pipeSub c.port) f.bytes.length
    if tst r.1 31 then dropCopy (s.bump .CLS_EG_DROPS k) c
    else
      let s := s.modCpy (fun x => x.id == c.id) (fun x => { x with s5 := some r.1 })
      -- an edit that takes the frame beyond MAX_LEN leaves the copy free (R200)
      if f.ended && overLong s f { c with s5 := some r.1 } then wildCopy s c else s
  | _, _ => s

/-- Drain `d` reads in slot `k` (R232, R235); `ecc` is `some true` for an uncorrectable error in what it reads and `some
false` for a corrected one (R230). -/
def drainRead (s : State) (k d : Nat) (ecc : Option Bool) : State :=
  match drainDue s d ((d + k + 8) % 16) with
  | none => s
  | some (c, ptr) =>
    match s.frm c.frame with
    | none => s
    | some f =>
      let s := occ s 17 0x11 d
      let s := s.modCpy (fun x => x.id == c.id) (fun x => { x with read := min (written f) (128 * (c.read / 128 + 1)) })
      match (match ecc with
        | some e => some e
        | none => mfind s.car.bad ptr) with
      | some true => copyFoundBad (eccUncorr (cellBad s ptr true) ptr) c
      | some false => asOfLookup (eccCorr (cellBad s ptr false)) c.frame (fun s => egressS5 s c)
      | none => asOfLookup s c.frame (fun s => egressS5 s c)

/-- A frame without a copy is decided once its head has been written (R234, R242). -/
def headsDone (s : State) : State :=
  let f (x : Nat × CFrame) : Nat × CFrame :=
    if x.2.gone && !x.2.decided && !x.2.cells.isEmpty then (x.1, { x.2 with decided := true }) else x
  { s with car := { s.car with frames := s.car.frames.map f } }

/-- One 4 ns slot (R232): copies become eligible at its boundary (R246); the drains read what earlier slots wrote, the feeds
write, and the bytes that each port receives during the slot join its frame. -/
def carafeSlot (s : State) (rx : List (Nat × Bytes)) (ecc : List (Nat × Bool)) : State :=
  let arrive (s : State) : State := rx.foldl (fun s r => rxBytes s r.1 r.2) s
  if closed s 17 then arrive s else
  let k := s.car.slot
  let s := (List.range 12).foldl (fun s d => drainRead s k d (mfind ecc d)) s
  let s := (List.range 12).foldl (fun s d => feedWrite s k d) s
  let s := headsDone s
  let s := (s.car.frames.map (·.1)).foldl tidy s
  let s := arrive s
  pipesGo (makeEligible { s with car := { s.car with slot := k + 1 } })

/-- The scrubber reads one cell of each bank (R231); `errs` names the banks in which its read met an error, `true` for an
uncorrectable one.  A corrected cell is written back. -/
def scrubRead (s : State) (errs : List (Nat × Bool)) : State :=
  if !tst (s.rw .CAR_CFG) 31 || closed s 17 then s else
  let i := s.car.scrub
  let s := ((List.range 16).filter (fun b => domOn s (186 + b))).foldl (fun s b =>
    let ptr := b * 32768 + i
    match (match mfind errs b with
      | some e => some e
      | none => mfind s.car.bad ptr) with
    | some true => eccUncorr (cellBad s ptr true) ptr
    | some false => eccCorr { s with car := { s.car with bad := mdel s.car.bad ptr } }
    | none => s) s
  { s with car := { s.car with scrub := (i + 1) % 32768 } }


end Sys2Proof.Machine
end

