-- ==== Sys2Proof/Machine/Sched.lean ====
section
/-!
DEFINITION. Machine/Sched.lean: the schedulers: gate lists and their changeover, ball time, the fit test, shapers, selection
(11_scheduling.md R257 to R274, R282).
-/
namespace Sys2Proof.Machine

/-! ## Gate-control lists (R264 to R268) -/

/-- A port's gate list: first pool entry, length, base time in nanoseconds, cycle and extension. -/
structure GList where
  first : Nat
  start : Nat
  len : Nat
  baseNs : Nat
  base : Int
  cyc : Nat
  ext : Nat
deriving DecidableEq, Repr

/-- A time of three registers, in nanoseconds. -/
def timeNs (hi lo ns : Nat) : Nat := (hi * 2 ^ 32 + lo) * 1000000000 + ns

/-- GCL_UNITS of port `p` (R68). -/
def gclUnits (s : State) (p : Nat) : Nat := fld (portRec s p).2 0 13

/-- The administrative list of port `p`. -/
def adminList (s : State) (p : Nat) : GList :=
  let w := s.rw .SCH_ADMIN_LIST p
  let ns := s.rn .SCH_ADMIN_BASE_NS p
  { first := 16 * fld (portRec s p).2 16 12 + fld w 16 16, start := fld w 16 16, len := fld w 0 16, baseNs := ns,
    base := timeNs (s.rn .SCH_ADMIN_BASE_SEC_HI p) (s.rn .SCH_ADMIN_BASE_SEC_LO p) ns,
    cyc := s.rn .SCH_ADMIN_CYCLE p, ext := s.rn .SCH_ADMIN_EXT p }

/-- The operating list of port `p`. -/
def operList (s : State) (p : Nat) : GList :=
  let w := s.rw .SCH_OPER_LIST p
  let ns := s.rn .SCH_OPER_BASE_NS p
  { first := 16 * fld (portRec s p).2 16 12 + fld w 16 16, start := fld w 16 16, len := fld w 0 16, baseNs := ns,
    base := timeNs (s.rn .SCH_OPER_BASE_SEC_HI p) (s.rn .SCH_OPER_BASE_SEC_LO p) ns,
    cyc := s.rn .SCH_OPER_CYCLE p, ext := s.rn .SCH_OPER_EXT p }

/-- One list entry (R264, R265): OP, GATES and INTERVAL, and whether its parity is good. -/
structure GEnt where
  op : Nat
  gates : Nat
  interval : Nat
  ok : Bool
deriving DecidableEq, Repr

/-- Entry `j` of a list: one with a parity error acts as SetGateStates with every gate closed (R265). -/
def gEnt (s : State) (l : GList) (j : Nat) : GEnt :=
  let e := entryAt s 6 (l.first + j)
  let w := e.getD 0 0
  let i := (e.getD 1 0).toNat
  if parOk 6 e then ⟨fld w 30 2, fld w 0 16, i, true⟩ else ⟨0, 0, i, false⟩

/-- The range of port `p` overlaps another port's, or reaches beyond the gate-list region (R82). -/
def gRangeBad (s : State) (p : Nat) : Bool :=
  let a := fld (portRec s p).2 16 12
  let n := gclUnits s p
  n != 0 && (decide (16 * (a + n) > regionSize s 6) || ((List.range 134).filter (· != p)).any (fun q =>
    decide (a < fld (portRec s q).2 16 12 + gclUnits s q) && decide (fld (portRec s q).2 16 12 < a + n) && gclUnits s q != 0))

/-- A host error of R82 or R283 in a list, which leaves it open what the gates of its port do.  An entry with a parity error is no
error of the host: it acts as R265 says, and what its words hold is not judged. -/
def gBad (s : State) (p : Nat) (l : GList) : Bool :=
  let es := (List.range l.len).map (fun j => entryAt s 6 (l.first + j))
  gRangeBad s p ||
  l.len == 0 || decide (l.start + l.len > 16 * gclUnits s p) || decide (l.cyc < 1000) || decide (l.cyc > 4000000000) ||
    decide (l.baseNs > 999999999) || (es.all (parOk 6) && sumN (es.map (fun e => (e.getD 1 0).toNat)) != l.cyc) ||
    (es.filter (parOk 6)).any (fun e => decide ((e.getD 1 0).toNat < 64) || decide ((e.getD 1 0).toNat > 4000000000) ||
      fld (e.getD 0 0) 30 2 == 3 || fld (e.getD 0 0) 16 12 != 0)

/-- The table banks that hold a list are awake: a read of an entry waits for their wake (R118). -/
def listAwake (s : State) (l : GList) : Bool :=
  let lo := bankOf (entryAddr s 6 l.first)
  let hi := bankOf (entryAddr s 6 (l.first + l.len - 1) + entryWords 6 - 1)
  (List.range (hi + 1 - lo)).all (fun i => decide (16 ≤ lo + i) || domOn s (202 + (lo + i)))

/-- A place in a list: which list, the entry, the starts of the entry and of its cycle, and the entry's interval. -/
structure GPos where
  admin : Bool
  j : Nat
  start : Int
  cyc : Int
  len : Nat
deriving DecidableEq, Repr

/-- CHANGE_TIME in nanoseconds. -/
def changeTime (s : State) (p : Nat) : Int :=
  (timeNs (s.rn .SCH_CHANGE_SEC_HI p) (s.rn .SCH_CHANGE_SEC_LO p) (s.rn .SCH_CHANGE_NS p) : Nat)

/-- The place of the entry in effect, with the interval that it had when it started (R267); `none` while no list runs. -/
def gPos (s : State) (p : Nat) : Option GPos :=
  let x := s.sch p
  if x.running then some ⟨false, x.entry, x.start, x.cycle, x.ival⟩ else none

/-- The first entry of the administrative list, at CHANGE_TIME. -/
def changePos (s : State) (p : Nat) : GPos :=
  ⟨true, 0, changeTime s p, changeTime s p, (gEnt s (adminList s p) 0).interval⟩

/-- The next entry start after a place (R266, R271): the next entry, the next cycle, or a pending change. -/
def gNext (s : State) (p : Nat) (pos : Option GPos) : Option GPos :=
  let ct := changeTime s p
  let change : Option GPos := if (s.sch p).pending then some (changePos s p) else none
  let walk (l : GList) (x : GPos) : GPos :=
    if x.j + 1 < l.len then ⟨x.admin, x.j + 1, x.start + x.len, x.cyc, (gEnt s l (x.j + 1)).interval⟩
    else ⟨x.admin, 0, x.cyc + l.cyc, x.cyc + l.cyc, (gEnt s l 0).interval⟩
  match pos with
  | none => change
  | some x =>
    if x.admin then some (walk (adminList s p) x)
    else
      let l := operList s p
      let n := walk l x
      match change with
      | none => some n
      | some c =>
        if (n.j = 0 ∧ ct - x.cyc < l.cyc + l.ext) ∨ n.start ≥ ct then some c else some n

/-- A new list has been written over entries of the operating one, and its change has not taken effect yet (R272, R283; log
entry 106). -/
def listOver (s : State) (p : Nat) : Bool :=
  let a := adminList s p
  let o := operList s p
  (s.sch p).rewr && (s.sch p).pending && decide (a.start < o.start + o.len) && decide (o.start < a.start + a.len)

/-- A host error leaves the gates at a place open. -/
def placeBad (s : State) (p : Nat) (x : GPos) : Bool :=
  if x.admin then gBad s p (adminList s p) else gBad s p (operList s p) || listOver s p

/-- The gates at a place; a list with a host error leaves them to a free value (R283). -/
def gGates (s : State) (p : Nat) (x : GPos) : Nat :=
  if placeBad s p x then s.free % 65536 else (gEnt s (if x.admin then adminList s p else operList s p) x.j).gates

/-- The gates of port `p` now: permanently open without a range (R68). -/
def gatesNow (s : State) (p : Nat) : Nat := if gclUnits s p = 0 then 0xFFFF else (s.sch p).gates

/-- Whether the gate of queue `q` is open at `ball`, and when it closes first after that, within `n` entries (R269). -/
def gateWalk (s : State) (p q : Nat) (ball : Int) : Nat → Option GPos → Bool → Bool × Option Int
  | 0, _, op => (op, none)
  | n + 1, pos, op =>
    match gNext s p pos with
    | none => (op, none)
    | some x =>
      let o := (gGates s p x).testBit q
      if x.start ≤ ball then gateWalk s p q ball n (some x) o
      else if !op then (false, none)
      else if !o then (true, some x.start)
      else gateWalk s p q ball n (some x) o

/-- The gate of queue `q` at `ball`, and its close instant, looking ahead to `horizon` and 100 µs beyond: entries last at
least 64 ns. -/
def gateAt (s : State) (p q : Nat) (ball horizon : Int) : Bool × Option Int :=
  if gclUnits s p = 0 then (true, none)
  else gateWalk s p q ball (((horizon - s.now).toNat + 100000) / 64 + 4) (gPos s p) ((s.sch p).gates.testBit q)

/-- The first opening of queue `q` within `n` entries after a place (R274). -/
def openWalk (s : State) (p q : Nat) : Nat → Option GPos → Bool → Option Int
  | 0, _, _ => none
  | n + 1, pos, was =>
    match gNext s p pos with
    | none => none
    | some x =>
      let o := (gGates s p x).testBit q
      if o && !was then some x.start else openWalk s p q n (some x) o

/-- The next opening of queue `q`, a pending change included (R274). -/
def nextOpening (s : State) (p q : Nat) : Option Int :=
  let was := (s.sch p).gates.testBit q
  match openWalk s p q ((operList s p).len + 1) (gPos s p) was with
  | some t => some t
  | none =>
    if !(s.sch p).pending then none else
    let x := changePos s p
    let o := (gGates s p x).testBit q
    if o && !was then some x.start else openWalk s p q ((adminList s p).len + 1) (some x) o

/-- Launch times that a sleeping path of port `p` treats as openings (R349). -/
def launchTimes (s : State) (p : Nat) : List Nat :=
  (s.ept.launches.filter (fun l =>
    ((destPorts s 8 { destKind := tst (l.pfx.getD 2 0) 23, dest := fld (l.pfx.getD 2 0) 0 14 }).1).contains p)).map (·.t) ++
  (s.car.copies.filter (fun c => c.port == p && !c.begun)).filterMap (fun c => (s.frm c.frame).bind (fun f => f.launch.map (·.1)))

/-- Every next opening of port `p` (R125, R274), in nanoseconds. -/
def allOpenings (s : State) (p : Nat) : List Nat :=
  (if gclUnits s p = 0 then [] else (List.range (queueCount p)).filterMap (fun q => (nextOpening s p q).map Int.toNat)) ++
    (launchTimes s p).filter (fun t => t > s.now)

/-- The earliest of them. -/
def minOpening (s : State) (p : Nat) : Nat := (allOpenings s p).foldl min ((allOpenings s p).headD 0)

/-- The next opening of a sleeping transmit path is posted to the Hotplate, in place of the one that stood there (R125, R349). -/
def repost (s : State) (p : Nat) : State :=
  if !s.hot.txAsleep.contains p then s
  else
    let rest := s.hot.leads.filter (fun q => q.1 != p)
    { s with hot := { s.hot with leads := if (allOpenings s p).isEmpty then rest else (p, minOpening s p) :: rest } }

/-- The same for every sleeping transmit path: what it waits for has changed. -/
def repostAll (s : State) : State := s.hot.txAsleep.foldl repost s

/-- A frame is queued for port `p` in a queue whose gate is open (R125). -/
def openQueued (s : State) (p : Nat) : Bool := s.car.copies.any (fun c => c.port == p && (gatesNow s p).testBit c.queue)

/-! ## Shapers (R263) -/

/-- Queue `q` of port `p` uses the preemptable queue of its MAC (R158). -/
def preemptable (s : State) (p q : Nat) : Bool := mmActive s p && q < 8 && tst (s.rw .MAC_MM_CFG p) q

/-- A credit after `dt` ns at a rate in kb/s, at most its burst. -/
def grow (rate burst : Nat) (c : Int) (dt : Nat) : Int := min (burst * 8000000 : Nat) (c + (rate * dt : Nat))

/-- RATE and BURST of queue `q`. -/
def qRate (s : State) (p q : Nat) : Nat := s.within 0 25000000 (s.rn .SCH_Q_RATE p q)

/-- The credits of port `p` brought up to the present tick (R263): a queue's credit holds while its gate is closed or, for a
preemptable queue, under hold; the port's while every gate is closed. -/
def schSync (s : State) (p : Nat) : State :=
  let x := s.sch p
  let dt := 4 * (s.time.ticks - x.tick)
  if dt = 0 then s else
  let g := gatesNow s p
  let qs := List.range (queueCount p)
  let cr := qs.foldl (fun m q =>
    if g.testBit q && !(preemptable s p q && x.hold) then
      mput 0 m q (grow (qRate s p q) (s.rn .SCH_Q_BURST p q) (mget 0 x.credit q) dt)
    else m) x.credit
  let pc := if qs.any (fun q => g.testBit q) then
      grow (s.within 0 25000000 (s.rn .SCH_PORT_RATE p)) (s.rn .SCH_PORT_BURST p) x.portCredit dt
    else x.portCredit
  s.setSch p { x with credit := cr, portCredit := pc, tick := s.time.ticks }

/-- The shaper of queue `q` of port `p` is enabled, and that of the port. -/
def qShaped (s : State) (p q : Nat) : Bool := tst (s.rw .SCH_Q_CFG p q) 31
def portShaped (s : State) (p : Nat) : Bool := tst (s.rw .SCH_CFG p) 30

/-- The age in ns of the copies of a frame: from its admission; for an endpoint launch, from the launch time (R253, R349). -/
def copyAge (s : State) (f : CFrame) : Nat :=
  match f.launch with
  | some (t, _) => s.now - t
  | none => s.mono - f.born

/-- The longest run of intervals, in ns, for which a list keeps the gate of queue `q` closed, over two cycles on end: the run so far
and the longest (R256). -/
def closedRun (s : State) (l : GList) (q : Nat) : Nat :=
  ((List.range (2 * l.len)).foldl (fun (a : Nat × Nat) j =>
    let e := gEnt s l (j % l.len)
    let r := if e.gates.testBit q then 0 else a.1 + e.interval
    (r, max a.2 r)) (0, 0)).2

/-- MAX_RES is shorter than the longest interval for which the running list of port `p` keeps queue `q` closed (R256). -/
def resShort (s : State) (p q : Nat) : Bool :=
  (s.sch p).running && decide (1000 * s.rn .CAR_MAX_RES < closedRun s (operList s p) q)

/-- The copy at place `pos` of queue `q` of port `p` has not begun and is older than MAX_RES (R253).  With a MAX_RES shorter than a
closed interval of the queue, its traffic is free (R256). -/
def copyAged (s : State) (p q pos : Nat) : State :=
  match (queueCopies s p q)[pos]? with
  | none => s
  | some c =>
    match s.frm c.frame with
    | none => s
    | some f =>
      if c.begun then s
      else if resShort s p q then wildCopy s c
      else if copyAge s f > 1000 * s.within 1000 8000000 (s.rn .CAR_MAX_RES) then
        dropCopy ((occ (s.bump .CAR_AGED) 17 0x16 (feedOf p)).setFlags .CAR_STATUS 0 0 8) c
      else s

/-- A sent copy's charge to the enabled shapers that it passed (R263): `l` bytes and SHAPE_OVH, never below −10,495 bytes. -/
def schCharge (s : State) (p q l : Nat) : State :=
  let s := schSync s p
  let x := s.sch p
  let c : Int := ((l + s.rf .SCH_CFG p 0 16 8) * 8000000 : Nat)
  let low (on : Bool) (v : Int) : Int := if on then max (-83960000000) (v - c) else v
  s.setSch p { x with
    credit := mput 0 x.credit q (low (qShaped s p q) (mget 0 x.credit q)), portCredit := low (portShaped s p) x.portCredit }

/-- Image application fills every credit (R263). -/
def schFill (s : State) : State :=
  (allPorts s).foldl (fun s p => s.setSch p { (s.sch p) with
    credit := (List.range (queueCount p)).foldl (fun m q => mput 0 m q ((s.rn .SCH_Q_BURST p q * 8000000 : Nat) : Int)) []
    portCredit := (s.rn .SCH_PORT_BURST p * 8000000 : Nat), tick := s.time.ticks }) s

/-- A strobe that changes BURST clamps the credits (R263). -/
def schClamp (s : State) (p : Nat) : State :=
  let x := s.sch p
  s.setSch p { x with
    credit := (List.range (queueCount p)).foldl (fun m q =>
      mput 0 m q (min (mget 0 m q) (s.rn .SCH_Q_BURST p q * 8000000 : Nat))) x.credit
    portCredit := min x.portCredit (s.rn .SCH_PORT_BURST p * 8000000 : Nat) }

/-- The enabled shapers of queue `q` let a copy begin. -/
def creditOk (s : State) (p q : Nat) : Bool :=
  (!qShaped s p q || decide (mget 0 (s.sch p).credit q ≥ 0)) && (!portShaped s p || decide ((s.sch p).portCredit ≥ 0))

/-! ## Gates and hold -/

/-- Hold is asserted at the MAC (R162, R268). -/
def holdOn (s : State) (p : Nat) : State :=
  if (s.sch p).hold then s else
  let s := schSync s p
  occ (macCount ((s.setSch p { (s.sch p) with hold := true }).setMac p { (s.mac p) with hold := true }) p 53) 18 0x14 p

/-- Hold is released. -/
def holdOff (s : State) (p : Nat) : State :=
  let s := schSync s p
  (s.setSch p { (s.sch p) with hold := false }).setMac p { (s.mac p) with hold := false }

/-- The transmit path of front port `p` is ready (R125, R127). -/
def pathReady (s : State) (p : Nat) : Bool :=
  p ≥ 128 || (domOn s (178 + p / 16) && domOn s p && domOn s (128 + p / 4) && !s.hot.txAsleep.contains p)

/-- The transmit path of port `p` is called awake for a gate opening (R125). -/
def pathCalled (s : State) (p : Nat) : State :=
  let s := pathOpen s p
  { s with hot := { s.hot with txWaking := p :: s.hot.txWaking.filter (· != p) } }

/-- The paths called awake that are ready end low-power idle, and wait TW_TX before they send (R127). -/
def txWoken (s : State) : State :=
  s.hot.txWaking.foldl (fun s p =>
    if pathReady s p then lpiExit { s with hot := { s.hot with txWaking := s.hot.txWaking.filter (· != p) } } p else s) s

/-- The gates of port `p` take new states: openings are counted (R402), and an opening before the path is ready is a late
wake (R127). -/
def setGates (s : State) (p g : Nat) : State :=
  let s := schSync s p
  let was := (s.sch p).gates
  let opened := (List.range (queueCount p)).filter (fun q => g.testBit q && !was.testBit q)
  let s := s.setSch p { (s.sch p) with gates := g }
  if opened = [] then s else
  let s := occ s 18 0x13 p opened.length
  if pathReady s p || enState s p != .enabled || !linkUp s p then s
  else
    (((s.bump .HOT_LATE_WAKES).wr .HOT_LATE_INFO 0 0 (put 16 8 p)).setFlags .HOT_STATUS 0 0 1)
      |> fun s => { s with hot := { s.hot with late := mins s.hot.late p s.hot.tick } }

/-- A late path has become ready: its lateness in ticks (R127). -/
def lateReady (s : State) : State :=
  s.hot.late.foldl (fun s x =>
    if pathReady s x.1 then
      { (s.wr .HOT_LATE_INFO 0 0 (put 16 8 x.1 ||| put 0 16 (min 65535 ((s.hot.tick + 2 ^ 32 - x.2) % 2 ^ 32)))) with
        hot := { s.hot with late := mdel s.hot.late x.1 } }
    else s) s

/-- An entry starts (R265 to R268): its gates, and on a port with preemption active its hold. -/
def gateApply (s : State) (p : Nat) (x : GPos) : State :=
  let l := operList s p
  let e := gEnt s l x.j
  let bad := placeBad s p x
  let s := s.setSch p { (s.sch p) with entry := x.j, start := x.start, cycle := x.cyc, ival := x.len }
  let s := if e.ok then s else occ ((s.bump .SCH_PARITY p).setFlags .SCH_STATUS p 0 32) 18 0x07 0
  let s := setGates s p (gGates s p x)
  let s := if bad then s.drawn else s
  if !mmActive s p then s else if e.op = 1 then holdOn s p else if e.op = 2 then holdOff s p else s

/-- The entry of the operating list in effect at the present time (R266, R273): in a cycle that a pending change extends, its last
entry until CHANGE_TIME (R271). -/
def gLocate (s : State) (p : Nat) : GPos :=
  let l := operList s p
  let now : Int := s.now
  let c := l.base + (now - l.base) / l.cyc * l.cyc
  let ct := changeTime s p
  let c := if (s.sch p).pending ∧ ct - (c - l.cyc) < l.cyc + l.ext ∧ now < ct then c - l.cyc else c
  let r := (List.range l.len).foldl (fun (a : Nat × Int × Int) j =>
    let t := a.2.2
    if t ≤ now then (j, t, t + (gEnt s l j).interval) else a) (0, c, c)
  ⟨false, r.1, r.2.1, c, (gEnt s l r.1).interval⟩

/-- The gates that close at a place whose instant the next tick would pass close at this one (R266). -/
def gatesClose (s : State) (p : Nat) (x : GPos) : State :=
  let t := setGates s p ((s.sch p).gates &&& gGates s p x)
  if placeBad s p x then t.drawn else t

/-- The next entry of the operating list starts (R266): its openings at the first tick at or after its instant, with all else
that it does; its closings at the last tick at or before. -/
def gateEntryStart (s : State) (p : Nat) : State :=
  if !(s.sch p).running || closed s 18 then s else
  match gNext s p (gPos s p) with
  | some x =>
    if x.admin ∨ !listAwake s (operList s p) then s
    else if x.start ≤ s.now then gateApply s p x
    else if lastTick s x.start then gatesClose s p x
    else s
  | none => s

/-- A Set-And-Hold-MAC entry starts at or before `till`, within `n` entries after a place (R268). -/
def holdWithin (s : State) (p : Nat) (till : Int) : Nat → Option GPos → Bool
  | 0, _ => false
  | n + 1, pos =>
    match gNext s p pos with
    | some x =>
      decide (x.start ≤ till) &&
        ((gEnt s (if x.admin then adminList s p else operList s p) x.j).op == 1 || holdWithin s p till n (some x))
    | none => false

/-- HOLD_ADVANCE before a Set-And-Hold-MAC entry (R268), the first entry of a pending list included; entries shorter than
HOLD_ADVANCE may lie between. -/
def holdAdvance (s : State) (p : Nat) : State :=
  let adv := s.rf .SCH_GUARD p 0 16 16
  if mmActive s p && !closed s 18 && listAwake s (operList s p) && (!(s.sch p).pending || listAwake s (adminList s p)) &&
      holdWithin s p (s.now + adv) (adv / 64 + 2) (gPos s p) then holdOn s p else s

/-- CHANGE_TIME has come (R271): the administrative list becomes operating and starts.  At the last tick before it, the gates that
it closes close (R266). -/
def configChange (s : State) (p : Nat) : State :=
  let x := s.sch p
  if !x.pending || closed s 18 || !listAwake s (adminList s p) then s
  else if changeTime s p > s.now then (if lastTick s (changeTime s p) then gatesClose s p (changePos s p) else s)
  else
  let s := [(Fam.SCH_ADMIN_LIST, Fam.SCH_OPER_LIST), (.SCH_ADMIN_CYCLE, .SCH_OPER_CYCLE), (.SCH_ADMIN_EXT, .SCH_OPER_EXT),
    (.SCH_ADMIN_BASE_SEC_HI, .SCH_OPER_BASE_SEC_HI), (.SCH_ADMIN_BASE_SEC_LO, .SCH_OPER_BASE_SEC_LO),
    (.SCH_ADMIN_BASE_NS, .SCH_OPER_BASE_NS)].foldl (fun s f => s.wr f.2 p 0 (s.rw f.1 p)) s
  let s := s.setSch p { x with running := true, pending := false, rewr := false }
  let s := (s.bump .SCH_CFG_CHANGES p).setFlags .SCH_STATUS p 0 1
  gateApply s p (gLocate s p)

/-- No list runs (R266, R271): the gates take INIT_GATES and hold is released. -/
def gateStop (s : State) (p : Nat) : State :=
  let s := holdOff (setGates s p (s.rf .SCH_GATE_CTRL p 0 0 16)) p
  s.setSch p { (s.sch p) with running := false, pending := false, entry := 0, rewr := false }

/-- A strobe of group 9 at port `p` (R271): `tref` is the armed time of a strobe that fires on time, else the time of the
firing tick.  CHANGE_TIME is free where ADMIN_BASE_NS is out of range, or a base time in the past has no cycle to advance by
(R283; log entry 6). -/
def gateStrobe (s : State) (p tref : Nat) : State :=
  let s := schClamp (schSync s p) p
  if gclUnits s p = 0 then s
  else if !tst (s.rw .SCH_GATE_CTRL p) 31 then gateStop s p
  else
    let l := adminList s p
    let base := l.base.toNat
    let late := decide (base < tref)
    let lost := decide (l.baseNs > 999999999) || (late && l.cyc == 0)
    let ct := if lost then s.free else if late then base + ceilDiv (tref - base) l.cyc * l.cyc else base
    let s := if lost then s.drawn else s
    let s := if late then (s.bump .SCH_LATE_BASE p).setFlags .SCH_STATUS p 0 2 else s
    let sec := ct / 1000000000
    let s := ((s.wr .SCH_CHANGE_SEC_HI p 0 (wd (sec / 2 ^ 32))).wr .SCH_CHANGE_SEC_LO p 0 (wd sec)).wr .SCH_CHANGE_NS p 0
      (wd (ct % 1000000000))
    let s := if (s.sch p).running then s else setGates s p (s.rf .SCH_GATE_CTRL p 0 0 16)
    s.setSch p { (s.sch p) with pending := true }

/-- A running list recomputes its position (R273), at the wake of the table bank that holds it where that sleeps (R118). -/
def gateRecompute (s : State) (p : Nat) : State :=
  if !(s.sch p).running then s
  else if listAwake s (operList s p) then gateApply (s.setSch p { (s.sch p) with stale := false }) p (gLocate s p)
  else s.setSch p { (s.sch p) with stale := true }

/-- The running lists of some ports recompute their positions (R273). -/
def gatesRecompute (s : State) (ports : List Nat) : State := ports.foldl gateRecompute s

/-- The lists whose positions wait for a table bank recompute them at its wake. -/
def gatesWoken (s : State) : State := gatesRecompute s ((allPorts s).filter (fun p => (s.sch p).stale))

/-- A time step reaches every running list (R273). -/
def gatesStepped (s : State) : State :=
  (allPorts s).foldl (fun s p =>
    if (s.sch p).running then ((gateRecompute s p).bump .SCH_STEPS p).setFlags .SCH_STATUS p 0 16 else s) s

/-- SCH_STATE. -/
def schState (s : State) (p : Nat) : Word :=
  let x := s.sch p
  put 16 16 x.entry ||| bitw 15 x.hold ||| bitw 14 x.pending ||| bitw 13 x.running

/-! ## Ball time and the fit test (R257, R269) -/

/-- The transmit term of port `p`'s mode and rate with its FEC term, in ps (R142); a stitch lane has those of 25GBASE-R (R29). -/
def txTerm (s : State) (p : Nat) : Nat :=
  if 130 ≤ p then (if p < 133 then 34640 else 0) else
  let m := laneMode s (portLane p)
  let r := portRate s p
  let full := speedRate (modeSpeed m)
  let base := if m = 1 then 16000 else if m = 2 ∨ m = 3 ∨ m = 5 then 32000 else if m = 4 then 26000 else if m = 9 then 44000
    else if m = 10 then 34640 else 36800
  let slow := if r < full then bytePs s p else 0
  let fec := match fld (laneRec s (portLane p)) 20 2 with
    | 1 => if m = 10 then 4000 else 8000
    | 2 => 12000
    | _ => 0
  base + slow + fec

/-- A_p in ps. -/
def ahead (s : State) (p : Nat) : Nat := 100000 + txTerm s p

/-- The present time in ps. -/
def nowPs (s : State) : Nat := 1000 * s.now + s.time.now.frac * 1000 / 2 ^ 32

/-- The R9 length of a frame. -/
def frameLen (f : CFrame) : Nat := f.bytes.length

/-- The delivery context of a copy to a host port (R341). -/
def deliverCtx (s : State) (c : CCopy) : Nat :=
  match c.kind with
  | .host x => x
  | .drip x _ _ => x
  | .report x _ => x
  | _ => s.rf .EPT_HOST_CTX 0 0 (4 * (c.port - 128)) 3

/-- What the outer frame of an arrival adds to a frame's R9 length (R339, R343): header, prefix and FCS for the inner FCS, and
a tag when the delivery context is TAGGED. -/
def outerExtra (s : State) (c : CCopy) : Nat := 30 + (if tst (s.rw .CTL_CTX_CFG (deliverCtx s c)) 29 then 4 else 0)

/-- The length of a copy; `none` while it is not known. -/
def copyLen (s : State) (f : CFrame) (c : CCopy) : Option Nat :=
  if !f.ended then none
  else
    let n := match c.kind with
      | .mirror _ t => if t = 0 then frameLen f else min t (frameLen f)
      | _ => frameLen f
    some (if c.port = 128 ∨ c.port = 129 then min (copyMax s c) (max 64 n + outerExtra s c) else n)

/-- The inter-frame gap in bytes. -/
def ifg : Nat := 12

/-- The bytes of a copy on the wire, FCS included; `none` while that is not known. -/
def wireLen (s : State) (f : CFrame) (c : CCopy) : Option Nat :=
  if !f.ended then none
  else if c.port = 128 ∨ c.port = 129 then some (min (copyMax s c) (max 60 (egressBytes s f c).length + 4 + outerExtra s c))
  else some ((egressBytes s f c).length + 4)

/-- When the transmission of copy `id` and its gap end, in ps; `none` while that is not known (R257, R258).  A copy found bad ends
with the bytes sent, at least 60, and an FCS (R250).  A stitch link has the stitch header in place of preamble and gap (log entry
109). -/
def txEnd (s : State) (p id : Nat) : Option Nat :=
  (s.cpy id).bind fun c => (s.frm c.frame).bind fun f =>
    let extra := if p < 130 then 8 + ifg else if p < 133 then 16 else 0
    let ends (n : Nat) : Nat := nowPs s + (c.beg + (extra + n) * bytePs s p) - s.monoPs
    if c.endBad then some (ends (max 60 (sentNow s c - c.sent) + 4))
    else if c.cut && f.verdict.isNone then none
    else (wireLen s f c).map (fun l => ends (l - c.sent))

/-- ADD_FRAG of port `p`. -/
def addFrag (s : State) (p : Nat) : Nat := s.rf .MAC_MM_CFG p 0 28 2

/-- The ball time of a copy for queue class `express` on port `p` in ps; `none` while the end of the current transmission
is not known (R257, R258).  The gap behind the frame sent last counts, and the wake that low-power idle asks for (R127, R169). -/
def ballTime (s : State) (p : Nat) (express : Bool) : Option Nat :=
  let m := s.mac p
  let t := max (nowPs s + ahead s p + (if m.txLpi then 1000000 * s.rf .MAC_EEE_TW p 0 16 16 else 0))
    (max (nowPs s + 4000 * (m.txWait - s.time.ticks)) (nowPs s + (m.gapEnd - s.monoPs)))
  if 130 ≤ p then
    (s.car.copies.filter (fun c => c.port == p && c.begun)).foldl
      (fun a c => a.bind fun a => (txEnd s p c.id).map (max a)) (some t)
  else
  let endX : Option Nat := match m.tx with
    | some id => txEnd s p id
    | none => some 0
  let endP : Option Nat := match m.txP with
    | none => some 0
    | some id =>
      match s.cpy id with
      | none => some 0
      | some c =>
        if express && mmActive s p then
          some (if c.susp then 0 else nowPs s + (64 * (1 + addFrag s p) + 79 + ifg) * bytePs s p)
        else if c.susp then none
        else txEnd s p id
  endX.bind fun a => endP.map fun b => max t (max a b)

/-- L_fit (R269). -/
def fitLen (s : State) (p q : Nat) (f : CFrame) (c : CCopy) : Nat :=
  if preemptable s p q && !c.forced then 64 * (1 + addFrag s p)
  else match copyLen s f c with
    | some l => l
    | none =>
      let sdu := maxSdu s p q
      let m := macMaxLen s p
      if sdu = 0 then m else min sdu m

/-! ## Selection (R258 to R262) -/

/-- The copies of a queue that are not issued, first to last. -/
def waiting (s : State) (p q : Nat) : List CCopy := (queueCopies s p q).filter (fun c => c.issued == 0)

/-- The drain step of port `p`'s disable is over or was skipped (R172): no further frame begins. -/
def drainOver (s : State) (p : Nat) : Bool := (s.mac p).en == .disabling && (s.mac p).drained

/-- A drain holds the descriptor of a copy until it has read all of it (R235). -/
def drainHolds (s : State) (c : CCopy) : Bool :=
  c.issued != 0 && (match s.frm c.frame with
    | some f => !f.ended || decide (c.read < f.bytes.length)
    | none => false)

/-- A copy of queue class `express` waits at port `p` to begin: the class's queue at the MAC takes no other. -/
def classBusy (s : State) (p : Nat) (express : Bool) : Bool :=
  s.car.copies.any (fun c => c.port == p && c.issued != 0 && !c.begun && c.express == express)

/-- R258 leaves the port a copy to issue: no copy waits there to begin, or a preemptable one waits while a preemptable copy is in
transmission or suspended, which one express copy may be issued over. -/
def mayIssue (s : State) (p : Nat) : Bool :=
  !classBusy s p true &&
    (!classBusy s p false || ((s.mac p).txP.isSome &&
      s.car.copies.any (fun c => c.port == p && c.issued == 0 && (!preemptable s p c.queue || c.forced))))

/-- The drain of port `p` holds the 16 descriptors that B7 lets it hold (R24, R235). -/
def drainFull (s : State) (p : Nat) : Bool :=
  decide (16 ≤ (s.car.copies.filter (fun c => feedOf c.port == feedOf p && drainHolds s c)).length)

/-- The port can take a copy (R258, B7): R258 leaves it one to issue, it is known when one could begin, its drain has room for a
descriptor, and the path is neither isolated nor asleep (R127). -/
def portAccepts (s : State) (p : Nat) : Bool :=
  mayIssue s p && ((ballTime s p true).isSome || (ballTime s p false).isSome) &&
  !drainFull s p && !closed s 18 && !closed s (if p < 128 then p / 16 else portBlock p) && portPresent s p && !portDisabled s p && !drainOver s p && linkUp s p &&
    pathReady s p

/-- A copy is refused for its length (R260). -/
def sduDrop (s : State) (c : CCopy) : State :=
  dropCopy ((s.bump .SCH_Q_SDU_DROP c.port c.queue).setFlags .SCH_STATUS c.port 0 4) c

/-- The candidate of queue `q`, if it has one (R260), with its ball time and close instant: copies whose known length exceeds
MAX_SDU are discarded on the way, and a copy that fails the fit test is counted once and waits for the next opening of its gate
(R269). -/
def candidate (s : State) (p q : Nat) : Nat → Option (CCopy × Option Int) × State
  | 0 => (none, s)
  | n + 1 =>
    match waiting s p q with
    | [] => (none, s)
    | c :: _ =>
      match s.frm c.frame, ballTime s p (!preemptable s p q || c.forced) with
      | some f, some ball =>
        let pre := preemptable s p q && !c.forced
        let b := bytePs s p
        let bNs : Int := (ball / 1000 : Nat)
        let stop := ball + (8 + fitLen s p q f c) * b + 1000 * s.rf .SCH_GUARD p 0 0 16
        let g := gateAt s p q bNs (stop / 1000 : Nat)
        let onTime := match f.launch with
          | some (t, _) => decide (ball + 8 * b ≥ 1000 * t)
          | none => true
        let shut := match c.defClose with
          | some t => decide (bNs < t)
          | none => false
        if !c.elig || c.held || classBusy s p (!pre) || !g.1 || (pre && (s.sch p).hold) || !creditOk s p q || !onTime || shut then (none, s)
        else
          let lim := maxSdu s p q
          if lim != 0 && (match copyLen s f c with
              | some l => decide (l > lim)
              | none => false) then candidate (sduDrop s c) p q n
          else
            let fits := match g.2 with
              | none => true
              | some t => decide ((stop : Int) ≤ 1000 * t)
            if fits then (some (c, g.2), s)
            else
              let s := s.modCpy (fun x => x.id == c.id) (fun x => { x with deferred := true, defClose := g.2 })
              (none, if c.deferred then s else occ (s.bump .SCH_DEFERS p) 18 0x11 p)
      | _, _ => (none, s)

/-- The candidate of a queue, its whole length of copies allowed for. -/
def candidateOf (s : State) (p q : Nat) : Option (CCopy × Option Int) × State := candidate s p q ((waiting s p q).length + 1)

/-- A copy is issued to its drain (R258, R261). -/
def issue (s : State) (p q : Nat) (c : CCopy) (close : Option Int) (owes : Bool) : State :=
  let express := !preemptable s p q || c.forced
  let s := s.modCpy (fun x => x.id == c.id) (fun x => { x with
    issued := s.car.seq, express := express, close := close.map Int.toNat, owes := owes
    ball := s.monoPs + ((ballTime s p express).getD 0 - nowPs s) })
  occ { s with car := { s.car with seq := s.car.seq + 1 } } 18 0x10 p

/-- The cost of a copy in the weighted group, and whether the rest is owed at its verdict (R262). -/
def drrCost (s : State) (p : Nat) (c : CCopy) : Int × Bool :=
  if !tst (s.rw .SCH_CFG p) 31 then (1, false)
  else match (s.frm c.frame).bind (fun f => copyLen s f c) with
    | some l => (l, false)
    | none => (64, true)

/-- DEF of queue `q` with a new value. -/
def setDef (s : State) (p q : Nat) (v : Int) : State :=
  let x := s.sch p
  s.setSch p { x with defs := mput 0 x.defs q v }

/-- The turn passes from queue `q` of `n` weighted queues (R262). -/
def passTurn (s : State) (p q n : Nat) : State :=
  s.setSch p { (s.sch p) with turn := if q = 0 then n - 1 else q - 1, served := false }

/-- The weighted group of `n` queues (R262): at most one copy; `idle` counts the queues passed in a row without a
candidate. -/
def drr (n : Nat) (s : State) (p : Nat) : Nat → Nat → State
  | 0, _ => s
  | fuel + 1, idle =>
    if idle ≥ n then s else
    let q := if (s.sch p).turn < n then (s.sch p).turn else n - 1
    let r := candidateOf s p q
    let s := r.2
    match r.1 with
    | none =>
      let s := if (waiting s p q).isEmpty then setDef s p q (min 0 (mget 0 (s.sch p).defs q)) else s
      drr n (passTurn s p q n) p fuel (idle + 1)
    | some (c, close) =>
      let w := s.within 1 255 (s.rf .SCH_Q_CFG p q 0 8)
      let d := mget 0 (s.sch p).defs q + (if (s.sch p).served then 0 else ((w * (if tst (s.rw .SCH_CFG p) 31 then 64 else 1) : Nat) : Int))
      let s := (setDef s p q d)
      let s := s.setSch p { (s.sch p) with turn := q, served := true }
      let k := drrCost s p c
      if k.1 ≤ d then
        let s := issue (setDef s p q (d - k.1)) p q c close k.2
        if (waiting s p q).isEmpty then setDef s p q 0 else s
      else drr n (passTurn s p q n) p fuel 0

/-- The strict queues, highest first (R261); `true` when one was issued. -/
def strictPick (s : State) (p : Nat) : List Nat → Bool × State
  | [] => (false, s)
  | q :: t =>
    let r := candidateOf s p q
    match r.1 with
    | some (c, close) => (true, issue r.2 p q c close false)
    | none => strictPick r.2 p t

/-- The way out of port `p` is left asleep by the host (R120): its egress, MAC and lane; the interface, stitch engine or service engine;
the table banks of S5 or a bank of the Carafe. -/
def pathLeft (s : State) (p : Nat) : Bool :=
  (if p < 128 then [178 + p / 16, p, 128 + p / 4] else if p < 133 then [p + 93 + (if p < 130 then 0 else 1)] else [223]).any (leftAsleep s) ||
    (decide (p < 133) && (regionBanks s 3).any (fun b => decide (b < 16) && leftAsleep s (202 + b))) ||
    (List.range 16).any (fun b => leftAsleep s (186 + b))

/-- The scheduler of port `p` selects (R261).  What becomes of the copies for a port whose way out is left asleep is free (R120). -/
def schedulerSelect (s : State) (p : Nat) : State :=
  if pathLeft s p then (s.car.copies.filter (fun c => c.port == p && c.issued == 0)).foldl wildCopy s
  else if !portAccepts s p then s
  else
  let s := schSync s p
  let n := queueCount p
  let w := n - min n (portStrict s p)
  let r := strictPick s p ((List.range (n - w)).map (fun i => n - 1 - i))
  if r.1 then r.2 else drr w r.2 p (400 * (n + 1)) 0

end Sys2Proof.Machine
end

