-- ==== Sys2Proof/Machine/Transmit.lean ====
section
/-!
DEFINITION. Machine/Transmit.lean: a copy's way out: its start and timestamp, one-step insertion and correction, arrival
frames, stitch segments, preemption and its end (07_mac.md R156 to R167; 10_carafe.md R250; 11_scheduling.md R257, R263,
R270; 13_time.md R317, R318; 14_endpoint.md R340 to R352; 18_twins.md R427 to R429).
-/
namespace Sys2Proof.Machine

/-! ## Timestamps as fields -/


/-- A PTP timestamp field: 48 bits of seconds and 32 of nanoseconds (R308). -/
def ptpStamp (t : Nat) : Bytes := beBytes 6 (tsSec t) ++ beBytes 4 (tsNs t)

/-- The eight bytes of a correctionField. -/
def cfBytes (v : Int) : Bytes := beBytes 8 (unsgn 64 v)

/-- The egress timestamp of a frame whose timestamp point lies `half` half nanoseconds after the last tick (R165, R166). -/
def txStamp (s : State) (p half : Nat) : Nat :=
  s.stampBy half (sgn 16 (s.rf .MAC_TS_ADJ p 0 0 16))

/-! ## One-step insertion and correction (R167, R317, R318) -/

/-- How far the edits of the egress pipeline move the bytes behind the tags: they are made on a frame too long for padding and
without a trailer. -/
def frontShift (s : State) (f : CFrame) (c : CCopy) : Int :=
  let b := f.body.take 100 ++ List.replicate 200 0
  let e := redBytes (frameAlt s f) { c.red with rctAdd := none, rctDel := false } (s5Edit (frameAlt s f) (c.s5.getD 0) f.s4Class b)
  (e.length : Int) - b.length

/-- The PTP header of a frame that the parser recognised, by its offset in the copy as sent, and its transport. -/
def ptpAt (s : State) (f : CFrame) (c : CCopy) : Option (Nat × Nat) :=
  ((parse (frameAlt s f) f.bytes f.ended).ptp).map (fun x => (((x.1 : Int) + frontShift s f c).toNat, x.2))

/-- The two bytes that IEEE 1588 appends over IPv6 are there: the UDP length covers them. -/
def hasTrail (b : Bytes) (o : Nat) : Bool := decide (beAt b (o - 4) 2 ≥ 8 + beAt b (o + 2) 2 + 2)

/-- Patches of a PTP message at `o`, unless it lacks the bytes that R167 asks for over IPv6. -/
def ptpPatch (s : State) (c : CCopy) (b : Bytes) (o tr : Nat) (ps : List (Nat × Bytes)) : Bool × State :=
  if tr = 2 ∧ !hasTrail b o then (false, macCount s c.port 44)
  else (true, s.modCpy (fun x => x.id == c.id) (fun x => { x with patches := ps, csum := if tr = 0 then none else some (o, tr) }))

/-- The correction of a forwarded event message (R318) in 2^-16 ns: the residence, and for a Sync of a peer-to-peer domain
the link delay of the ingress port; whether that delay was missing. -/
def tcTerm (s : State) (f : CFrame) (b : Bytes) (o ts : Nat) : Int × Bool :=
  let res : Int := (ts : Int) - f.t
  let sync := beAt b o 1 % 16 == 0
  let dom := (List.range 4).any (fun d =>
    let w := s.rw .TK_DOM_CFG d
    tst w 31 && tst w 29 && fld w 0 8 == beAt b (o + 4) 1 && fld w 20 4 == beAt b o 1 / 16 && fld w 12 8 == beAt b (o + 5) 1)
  if !sync || !dom then (res, false)
  else if !(f.src < 128 && tst (s.rw .TK_PORT_PD_STATUS f.src) 31) then
    (res + (if f.src < 128 then 4096 * sgn 32 (s.rn .TK_PORT_ASYM f.src) else 0), true)
  else (res + (mget {} s.time.pds f.src).delay / 65536 + 4096 * sgn 32 (s.rn .TK_PORT_ASYM f.src), false)

/-- The transparent-clock correction of a copy that begins (R318). -/
def tcCorrect (s : State) (f : CFrame) (c : CCopy) (ts : Nat) : State :=
  if f.src ≥ 133 || (128 ≤ c.port && c.port < 130) || c.port ≥ 133 then s else
  match ptpAt s f c with
  | none => s
  | some (o, tr) =>
    let b := egressBytes s f c
    if beAt b o 1 % 16 > 3 then s else
    let k := tcTerm s f b o ts
    let r := ptpPatch s c b o tr [(o + 8, cfBytes (sgn 64 (beAt b (o + 8) 8) + k.1))]
    if !r.1 then r.2
    else
      let s := if c.port < 128 then r.2.bump .TK_PORT_TC c.port else r.2
      if k.2 then s.bump .TK_TC_NO_DELAY else s

/-- The UDP checksum of a changed message (R167): zero over IPv4; over IPv6 the two appended bytes take up the change, in
one's-complement sums of 16-bit words. -/
def csumFix (old new : Bytes) : Option (Nat × Nat) → Bytes
  | none => new
  | some (o, tr) =>
    if tr = 1 then patch new (o - 2) [0, 0]
    else
      let len := beAt new (o + 2) 2
      let sum (b : Bytes) : Nat := sumN ((List.range ((len + 1) / 2)).map (fun i => beAt (b.take (o + len)) (o + 2 * i) 2))
      let d := (65535 * 65535 + sum old - sum new) % 65535
      let d := if len % 2 = 0 then d else d % 256 * 256 + d / 256
      let t := beAt old (o + len) 2 + d
      patch new (o + len) (beBytes 2 (t % 65536 + t / 65536))

/-- The bytes of a copy as sent, without an FCS. -/
def sentBytes (s : State) (f : CFrame) (c : CCopy) : Bytes :=
  csumFix (egressBytes s f { c with patches := [] }) (egressBytes s f c) c.csum

/-! ## Endpoint frames to the host (R339 to R352) -/

/-- The outer header of a frame to a context: its address, the control address, its tag, an EtherType. -/
def outerHead (s : State) (ctx et : Nat) : Bytes :=
  let cfg := s.rw .CTL_CTX_CFG ctx
  let tag := if tst cfg 29 then beBytes 2 0x8100 ++ beBytes 2 (fld cfg 13 3 <<< 13 ||| fld cfg 0 12) else []
  beBytes 2 (s.rf .CTL_CTX_MAC_HI ctx 0 0 16) ++ beBytes 4 (s.rn .CTL_CTX_MAC_LO ctx) ++
    beBytes 2 (s.rf .CTL_DEV_MAC_HI 0 0 0 16) ++ beBytes 4 (s.rn .CTL_DEV_MAC_LO) ++ tag ++ beBytes 2 et


/-- The frame that carries a copy to a host port (R339, R343, R352): the inner frame padded to 60 bytes and cut where the outer
one would exceed MAX_LEN.  A delivery context that is not valid leaves the frame free (R360; log entry 6). -/
def arrivalFrame (s : State) (f : CFrame) (c : CCopy) : Bytes :=
  let head := outerHead s (deliverCtx s c) 0x88B6
  let inner := pad60 (sentBytes s f c)
  let room := copyMax s c - (head.length + 16 + 4)
  let b := head ++ wsBytes (arrivalWords f c (decide (inner.length > room))) ++ inner.take room
  if ctxValid s (deliverCtx s c) then b ++ fcsBytes b else beBytes (b.length + 4) s.free

/-! ## Notes of transmit timestamps (R319 to R322, R350) -/

/-- A launch report (R350): the first 64 bytes of the copy as sent, behind its prefix. -/
def launchReport (s : State) (f : CFrame) (c : CCopy) (ctx : Nat) (pfx : List Word) (ts : Nat) : State :=
  let r := lbmTake s 5 80
  match r.1 with
  | none => (r.2.bump .EPT_REPORT_LOST).setFlags .EPT_STATUS 0 0 8
  | some k =>
    let b := sentBytes s f c
    let b := (b ++ fcsBytes b).take 64
    let w2 := pfx.getD 2 0
    let ws := [wd (tsSec ts), tsWord ts,
      put 30 2 2 ||| put 27 3 (fld w2 24 4) ||| put 17 10 (portRef s c.port) ||| bitw 16 (tst w2 31),
      if tst w2 31 then put 16 16 (fld (pfx.getD 3 0) 16 16) else 0]
    originate ((bufPut r.2 k 0 (wsBytes ws ++ b)).bump .EPT_REPORTS) {
      src := 134, feed := 11, ref := f.ref, rate := f.rate, t := ts, bytes := b, buf := some (5, k),
      plan := [{ id := 0, frame := 0, port := 128 + ctxLane s ctx, queue := 15, kind := .report ctx ws }] }

/-- What a PTP header holds (R316, R317): message type, domain, flags, correction, port, sequence, controlField and interval;
`len` is the messageLength.  minorVersionPTP and controlField are those of IEEE 1588-2019 (log entry 40). -/
def ptpHead (s : State) (d mtype len flags : Nat) (cf : Int) (p seq ctl log : Nat) : Bytes :=
  let w := s.rw .TK_DOM_CFG d
  beBytes 1 (fld w 20 4 * 16 + mtype) ++ beBytes 1 0x12 ++ beBytes 2 len ++ beBytes 1 (fld w 0 8) ++ beBytes 1 (fld w 12 8) ++
    beBytes 2 flags ++ cfBytes cf ++ beBytes 4 0 ++ beBytes 4 (s.rn .TK_CLOCK_ID_HI) ++ beBytes 4 (s.rn .TK_CLOCK_ID_LO) ++
    beBytes 2 (p + 1) ++ beBytes 2 seq ++ beBytes 1 ctl ++ beBytes 1 log

/-- LOG_SYNC of a domain as a byte. -/
def logByte (s : State) (f : Fam) (i lo : Nat) : Nat := unsgn 8 (sgn 4 (s.rf f i 0 lo 4))

/-- What the transmit timestamp `ts` of a copy is for (R319 to R322, R350): an insertion, a report, or a message that
follows. -/
def noteTx (s : State) (f : CFrame) (c : CCopy) (ts : Nat) : State :=
  let b := egressBytes s f c
  let insert (s : State) (o tr : Nat) (ps : List (Nat × Bytes)) : State :=
    let r := ptpPatch s c b o tr ps
    if r.1 then macCount r.2 c.port 43 else r.2
  let origin (s : State) (o tr : Nat) : State :=
    insert s o tr [(o + 34, ptpStamp ts), (o + 8, cfBytes (sgn 64 (beAt b (o + 8) 8) + ((ts % 65536 : Nat) : Int)))]
  let engineAt : Nat := afterTags (frameAlt s f) b + (if beAt b (afterTags (frameAlt s f) b) 2 = 0x892F then 6 else 0) + 2
  match c.note with
  | .none => s
  | .launch ctx pfx =>
    let w3 := pfx.getD 3 0
    let one := fld w3 6 2
    let o := (((fld w3 8 8 : Nat) : Int) + frontShift s f c).toNat
    let s := if one = 0 then s else origin s o (one - 1)
    if tst (pfx.getD 2 0) 28 && (c.port < 128 || (130 ≤ c.port && c.port < 133)) then
      match s.cpy c.id with
      | some c => launchReport s f c ctx pfx ts
      | none => s
    else s
  | .sync d p seq oneStep =>
    if oneStep then origin s engineAt 0
    else
      { s with time := { s.time with fus := s.time.fus ++ [{
        kind := 8, dom := d, port := p, seq := seq, due := s.mono,
        body := ptpHead s d 8 44 0 ((ts % 65536 : Nat) : Int) p seq 2 (logByte s .TK_DOM_INT d 28) ++ ptpStamp ts }] } }
  | .delayReq _ _ seq =>
    { s with time := { s.time with dreq := match s.time.dreq with
      | some (q, none) => if q = seq then some (q, some ts) else s.time.dreq
      | x => x } }
  | .pdelayReq p seq =>
    { s with time := { s.time with pds := mmod {} s.time.pds p (fun x =>
      if x.seq = seq ∧ x.sent then { x with t1 := some ts } else x) } }
  | .pdelayResp p seq t2 oneStep req =>
    if oneStep then
      insert s engineAt 0 [(engineAt + 8, cfBytes (sgn 64 (beAt b (engineAt + 8) 8) + ((ts : Int) - t2)))]
    else
      let d := beAt req 0 1
      { s with time := { s.time with pfus := s.time.pfus ++ [{
        kind := 0xA, dom := d, port := p, seq := seq, due := s.mono,
        body := ptpHead s d 0xA 54 0 ((ts % 65536 : Nat) : Int) p seq 5 0x7F ++ ptpStamp ts ++ req.drop 1 }] } }

/-! ## Stitch segments (R427 to R429) -/

/-- The B9 depth of a link in segments (R428). -/
def dataDepth (l : Nat) : Nat := if l = 0 then 384 else 192

/-- Data credits of link `l`. -/
def dataCredit (s : State) (l : Nat) : Nat :=
  dataDepth l - ((s.link l).sent + 65536 - (s.link l).freed) % 65536

/-- Message credits of link `l`. -/
def msgCredit (s : State) (l : Nat) : Nat := 16 - ((s.link l).msgSent + 256 - (s.link l).msgFreed) % 256

/-- The SPEED code of a rate in kb/s; 7 for none. -/
def rateCode (r : Nat) : Nat :=
  if r = 10000 then 0 else if r = 100000 then 1 else if r = 1000000 then 2 else if r = 2500000 then 3 else if r = 10000000 then 4
  else if r = 25000000 then 5 else 7

/-- The word of a SEG block (R426). -/
def segWord (ch : Nat) (first last bad : Bool) (len : Nat) : Word :=
  put 24 8 0x78 ||| put 20 4 ch ||| bitw 19 first ||| bitw 18 last ||| bitw 17 bad ||| put 8 8 len

/-- A CRC-16 word over the header words before it (R429). -/
def withHcrc (ws : List Word) : List Word := ws ++ [put 0 16 (crc16 0xFFFF ((wsBytes ws).take 14 ++ List.replicate (14 - 4 * ws.length) 0))]

/-- The stitch header of a copy (R429). -/
def stitchHead (f : CFrame) (c : CCopy) : List Word :=
  let q := f.stitchSeq.getD (0, 0)
  withHcrc [put 28 4 1 ||| put 25 3 f.carry.cls ||| put 22 3 (if c.cut then rateCode f.rate else 7) ||| put 12 10 f.ref |||
      bitw 11 f.stitchSeq.isSome ||| put 7 4 q.1 ||| bitw 6 f.oow ||| bitw 5 f.exceeded,
    put 16 16 q.2 ||| put 0 16 (tsSec f.t), tsWord f.t]

/-- A data segment leaves on link `l`; it spends one credit and counts its blocks (R402, R428). -/
def sendSeg (s : State) (l : Nat) (w0 : Word) (data : Bytes) : State :=
  let x := s.link l
  occ ((s.setLink l { x with sent := (x.sent + 1) % 65536 }).emit (.seg l w0 data)) (29 + l) 0x10 0 (1 + ceilDiv data.length 8)

/-- The bytes of a copy on a stitch link: the frame as sent, with its FCS once its end is known. -/
def stitchBytes (s : State) (f : CFrame) (c : CCopy) : Bytes :=
  let b := sentBytes s f c
  if f.ended then b ++ fcsBytes b else b

/-- The lowest free channel of link `l`. -/
def freeChan (s : State) (l : Nat) : Option Nat := (List.range 15).find? (fun ch => (mfind (s.link l).tx ch).isNone)

/-- The first segment of a copy (R427): the stitch header and the first cell. -/
def segFirst (s : State) (l ch : Nat) (f : CFrame) (c : CCopy) : State :=
  let b := stitchBytes s f c
  let last := f.ended && decide (b.length ≤ 128)
  let d := wsBytes (stitchHead f c) ++ b.take 128
  let x := s.link l
  sendSeg (s.setLink l { x with tx := mins x.tx ch c.id }) l (segWord ch true last false d.length) d

/-- The segments after the first, one for each further cell (R427). -/
def segRest (s : State) (l ch : Nat) : Nat → Bytes → State
  | 0, _ => s
  | n + 1, b =>
    if b = [] then s
    else segRest (sendSeg s l (segWord ch false (decide (b.length ≤ 128)) false (min 128 b.length)) (b.take 128)) l ch n (b.drop 128)

/-! ## Start (R156, R160, R250, R257) -/

/-- The MAC of port `p`, or the engine in its place, may send now. -/
def txReady (s : State) (p : Nat) : Bool :=
  portPresent s p && !portDisabled s p && linkUp s p && !closed s (portBlock p) && !(s.mac p).txLpi &&
    decide ((s.mac p).txWait ≤ s.time.ticks)

/-- The domains on the way out of a copy serve it: awake, or shutting down with the copy begun (R121, R125). -/
def pathServes (s : State) (c : CCopy) : Bool :=
  let p := c.port
  if p < 128 then
    domServes s (178 + p / 16) (decide (0 < c.read)) && domServes s p c.begun && domServes s (128 + p / 4) c.begun &&
      (c.begun || !s.hot.txAsleep.contains p)
  else if p < 130 then domServes s (p + 93) c.begun && domServes s (p + 40) c.begun
  else if p < 133 then domServes s (p + 94) c.begun
  else domServes s 223 c.begun

/-- A copy that its drain and egress pipeline have begun to hand to the MAC. -/
def handed (c : CCopy) : Bool := c.issued != 0 && !c.begun && decide (c.read > 0) && c.s5.isSome

/-- A copy that its MAC may begin before the next tick: its ball time lies there or has passed (R257), and its way out is awake. -/
def mayBegin (s : State) (c : CCopy) : Bool := handed c && decide (c.ball < s.monoPs + 4000) && pathServes s c

/-- The preemptable frame in progress of port `p`, if it is suspended. -/
def suspended (s : State) (p : Nat) : Option CCopy := (((s.mac p).txP).bind s.cpy).filter (fun c => c.susp)

/-- The copy that port `p` starts or resumes next (R156, R160, R162): the express queue first, then a suspended frame, then the
preemptable queue.  After the drain step of a disable no frame begins (R172). -/
def startPick (s : State) (p : Nat) : Option CCopy :=
  let m := s.mac p
  let stop := drainOver s p
  let busy := m.tx.isSome || (m.txP.isSome && (suspended s p).isNone)
  let held := (s.sch p).hold
  if busy then none
  else match s.car.copies.find? (fun c => c.port == p && mayBegin s c && c.express && !stop) with
    | some c => some c
    | none =>
      match suspended s p with
      | some c => if held || !(gatesNow s p).testBit c.queue || !pathServes s c then none else some c
      | none => if held || stop then none else s.car.copies.find? (fun c => c.port == p && mayBegin s c && !c.express)

/-- A copy begins (R250): its timestamp is taken, its fields are written and its notes are done. -/
def beginCopy (s : State) (p half : Nat) (f : CFrame) (c : CCopy) : State :=
  let ts := txStamp s p half
  let s := s.modCpy (fun x => x.id == c.id) (fun x => { x with
    begun := true, beg := s.monoPs, tsTx := ts, maxLen := some (macMaxLen s p) })
  let s := s.modFrm c.frame (fun f => { f with anyBegun := true })
  let s := if 130 ≤ p then s
    else s.setMac p (if c.express then { (s.mac p) with tx := some c.id } else { (s.mac p) with txP := some c.id })
  noteTx (tcCorrect s f c ts) f c ts

/-- A transmission starts at port `p` (R257, R250), its timestamp point `half` half nanoseconds after the last tick: a copy
begins, or a suspended one resumes with a continuation fragment. -/
def transmitStart (s : State) (p half : Nat) : State :=
  if !txReady s p then s
  else if 130 ≤ p ∧ p < 133 then
    let l := p - 130
    match s.car.copies.find? (fun c => c.port == p && mayBegin s c), freeChan s l with
    | some c, some ch =>
      match s.frm c.frame with
      | some f =>
        if decide (dataCredit s l > 0) && (decide (c.read ≥ 129) || (f.ended && decide (c.read ≥ f.bytes.length))) then
          let s := beginCopy s p half f c
          match s.frm c.frame, s.cpy c.id with
          | some f, some c => segFirst s l ch f c
          | _, _ => s
        else s
      | none => s
    | _, _ => s
  else
    match startPick s p with
    | none => s
    | some c =>
      if c.susp then
        macCount (s.modCpy (fun x => x.id == c.id) (fun x => { x with susp := false, beg := s.monoPs, zeros := x.endBad })) p 48
      else match s.frm c.frame with
        | some f => beginCopy s p half f c
        | none => s

/-! ## Preemption (R160 to R162, R270) -/

/-- The fragment of a copy that ends now: a first one, or a continuation with the fragment count modulo 4 of the frame's
continuations (R160). -/
def fragOut (p : Nat) (c : CCopy) (b : Bytes) (final : Bool) : Out :=
  .fragment p (c.preempts != 0) ((c.preempts + 3) % 4) b final

/-- The MAC ends the fragment in progress at port `p` after `sent` of the frame's bytes (R160, R162, R270): hold is asserted, an
express frame waits, or the gate has closed; the fragment is long enough and enough remains. -/
def preempt (s : State) (p sent : Nat) : State :=
  match ((s.mac p).txP).bind s.cpy with
  | none => s
  | some c =>
    match s.frm c.frame with
    | none => s
    | some f =>
      let cause := (s.sch p).hold || s.car.copies.any (fun x => x.port == p && handed x && x.express) ||
        !(gatesNow s p).testBit c.queue
      let total := (sentBytes s f c).length + (if f.ended then 4 else 0)
      let part := sent + 4 ≥ 64 * (1 + addFrag s p) && c.sent + sent + 64 ≤ total
      if c.susp || c.endBad || !cause || !part then s
      else
        (s.modCpy (fun x => x.id == c.id) (fun x =>
          { x with susp := true, sent := x.sent + sent, preempts := x.preempts + 1 })).emit
          (fragOut p c (((sentBytes s f c).drop c.sent).take sent) false)

/-! ## End (R250, R263, R270) -/

/-- A copy has left port `p`: the MAC is free of it after its gap (R257), and its charge and reference are released (R241, R263). -/
def copyLeaves (s : State) (p : Nat) (c : CCopy) : State :=
  let m := s.mac p
  let s := if 130 ≤ p then s else s.setMac p { m with
    tx := if m.tx = some c.id then none else m.tx, txP := if m.txP = some c.id then none else m.txP
    gapEnd := s.monoPs + ifg * bytePs s p }
  dropCopy s c

/-- An express copy that ends after its gate's close instant is counted (R270). -/
def overrun (s : State) (p : Nat) (c : CCopy) : State :=
  match c.close with
  | some t => if c.express ∧ s.now > t then occ ((s.bump .SCH_OVERRUNS p).setFlags .SCH_STATUS p 0 8) 18 0x12 p else s
  | none => s

/-- The bytes of a copy that a MAC sends, without the FCS: those of its outer frame at a host port (R339). -/
def macBytes (s : State) (f : CFrame) (c : CCopy) : Bytes :=
  if c.port = 128 ∨ c.port = 129 then let w := arrivalFrame s f c; w.take (w.length - 4) else sentBytes s f c

/-- A copy found bad is ended with the inverted FCS of the bytes sent (R250): `sent` bytes of the frame, or of its current
fragment, padded to 60; a copy that was found bad while it was suspended resumes with 60 bytes of zeros alone. -/
def endTail (s : State) (p : Nat) (f : CFrame) (c : CCopy) (sent : Nat) : State :=
  let all := macBytes s f c
  let b := all.take c.sent ++ pad60 (if c.zeros then [] else (all.drop c.sent).take sent)
  let w := b ++ (fcsBytes b).map (fun x => ~~~ x)
  let s := countTxAll (macCount s p 41) p w.length
  let s := if c.preempts = 0 then s else macCount (s.emit (fragOut p c (w.drop c.sent) true)) p 54
  let s := if p < 130 then occ s (portBlock p) 0x15 (portSub p) else s
  copyLeaves (overrun (schCharge (s.emit (.badFrame p w)) p c.queue w.length) p c) p c

/-- A good copy's last byte is sent (R263, R270). -/
def endGood (s : State) (p : Nat) (f : CFrame) (c : CCopy) : State :=
  let b := sentBytes s f c
  let w := if p = 128 ∨ p = 129 then arrivalFrame s f c else b ++ fcsBytes b
  let s := if c.preempts = 0 then s else macCount (s.emit (fragOut p c (w.drop c.sent) true)) p 54
  let s := if p = 133 then (countTxGood s p w).emit (.service f.src f.ref f.t w) else sendFrame s p w
  let s := schCharge s p c.queue w.length
  copyLeaves (overrun s p c) p c

/-- The rest of a copy leaves on its stitch link (R427, R431): its last segment, or the bad-end indication. -/
def endStitch (s : State) (p : Nat) (f : CFrame) (c : CCopy) : State :=
  let l := p - 130
  let x := s.link l
  match x.tx.find? (fun t => t.2 == c.id) with
  | none => s
  | some (ch, _) =>
    let free (s : State) : State := let y := s.link l; s.setLink l { y with tx := mdel y.tx ch }
    let all := stitchBytes s f c
    if c.endBad then
      let s := sendSeg s l (segWord ch false true true 0) []
      let n := min all.length 128
      copyLeaves (overrun (schCharge (countTxAll (macCount (free s) p 41) p n) p c.queue n) p c) p c
    else if dataCredit s l < ceilDiv (all.length - 128) 128 then s
    else
      let s := free (segRest s l ch all.length (all.drop 128))
      copyLeaves (overrun (schCharge (countTxGood s p all) p c.queue all.length) p c) p c

/-- The copy whose end TRANSMIT_END tells of: the one in transmission; on a stitch port the first begun one that can end. -/
def endPick (s : State) (p : Nat) : Option CCopy :=
  if p < 130 then
    match ((s.mac p).tx).bind s.cpy with
    | some c => some c
    | none => (((s.mac p).txP).bind s.cpy).filter (fun c => !c.susp)
  else s.car.copies.find? (fun c => c.port == p && c.begun && (c.endBad || (match s.frm c.frame with
    | some f => f.ended && decide (c.read ≥ f.bytes.length)
    | none => false)))

/-- A copy's last byte is sent (R263); `sent` says how many bytes of a copy found bad had been sent, of its current fragment
if it was preempted. -/
def transmitEnd (s : State) (p sent : Nat) : State :=
  match endPick s p with
  | none => s
  | some c =>
    match s.frm c.frame with
    | none => copyLeaves s p c
    | some f =>
      if 130 ≤ p ∧ p < 133 then endStitch s p f c
      else if c.endBad then endTail s p f c sent
      else if f.ended && decide (c.read ≥ f.bytes.length) then
        -- a cut-through copy that its edit has made too long ends well or badly (R200)
        (if !c.cut || !overLong s f c then endGood s p f c
        else if s.free % 2 = 0 then endGood s.drawn p f c
        else endTail s.drawn p f c sent)
      else s

end Sys2Proof.Machine
end

