-- ==== Sys2Proof/Machine/Endpoint.lean ====
section
/-!
DEFINITION. Machine/Endpoint.lean: launch frames from the host and the launch store (14_endpoint.md R339 to R349).
-/
namespace Sys2Proof.Machine

/-- The context that a frame matches (R45): lane, source address, and tagging. -/
def ctxMatch (s : State) (lane sa : Nat) (tag : Option Nat) : Option Nat :=
  (List.range 8).find? (fun c =>
    let cfg := s.rw .CTL_CTX_CFG c
    tst cfg 31 && (tst cfg 30 == (lane == 1)) &&
    sa == s.rf .CTL_CTX_MAC_HI c 0 0 16 * 2 ^ 32 + s.rn .CTL_CTX_MAC_LO c &&
    (match tag with
      | none => !tst cfg 29
      | some v => tst cfg 29 && v == fld cfg 0 12))

/-- A frame's 802.1Q tag control information, its EtherType and where its payload starts (R31). -/
def etherHead (f : Bytes) : Option Nat × Nat × Nat :=
  if beAt f 12 2 = 0x8100 then (some (beAt f 14 2), beAt f 16 2, 18) else (none, beAt f 12 2, 14)


/-- The frame that carries a payload to a context (R31, R45, R393): address `da`, source `sa`, the context's tag when TAGGED, the
control EtherType, padding and FCS. -/
def mcfFrame (s : State) (ctx da sa : Nat) (payload : Bytes) : Bytes :=
  let cfg := s.rw .CTL_CTX_CFG ctx
  let tag := if tst cfg 29 then beBytes 2 0x8100 ++ beBytes 2 (fld cfg 13 3 <<< 13 ||| fld cfg 0 12) else []
  let b := pad60 (beBytes 6 da ++ beBytes 6 sa ++ tag ++ beBytes 2 (s.rf .CTL_ETYPE 0 0 0 16) ++ payload)
  b ++ fcsBytes b

/-- A response or an offer leaves on a host lane (R45); it passes between frames of the port (R23). -/
def sendMcf (s : State) (lane ctx da sa : Nat) (payload : Bytes) (buf : Option (Nat × Nat) := none) : State :=
  sendControl s (128 + lane) (mcfFrame s ctx da sa payload) buf

/-- EPT_HOLD_USED: the cells of the launches that wait. -/
def holdUsed (s : State) : Nat := sumN (s.ept.launches.map (fun l => l.cells.length))

/-- Cells for a launch (R345), from the bank that feed 11 serves in this slot on, apart from those of `got`; `none` where a free
list is empty. -/
def takeCells (s : State) (b : Nat) (got : List Nat) : Nat → Option (List Nat) × State
  | 0 => (some got, s)
  | n + 1 =>
    match takeCell s (b % 16) got with
    | none => (none, (s.bump .CAR_BANK_EMPTY).setFlags .CAR_STATUS 0 0 4)
    | some p => takeCells s.drawn (b + 1) (got ++ [p]) n

/-- A launch takes its place in the store: by T, then by order of acceptance (R345). -/
def launchIns (x : Launch) (l : List Launch) : List Launch := l.takeWhile (fun y => y.t ≤ x.t) ++ [x] ++ l.dropWhile (fun y => y.t ≤ x.t)

/-- The launch time of a prefix (R344): the 64-bit second nearest the device's own; an NS out of range leaves a free time (R360;
log entry 6). -/
def launchTime (s : State) (w0 w1 : Word) : Nat :=
  if 999999999 < fld w1 0 30 then s.free else
  let m : Nat := 2 ^ 32
  let now := s.time.now.sec
  let base := now / m * m + w0.toNat
  let sec := if base > now + m / 2 ∧ base ≥ m then base - m else if now > base + m / 2 then base + m else base
  sec * 1000000000 + fld w1 0 30

/-- The cells of an accepted launch are written through feed 11 (R229, R345). -/
def launchCells (s : State) (inner : Bytes) (cs : List Nat) : State :=
  cs.zipIdx.foldl (fun s c => occ (writeCell s c.1 0 (slice (inner ++ fcsBytes inner) (128 * c.2) (min 128 (inner.length + 4 - 128 * c.2)))) 17 0x10 11) s

/-- The rules of R345 on a launch whose prefix is `pfx` and whose inner frame is `inner`. -/
def acceptLaunch (s : State) (lane ctx : Nat) (pfx : List Word) (inner : Bytes) : State :=
  let n := ceilDiv (inner.length + 4) 128
  let w2 := pfx.getD 2 0
  if s.ept.launches.length ≥ 4096 then (s.bump .EPT_LAUNCH_FULL).setFlags .EPT_STATUS 0 0 1
  else if holdUsed s + n > s.within 80 262144 (s.rn .EPT_HOLD_MAX) then (s.bump .EPT_HOLD_FULL).setFlags .EPT_STATUS 0 0 2
  else
    let now := s.now
    let t := if tst w2 29 then now else launchTime s (pfx.getD 0 0) (pfx.getD 1 0)
    if t > now + 1000000 * s.within 1 4000 (s.rn .EPT_MAX_AHEAD) then s.bump .EPT_TOO_FAR
    else if t < now ∧ tst w2 30 then (s.bump .EPT_LATE_DROP).setFlags .EPT_STATUS 0 0 4
    else
      let s := if t < now then s.bump .EPT_LATE else s
      -- the closed wrapper of the Carafe discards what is written to it (R27, R104)
      if closed s 17 then isoDiscard s 17 else
      let r := takeCells s (11 + s.car.slot) [] n
      match r.1 with
      | none => r.2
      | some cs =>
        let x : Launch := { t := max t now, ctx := ctx, lane := lane, pfx := pfx, inner := inner, cells := cs, dropLate := tst w2 30 }
        repostAll (occ (launchCells { r.2 with ept := { r.2.ept with launches := launchIns x r.2.ept.launches } } inner cs) 23 0x10 0)

/-- An ordinary frame arrives whole at port `p`: it begins, is looked up, is admitted and has its verdict (R24, R193, R242, R245). -/
def wholeFrame (s : State) (p : Nat) (f : Bytes) : State :=
  if (s.mac p).rx.isSome then s else fcsVerdict (admission (lookupStart (frameStart s p 0 false) p f) p) p false [] 0

/-- A frame with EtherType 0x88B6 arrives whole on a host lane (R339, R345); it wakes the endpoint (R473).  One that is not sent to
the control address is an ordinary frame.  The closed wrapper of the host interface discards it (R27, R104); whether a MAC that is
left asleep receives it is free (R120). -/
def endpointFrame (s : State) (lane : Nat) (f : Bytes) : State :=
  let p := 128 + lane
  let h := etherHead f
  if lane < 2 && portPresent s p && closed s (portBlock p) then isoDiscard s (portBlock p)
  else if lane > 1 || !(rxReady s p || (rxLeft s p && s.free % 2 == 1)) then (if rxLeft s p then s.drawn else s)
  else if h.2.1 ≠ 0x88B6 ∨ beAt f 0 6 ≠ controlMac s then wholeFrame s p f else
  let s := if rxLeft s p then s.drawn else s
  match rxError { bytes := f, maxLen := macMaxLen s p } false false with
  | some c => countRxBad s p f.length c
  | none =>
    let s := countRxGood s p f
    if closed s 23 then isoDiscard s 23
    else
      let s := trigger s 1 234
      leftMaybe s 234 fun s =>
      match ctxMatch s lane (beAt f 6 6) (h.1.map (· % 4096)) with
      | none => s.bump .EPT_RX_UNKNOWN
      | some ctx =>
        let pl := (f.take (f.length - 4)).drop h.2.2
        acceptLaunch s lane ctx (bytesWs 4 (pl.take 16)) (pad60 (pl.drop 16))

/-- A host error makes a launch to the ports `ps` unpredictable (R360): a reserved bit of its prefix, QUEUE beyond a destination's
queues, or a PTP header beyond the inner frame. -/
def launchBad (x : Launch) (ps : List Nat) : Bool :=
  let w (i : Nat) := x.pfx.getD i 0
  fld (w 1) 30 2 != 0 || fld (w 2) 14 9 != 0 || fld (w 3) 0 6 != 0 || ps.any (fun p => decide (queueCount p ≤ fld (w 2) 24 4)) ||
    (fld (w 3) 6 2 != 0 && decide (x.inner.length < fld (w 3) 8 8 + 34))

/-- The copies of a launch (R347): DEST less its host port, each in QUEUE; then the redundancy functions of R287 and R289 and
the FRER generation of its stream.  A launch with a host error has free ports (log entry 6). -/
def launchPlan (s : State) (x : Launch) : List CCopy × Option (Nat × Nat) × State :=
  let w2 := x.pfx.getD 2 0
  let w3 := x.pfx.getD 3 0
  let host := 128 + x.lane
  let carry : Carry := { destKind := tst w2 23, dest := fld w2 0 14 }
  let r := destPorts s 8 carry
  let dest := if launchBad x r.1 then none else destRef carry
  let r := if launchBad x r.1 then
      ((maskPorts r.2 (r.2.free % 2 ^ 134)).filter (fun p => decide (fld w2 24 4 < queueCount p)), r.2.drawn)
    else r
  let note : Note := if tst w2 28 || fld w3 6 2 != 0 then .launch x.ctx x.pfx else .none
  let cs := (r.1.filter (· != host)).map (fun p =>
    ({ id := 0, frame := 0, port := p, queue := fld w2 24 4, toRef := dest, note := note } : CCopy))
  let sa := beAt x.inner 6 6
  let o := outbound r.2 (portRef s host) sa (beAt x.inner (afterTags none x.inner) 2 == 0x892F) none cs
  let h := fld w3 16 16
  let q := if tst w2 31 then streamRec o.2.2 h else (none, o.2.2)
  let g := match q.1 with
    | some e => if fld (e.getD 0 0) 27 2 = 2 then rtagSeq q.2 h |> fun g => (rtagCopies g.2 (some g.1) false o.1, g.2) else (o.1, q.2)
    | none => (o.1, q.2)
  -- a host error in its pairs or its stream leaves its copies open (R304)
  let g := if (tst w2 31 && streamErr s h 0 q.1) || outErr s (portRef s host) sa cs then freeCopies g.2 g.1 else g
  (g.1, o.2.1, g.2)

/-- At T − LEAD, or at once when that has passed, the first launch leaves the store for admission on feed 11 (R346, R347); its
cells go with it. -/
def launchHandoff (s : State) : State :=
  match s.ept.launches with
  | [] => s
  | x :: t =>
    if s.now + s.within 500 1000000 (s.rn .EPT_LEAD) < x.t || closed s 23 then s else
    let w2 := x.pfx.getD 2 0
    let s := occ ({ s with ept := { s.ept with launches := t } }.bump .EPT_LAUNCHED) 23 0x11 0
    let r := launchPlan s x
    repostAll <| originate r.2.2 {
      src := 134, feed := 11, ref := portRef s (128 + x.lane), rate := portRate s (128 + x.lane), t := s.stamp 0, bytes := x.inner
      cells := x.cells.zipIdx.map (fun c => (c.2, c.1)), head := min 128 (x.inner.length + 4), plan := r.1
      launch := some (x.t, x.dropLate), via := some (128 + x.lane), stitchSeq := r.2.1
      carry := { cls := fld w2 24 4 % 8, handleV := tst w2 31, handle := fld (x.pfx.getD 3 0) 16 16 } }

/-- A launch copy has not begun by T + LATE_TOL (R349): it is discarded, or counted once and sent as soon as it can begin. -/
def launchLate (s : State) (p q pos : Nat) : State :=
  match (queueCopies s p q)[pos]? with
  | none => s
  | some c =>
    match (s.frm c.frame).bind (fun f => f.launch) with
    | none => s
    | some (t, dropLate) =>
      if c.begun || c.late || decide (s.now < t + s.within 0 1000000 (s.rn .EPT_LATE_TOL)) then s
      else if dropLate then dropCopy ((s.bump .EPT_LATE_DROP).setFlags .EPT_STATUS 0 0 4) c
      else occ ((s.modCpy (fun x => x.id == c.id) (fun x => { x with late := true })).bump .EPT_LATE_TX) 23 0x12 0

/-- A reset of block 23 discards every waiting launch (R359). -/
def launchClear (s : State) : State :=
  isoDiscard { s with ept := { s.ept with launches := [] } } 23 s.ept.launches.length

end Sys2Proof.Machine
end

