-- ==== Sys2Proof/Machine/Ptp.lean ====
section
/-!
DEFINITION. Machine/Ptp.lean: the Timekeeper, time steps, the servo, the PTP engine and the time inputs and outputs
(13_time.md R305 to R338; 14_endpoint.md R355 to R357).
-/
namespace Sys2Proof.Machine

/-! ## Time values (R305) -/

/-- The four words of a time value (R305). -/
def TimeVal.words (t : TimeVal) : List Word := [wd (t.sec / 2 ^ 32), wd t.sec, wd t.ns, wd t.frac]

/-! ## The servo's states (R329) -/

/-- The servo goes to a state, and its flags tell of LOCKED entered or left and of HOLDOVER entered. -/
def servoTo (s : State) (x : Servo) : State :=
  let o := s.time.servo
  let s := { s with time := { s.time with
    servo := x
    cause := if x = .holdover then s.time.cause else 0
    holdTick := if x = .holdover then (if o = .holdover then s.time.holdTick else some s.time.ticks) else none } }
  if o = x then s
  else s.setFlags .TK_STATUS 0 0
    ((if x = .locked then 1 else 0) ||| (if o = .locked then 2 else 0) ||| (if x = .holdover then 4 else 0))

/-- ACQUIRING with LOCK_RUN 0, I kept. -/
def acquire (s : State) : State := servoTo { s with time := { s.time with lockRun := 0, badRun := 0 } } .acquiring

/-- HOLDOVER with its cause: FREQ becomes −I (R327, R330). -/
def holdover (s : State) (cause : Nat) : State :=
  let s := servoTo { s with time := { s.time with freq := clampFreq s (-s.time.integ) } } .holdover
  { s with time := { s.time with cause := cause } }

/-- A condition that takes ACQUIRING and LOCKED to HOLDOVER. -/
def holdFrom (s : State) (cause : Nat) : State :=
  if s.time.servo = .acquiring ∨ s.time.servo = .locked then holdover s cause else s

/-- SRC of TK_SERVO_SRC. -/
def servoSrc (s : State) : Nat := s.rf .TK_SERVO_SRC 0 0 30 2

/-- The parent's domain. -/
def parentDom (s : State) : Nat := s.rf .TK_SERVO_SRC 0 0 28 2

/-- The parent port. -/
def parentPort (s : State) : Nat := s.rf .TK_SERVO_SRC 0 0 0 8

/-- SRC is 0b11, or names a port that does not exist or a domain without EN: a host error of the servo (R338). -/
def srcBad (s : State) : Bool :=
  servoSrc s == 3 || (servoSrc s == 1 && !(decide (parentPort s < 128) && portPresent s (parentPort s) && tst (s.rw .TK_DOM_CFG (parentDom s)) 31))

/-- A host error leaves the servo in a free state, with a free FREQ and I (R338; log entry 6). -/
def servoWild (s : State) : State :=
  let n := s.free
  let x : Servo := match n % 4 with
    | 0 => .free
    | 1 => .acquiring
    | 2 => .locked
    | _ => .holdover
  let t := servoTo s.drawn x
  { t with time := { t.time with
    freq := clampFreq s (Config.free (s.freeCtr + 1) : Int), integ := (Config.free (s.freeCtr + 2) : Int)
    lockRun := n / 4 % 16, badRun := n / 64 % 16 }, freeCtr := s.freeCtr + 3 }

/-- A strobe of group 10 has given TK_SERVO_SRC the place of `old` (R329).  A host error of SRC leaves the servo in a free state
(R338; log entry 6). -/
def servoStrobe (s : State) (old : Word) : State :=
  let new := s.rw .TK_SERVO_SRC
  if srcBad s then servoWild s
  else match fld new 30 2 with
  | 0 => servoTo s .free
  | _ =>
    if s.time.servo = .free then
      let f := freqNow s
      acquire { s with time := { s.time with integ := -f, freq := f } }
    else if fld new 28 4 ≠ fld old 28 4 ∨ fld new 0 8 ≠ fld old 0 8 then acquire s
    else s

/-- The release of block 21 restarts the servo and every peer-delay filter, and clears PD_VALID (R310). -/
def servoRelease (s : State) : State :=
  let f := freqNow s
  let s := { s with time := { s.time with
    integ := -f, freq := f, fuWait := none, lastSync := none, dreq := none, seqs := [], pds := [], pathDelay := 0
    pathValid := false, fus := [], pfus := [], retry := [] } }
  let s := if servoSrc s = 0 then servoTo s .free else acquire s
  (List.range 128).foldl (fun s p =>
    if tst (s.rw .TK_PORT_PD_STATUS p) 31 then (s.wr .TK_PORT_PD_STATUS p 0 0).setFlags .TK_STATUS 0 0 256
    else s.wr .TK_PORT_PD_STATUS p 0 0) s

/-! ## Steps (R273, R328, R331, R334, R408) -/

/-- A time output is driven: the device is ACTIVE, or gives its role up (R411, R414), and 10 µs of a takeover have passed (R421). -/
def drives (s : State) : Bool :=
  (s.twin.role == .active || s.twin.role == .releasing) && s.twin.since.all (fun a => decide (a + 10000 ≤ s.mono))

/-- A level of a time output at an instant in 1/16 ns; PPS_OUT1 is copied to the GPIO balls with FUNC 2 (R455). -/
def timePin (s : State) (pin : Nat) (high : Bool) (t : Int) : State :=
  let copies := if pin ≠ 50 then [] else (s.roast.pins.filter (fun w => fld w 18 4 == 2 && 32 ≤ fld w 22 10 && fld w 22 10 < 48)).map
    (fun w => fld w 22 10)
  if drives s then copies.foldl (fun s p => s.emit (.pin p high t)) (s.emit (.pin pin high t)) else s

/-- The Timekeeper's time in 1/16 ns. -/
def now16 (s : State) : Int := (16 * s.now + s.time.now.frac / 2 ^ 28 : Nat)

/-- A step ends the pulses and the IRIG frame in progress (R334). -/
def outputsCut (s : State) : State :=
  let s := [0, 1].foldl (fun s n => if mget false s.time.pps n then timePin s (49 + n) false (now16 s) else s) s
  let s := if s.time.irigBusy then timePin s 51 false (now16 s) else s
  { s with time := { s.time with pps := [], irigBusy := false } }

/-- A step ends the frames in progress on the line channels' outputs (R364). -/
def linesCut (s : State) : State :=
  (s.chans.filter (fun x => x.2.sending)).foldl (fun s x => (s.setChan x.1 { (s.chan x.1) with sending := false }).emit (.lineCut x.1)) s

/-- A window in progress is given up, without a record (R406, R408). -/
def windowCut (s : State) : State :=
  if tst (s.rw .PCT_BW_CFG) 31 && !closed s 28 then
    { s with pct := { s.pct with rx := [], tx := [] } }.setFlags .PCT_STATUS 0 0 8
  else s

/-- The time becomes `n` 2^-32 ns by a step, at this tick (R331): a result out of range leaves a free time (R338; log entry 6). -/
def stepTo (s : State) (auto : Bool) (n : Int) : State :=
  let ok := decide (0 ≤ n) && decide (n < (2 ^ 64 * 1000000000 * 2 ^ 32 : Nat))
  let s := linesCut (outputsCut s)
  let s := if ok then { s with time := { s.time with now := TimeVal.of n.toNat } }
    else { s with time := { s.time with now := TimeVal.of (s.free % (2 ^ 64 * 1000000000 * 2 ^ 32)) } }.drawn
  let s := windowCut ((s.bump .TK_STEPS).setFlags .TK_STATUS 0 0 16)
  let s := occ s 37 0x10 0
  let s := if auto then occ s 37 0x11 0 else s
  gatesStepped (if s.time.servo = .free then s else acquire s)

/-- One time-PLL tick (R306, R310): the time advances by INCR, from the second tick on; then a step that waits executes (R328,
R331). -/
def timekeeperTick (s : State) : State :=
  if s.time.pllLost then s else
  let n : Int := if s.time.ticks = 0 then s.time.now.units else s.time.now.units + incr s
  let t := { s with time := { s.time with
    now := TimeVal.of n.toNat, ticks := s.time.ticks + 1, cmd := none, autoStep := none
    auto := if s.time.autoStep.isSome then false else s.time.auto } }
  let t := match s.time.autoStep with
    | some x => stepTo t true (n - 65536 * x)
    | none => t
  match s.time.cmd with
  | some (a, v) =>
    let bad := decide (v.ns > 999999999)
    let m : Int := t.time.now.units
    stepTo t false (if bad then -1 else if a = 1 then v.units else if a = 2 then m + v.units else m - v.units)
  | none => t

/-- The time PLL locks again after a loss (R310): TIME_LOST, HOLDOVER, and the automatic step is armed. -/
def pllRelock (s : State) : State :=
  if !s.time.pllLost || !s.time.begun then s else
  holdover ({ s with time := { s.time with pllLost := false, auto := true } }.setFlags .TK_STATUS 0 0 512) 6

/-- A write of TK_CMD (R328, R331); a reserved ACTION leaves the servo unpredictable, and changes nothing else (R338). -/
def tkCmd (s : State) (w : Word) : State :=
  match fld w 29 3 with
  | 0 => s
  | 4 => { s with time := { s.time with auto := true } }
  | 5 => { s with time := { s.time with auto := false } }
  | 6 | 7 => servoWild s
  | a =>
    { s with time := { s.time with cmd := some (a,
      ⟨s.rn .TK_STEP 0 * 2 ^ 32 + s.rn .TK_STEP 1, s.rn .TK_STEP 2, s.rn .TK_STEP 3⟩) } }

/-- TK_STATE. -/
def tkState (s : State) : Word :=
  put 29 3 (match s.time.servo with
    | .free => 0
    | .acquiring => 1
    | .locked => 2
    | .holdover => 3) ||| put 26 3 s.time.cause ||| bitw 25 s.time.auto ||| put 21 4 s.time.lockRun

/-- TK_FREQ and TK_INTEGRAL, in 1/256 ppb. -/
def tkFreq (s : State) : Word := wOfInt (freqNow s / 2 ^ 24)
def tkIntegral (s : State) : Word := wOfInt (s.time.integ / 2 ^ 24)

/-! ## Samples (R325 to R328) -/

/-- The servo takes a sample of `x` 2^-16 ns, with Ts = 2^`ls` s. -/
def sample (s : State) (x ls : Int) : State :=
  let s := (occ (s.bump .TK_SAMPLES) 21 0x12 (parentPort s)).wr .TK_LAST_OFFSET 0 0 (wOfInt (max (-2 ^ 31) (min (2 ^ 31 - 1) (x / 65536))))
  let mag := x.natAbs
  let lim := s.within 1 4294967295 (s.rn .TK_STEP_LIMIT)
  let thr := s.within 1 65535 (s.rf .TK_LOCK_CFG 0 0 16 16)
  let cnt := s.within 1 15 (s.rf .TK_LOCK_CFG 0 0 0 4)
  if s.time.auto then { s with time := { s.time with autoStep := some x } }
  else if mag > 65536 * lim then
    let s := occ ((s.bump .TK_REFUSED).setFlags .TK_STATUS 0 0 8) 21 0x13 (parentPort s)
    if s.time.servo = .free then s else holdover s 1
  else
    let scale (k : Nat) : Int := x * k * 2 ^ (4 - ls).toNat
    let inew := s.time.integ + scale (s.rf .TK_SERVO_GAIN 0 0 0 16)
    let y := scale (s.rf .TK_SERVO_GAIN 0 0 16 16) + inew
    let past := decide ((y.natAbs : Int) > maxFreq s)
    let s := if past then s.setFlags .TK_STATUS 0 0 1024 else s
    let near := decide (mag ≤ 65536 * thr)
    let s := { s with time := { s.time with
      integ := if past then s.time.integ else inew
      freq := -(clampFreq s y)
      lockRun := if near then min 15 (s.time.lockRun + 1) else 0
      badRun := if near then 0 else s.time.badRun + 1 } }
    match s.time.servo with
    | .free => s
    | .acquiring => if s.time.lockRun ≥ cnt then servoTo { s with time := { s.time with badRun := 0 } } .locked else s
    | .locked => if s.time.badRun ≥ cnt then servoTo s .acquiring else s
    | .holdover => servoTo s .acquiring

/-! ## Messages received (R314, R315) -/

/-- Domain `d` is enabled and the engine serves it: it is no UDP domain (R314). -/
def domServed (s : State) (d : Nat) : Bool := tst (s.rw .TK_DOM_CFG d) 31 && !tst (s.rw .TK_DOM_CFG d) 27

/-- Domain `d` is peer-to-peer. -/
def domP2p (s : State) (d : Nat) : Bool := tst (s.rw .TK_DOM_CFG d) 29

/-- Domain `d` is two-step. -/
def domTwoStep (s : State) (d : Nat) : Bool := tst (s.rw .TK_DOM_CFG d) 28

/-- The domain of a message whose PTP header is `b` (R314). -/
def msgDom (s : State) (b : Bytes) : Option Nat :=
  (List.range 4).find? (fun d =>
    let w := s.rw .TK_DOM_CFG d
    domServed s d && fld w 0 8 == beAt b 4 1 && fld w 20 4 == beAt b 0 1 / 16 && fld w 12 8 == beAt b 5 1)

/-- The PTP message of a layer-2 frame, from byte 0 of its header. -/
def ptpBody (s : State) (port : Nat) (f : Bytes) : Option Bytes :=
  let b := f.take (f.length - 4)
  let o := afterTags (altTpid s (pipeOf port)) b
  let o := if beAt b o 2 = 0x892F then o + 6 else o
  if beAt b o 2 = 0x88F7 ∧ b.length ≥ o + 2 + 34 ∧ beAt b (o + 3) 1 % 16 = 2 then some (b.drop (o + 2)) else none

/-- The 64-bit second congruent to a 48-bit one and nearest the device's own (R308). -/
def nearSec (s : State) (bits v : Nat) : Nat :=
  let m := 2 ^ bits
  let now := s.time.now.sec
  let base := now / m * m + v % m
  if base > now + m / 2 ∧ base ≥ m then base - m else if now > base + m / 2 then base + m else base

/-- A timestamp field at byte `o`, in 2^-16 ns. -/
def stampAt (s : State) (b : Bytes) (o : Nat) : Int :=
  ((nearSec s 48 (beAt b o 6) * 1000000000 + beAt b (o + 6) 4) * 65536 : Nat)

/-- The correctionField, in 2^-16 ns. -/
def cfAt (b : Bytes) : Int := sgn 64 (beAt b 8 8)

/-- The port identity of port `p`. -/
def portId (s : State) (p : Nat) : Nat := (s.rn .TK_CLOCK_ID_HI * 2 ^ 32 + s.rn .TK_CLOCK_ID_LO) * 65536 + (p + 1) % 65536

/-- A message that the engine does not consume (R315). -/
def ptpIgnore (s : State) : State := s.bump .TK_RX_IGNORED

/-- A message is consumed in domain `d`. -/
def ptpTake (s : State) (d port : Nat) : State := occ (s.bump .TK_DOM_RX d) 21 0x11 port

/-- A message of type `mtype` reaches the engine: it is discarded with block 21, ignored, or handed on with its domain. -/
def ptpRx (s : State) (mtype port : Nat) (f : Bytes) (k : State → Nat → Bytes → State) : State :=
  if closed s 21 then isoDiscard s 21
  else if !domOn s 220 then s
  else match ptpBody s port f with
    | none => ptpIgnore s
    | some b =>
      if beAt b 0 1 % 16 ≠ mtype then ptpIgnore s
      else match msgDom s b with
        | none => ptpIgnore s
        | some d => k s d b

/-- The message comes from the parent: on the parent port, in the parent domain (R314). -/
def fromParent (s : State) (d port : Nat) : Bool := servoSrc s == 1 && d == parentDom s && port == parentPort s

/-- LOG_SYNC of domain `d`. -/
def logSync (s : State) (d : Nat) : Int := sgn 4 (s.rf .TK_DOM_INT d 0 28 4)

/-- The parent's delay in 2^-16 ns, while it is valid (R325). -/
def parentDelay (s : State) (d port : Nat) : Option Int :=
  if domP2p s d then
    if tst (s.rw .TK_PORT_PD_STATUS port) 31 then some ((mget {} s.time.pds port).delay / 65536) else none
  else if s.time.pathValid then some (s.time.pathDelay / 65536) else none

/-- A Sync, or a Sync and its Follow_Up, gives a sample (R325), unless the delay is not valid; a LOG_SYNC out of its range leaves
open with which interval (R338; log entry 6). -/
def ptpSample (s : State) (d port : Nat) (t1 t2 c : Int) : State :=
  let s := { s with time := { s.time with lastSync := some (t1, t2, c) } }
  match parentDelay s d port with
  | none => s
  | some dl =>
    let x := t2 - t1 - c - dl - 4096 * sgn 32 (s.rn .TK_PORT_ASYM port)
    if -7 ≤ logSync s d ∧ logSync s d ≤ 4 then sample s x (logSync s d) else sample s.drawn x ((s.free % 12 : Nat) - 7)

/-- Sync (R325): a sample at once, or a wait for its Follow_Up in a two-step domain. -/
def syncRx (s : State) (port : Nat) (f : Bytes) (t : Nat) : State :=
  ptpRx s 0 port f (fun s d b =>
    if !fromParent s d port then ptpIgnore s
    else
      let s := ptpTake s d port
      if domTwoStep s d then { s with time := { s.time with fuWait := some (beAt b 30 2, t, cfAt b) } }
      else ptpSample s d port (stampAt s b 34) t (cfAt b))

/-- Follow_Up (R324, R325). -/
def followUpRx (s : State) (port : Nat) (f : Bytes) : State :=
  ptpRx s 8 port f (fun s d b =>
    if !fromParent s d port then ptpIgnore s
    else
      let s := ptpTake s d port
      match s.time.fuWait with
      | some (q, t2, c) =>
        if q = beAt b 30 2 then
          ptpSample { s with time := { s.time with fuWait := none } } d port (stampAt s b 34) t2 (c + cfAt b)
        else s.bump .TK_FU_MISMATCH
      | none => s.bump .TK_FU_MISMATCH)

/-- Announce (R324). -/
def announceRx (s : State) (port : Nat) (f : Bytes) : State :=
  ptpRx s 0xB port f (fun s d b =>
    if !fromParent s d port then ptpIgnore s
    else
      let s := ptpTake s d port
      let hi := wd (beAt b 53 4)
      let lo := wd (beAt b 57 4)
      if hi = s.rw .TK_GM_ID_HI ∧ lo = s.rw .TK_GM_ID_LO then s
      else
        let s := ((s.wr .TK_GM_ID_HI 0 0 hi).wr .TK_GM_ID_LO 0 0 lo).setFlags .TK_STATUS 0 0 32
        if s.time.servo = .free then s else acquire s)

/-! ## Messages sent (R316, R357) -/

/-- The number of the next message of a type at a port in a domain (R316). -/
def nextSeq (s : State) (p d mtype : Nat) : Nat × State :=
  let k := (4 * p + d) * 16 + mtype
  let q := mget 0 s.time.seqs k
  (q, { s with time := { s.time with seqs := mput 0 s.time.seqs k ((q + 1) % 65536) } })

/-- The frame of a message at a front port (R316). -/
def ptpFrame (s : State) (m : PtpMsg) : Bytes :=
  let pd := [2, 3, 0xA].contains m.kind
  let tg := s.rw .TK_DOM_TAG m.dom
  let tag := if tst tg 31 then beBytes 2 0x8100 ++ beBytes 2 (fld tg 13 3 <<< 13 ||| fld tg 0 12) else []
  beBytes 6 (if pd then 0x0180C200000E else 0x011B19000000) ++ beBytes 2 (s.rf .CTL_DEV_MAC_HI 0 0 0 16) ++
    beBytes 4 (s.rn .CTL_DEV_MAC_LO) ++ tag ++ beBytes 2 0x88F7 ++ m.body

/-- A message is sent if a local-store buffer serves it; its frame holds that buffer until it has left (R316, R356).  `none` where
the request fails. -/
def ptpTry (s : State) (m : PtpMsg) : Option State × State :=
  let f := pad60 (ptpFrame s m)
  let r := lbmTake s 2 (f.length + 16)
  match r.1 with
  | none => (none, r.2)
  | some k =>
    let s := r.2
    let pr := match pairOf s (portRef s m.port) with
      | some (n, b) => if pairMode s n ≠ 0 ∧ [0, 8, 0xB].contains m.kind then some (n, b) else none
      | none => none
    let q := match pr with
      | some (n, _) => s.rf .RED_PAIR_SEQ n 0 0 16
      | none => 0
    let s := match pr with
      | some (n, _) => s.wr .RED_PAIR_SEQ n 0 (put 0 16 (q + 1))
      | none => s
    let red : RedEdit := match pr with
      | some (n, b) => { hsrAdd := some (q, 2 * s.rf .RED_PAIR_CFG n 0 26 3 + b2n b) }
      | none => {}
    let s := occ s 21 0x10 m.port
    let s := if m.kind = 3 then s.bump .TK_PORT_PD_RESP m.port
      else if m.kind = 2 then s.bump .TK_PORT_PD_SENT m.port else s
    let s := originate (bufPut s k 16 f) {
      src := 133, feed := 10, ref := portRef s 133, rate := portRate s 133, t := s.stamp 0, bytes := f, buf := some (2, k)
      plan := [{ id := 0, frame := 0, port := m.port, queue := s.rf .TK_DOM_CFG m.dom 0 24 3, kind := .own, store := true, red := red
                 note := m.note }] }
    (some s, s)

/-- A host error makes the message unpredictable (R338): a LOG field or ANN_TIMEOUT of its domain outside its range, TRANSPORT UDP
with ROLE 1, or the port's state 0b11. -/
def msgWild (s : State) (m : PtpMsg) : Bool :=
  let out (lo hi : Int) (f : Fam) (i b : Nat) : Bool := let v := sgn 4 (s.rf f i 0 b 4); decide (v < lo) || decide (hi < v)
  let n := s.rf .TK_DOM_INT m.dom 0 16 4
  out (-7) 4 .TK_DOM_INT m.dom 28 || out (-3) 4 .TK_DOM_INT m.dom 24 || out (-7) 6 .TK_DOM_INT m.dom 20 || decide (n < 2) ||
    decide (10 < n) || out (-7) 5 .TK_PORT_CFG m.port 24 || s.rf .TK_DOM_CFG m.dom 0 27 1 + s.rf .TK_DOM_CFG m.dom 0 30 1 == 2 ||
    s.rf .TK_PSTATE m.dom (m.port / 16) (2 * (m.port % 16)) 2 == 3

/-- An Announce carries the time of its sending in whole nanoseconds (R322). -/
def PtpMsg.atSend (s : State) (m : PtpMsg) : PtpMsg :=
  if m.kind = 0xB then { m with body := patch m.body 34 (beBytes 6 s.time.now.sec ++ beBytes 4 s.time.now.ns) } else m

/-- The message is sent, or waits for a buffer (R357); an unpredictable one has a free body (log entry 6). -/
def ptpSend (s : State) (m : PtpMsg) : State :=
  let m := m.atSend s
  let r := if msgWild s m then ptpTry s.drawn { m with body := beBytes m.body.length s.free } else ptpTry s m
  match r.1 with
  | some s => s
  | none => { r.2 with time := { r.2.time with retry := r.2.time.retry ++ [m] } }

/-- Every 1 µs the waiting messages are tried again (R357); a Sync or Announce whose allowance has passed is skipped. -/
def ptpRetry (s : State) : State :=
  if closed s 21 then s else
  s.time.retry.foldl (fun s m =>
    if (m.kind = 0 ∨ m.kind = 0xB) ∧ s.mono > m.due + 200000 then s.bump .LBM_FAIL 2 (poolFor ((pad60 (ptpFrame s m)).length + 16))
    else ptpSend s m) { s with time := { s.time with retry := [] } }

/-- The engine runs: block 21 is not closed and domain 220 is awake. -/
def ptpRuns (s : State) : Bool := !closed s 21 && domOn s 220

/-- A Delay_Req on a MASTER port of an end-to-end domain is answered (R321). -/
def delayReqRx (s : State) (port : Nat) (f : Bytes) (t : Nat) : State :=
  ptpRx s 1 port f (fun s d b =>
    if port < 128 ∧ !domP2p s d ∧ s.rf .TK_PSTATE d (port / 16) (2 * (port % 16)) 2 = 2 ∧ !fromParent s d port then
      let s := ptpTake s d port
      ptpSend s { kind := 9, dom := d, port := port, seq := beAt b 30 2, due := s.mono
                  body := ptpHead s d 9 54 0 (cfAt b - ((t % 65536 : Nat) : Int)) port (beAt b 30 2) 3
                    (logByte s .TK_DOM_INT d 20) ++ ptpStamp t ++ slice b 20 10 }
    else ptpIgnore s)

/-! ## Filters (R320, R321) -/

/-- A filtered delay in 2^-32 ns: the first valid sample, then a share of each difference. -/
def filtered (s : State) (port : Nat) (valid : Bool) (old raw : Int) : Int :=
  if valid then old + (raw - old) / 2 ^ (s.within 0 8 (s.rf .TK_PORT_CFG port 0 20 4)) else raw

/-- A raw delay in 2^-32 ns is accepted (R320). -/
def rawOk (s : State) (port : Nat) (raw : Int) : Bool :=
  decide (0 ≤ raw) && decide (raw ≤ (s.within 1 65535 (s.rf .TK_PORT_CFG port 0 0 16) * 2 ^ 32 : Nat))

/-- PD_VALID of a port changes (R320): PD_CHANGE; the servo loses its parent's delay (R329). -/
def pdValid (s : State) (port : Nat) (v : Bool) : State :=
  let w := s.rw .TK_PORT_PD_STATUS port
  if tst w 31 = v then s else
  let s := (s.wr .TK_PORT_PD_STATUS port 0 (setFld w 31 1 (b2n v))).setFlags .TK_STATUS 0 0 256
  if !v && fromParent s (parentDom s) port && domP2p s (parentDom s) then holdFrom s 4 else s

/-- A lost or refused request (R320). -/
def pdLost (s : State) (port : Nat) : State :=
  let w := s.rw .TK_PORT_PD_STATUS port
  let n := min 3 (fld w 0 2 + 1)
  let s := s.wr .TK_PORT_PD_STATUS port 0 (setFld w 0 2 n)
  if n = 3 then pdValid s port false else s

/-- The peer-delay record of a port changed. -/
def setPd (s : State) (port : Nat) (x : Pd) : State := { s with time := { s.time with pds := mput {} s.time.pds port x } }

/-- A request has its sample (R320): it is refused, or filtered and counted. -/
def pdSample (s : State) (port : Nat) (raw : Int) : State :=
  let x := mget {} s.time.pds port
  if !rawOk s port raw then pdLost (setPd s port { x with done := true, wait := none }) port
  else
    let v := tst (s.rw .TK_PORT_PD_STATUS port) 31
    let d := filtered s port v x.delay raw
    let s := (setPd s port { x with
      done := true, wait := none, delay := d, prior := some (x.delay, s.rw .TK_PORT_PD_STATUS port) }).bump .TK_PORT_PD_OK port
    let s := (s.wr .TK_PORT_DELAY port 0 (wOfInt (d / 2 ^ 28))).wr .TK_PORT_PD_STATUS port 0
      (setFld (s.rw .TK_PORT_PD_STATUS port) 0 2 0)
    pdValid s port true

/-- A second responder answers the request (R320): PD_MULTI, and its sample is refused, once, also where it has been filtered
already (log entry 115). -/
def pdMulti (s : State) (port : Nat) : State :=
  let x := mget {} s.time.pds port
  let s := s.wr .TK_PORT_PD_STATUS port 0 (s.rw .TK_PORT_PD_STATUS port ||| bitw 30 true)
  let y := { x with done := true, multi := true, wait := none, prior := none }
  if x.multi then s
  else match x.prior with
    | some (d, w) =>
      let s := (setPd s port { y with delay := d }).wr .TK_PORT_PD_OK port 0 (s.rw .TK_PORT_PD_OK port - 1)
      let s := s.wr .TK_PORT_DELAY port 0 (wOfInt (d / 2 ^ 28))
      let s := s.wr .TK_PORT_PD_STATUS port 0 (setFld (s.rw .TK_PORT_PD_STATUS port) 0 2 (fld w 0 2))
      pdLost (pdValid s port (tst w 31)) port
    | none => if x.done then setPd s port y else pdLost (setPd s port y) port

/-- A Pdelay_Req of a peer-to-peer domain on a port with PD_RESP is answered (R319). -/
def pdelayReqRx (s : State) (port : Nat) (f : Bytes) (t : Nat) : State :=
  ptpRx s 2 port f (fun s d b =>
    if port < 128 ∧ tst (s.rw .TK_PORT_CFG port) 30 ∧ domP2p s d then
      let s := ptpTake s d port
      let two := domTwoStep s d
      let q := beAt b 30 2
      let frac : Int := ((t % 65536 : Nat) : Int)
      ptpSend s { kind := 3, dom := d, port := port, seq := q, due := s.mono
                  body := ptpHead s d 3 54 (if two then 0x200 else 0) (if two then cfAt b - frac else cfAt b) port q 5 0x7F ++
                    (if two then ptpStamp t else beBytes 10 0) ++ slice b 20 10
                  note := .pdelayResp port q t (!two) (beBytes 1 d ++ slice b 20 10) }
    else ptpIgnore s)

/-- A response to this port's outstanding request: its port, domain, number and requestingPortIdentity match (R320). -/
def pdMatch (s : State) (d port : Nat) (b : Bytes) : Bool :=
  let x := mget {} s.time.pds port
  port < 128 && tst (s.rw .TK_PORT_CFG port) 31 && d == s.rf .TK_PORT_CFG port 0 28 2 && x.sent && x.t1.isSome &&
    beAt b 30 2 == x.seq && beAt b 44 10 == portId s port

/-- Pdelay_Resp (R320). -/
def pdelayRespRx (s : State) (port : Nat) (f : Bytes) (t : Nat) : State :=
  ptpRx s 3 port f (fun s d b =>
    if !pdMatch s d port b then ptpIgnore s
    else
      let s := ptpTake s d port
      let x := mget {} s.time.pds port
      let me := beAt b 20 10
      match x.who with
      | some w =>
        if w = me then s else pdMulti s port
      | none =>
        let x := { x with who := some me }
        if nbit (beAt b 6 1) 1 then setPd s port { x with wait := some (t, (stampAt s b 34).toNat, cfAt b) }
        else pdSample (setPd s port x) port (((t : Int) - x.t1.getD 0 - cfAt b) * 32768))

/-- Pdelay_Resp_Follow_Up (R320). -/
def pdelayFollowRx (s : State) (port : Nat) (f : Bytes) : State :=
  ptpRx s 0xA port f (fun s d b =>
    if !pdMatch s d port b then ptpIgnore s
    else
      let s := ptpTake s d port
      let x := mget {} s.time.pds port
      match x.wait with
      | some (t4, t2, c) =>
        if x.who = some (beAt b 20 10) then
          pdSample s port (((t4 : Int) - x.t1.getD 0 - (stampAt s b 34 - t2 + c + cfAt b)) * 32768)
        else s
      | none => s)

/-- Delay_Resp on the parent port of an end-to-end parent domain, addressed to the device (R315, R321). -/
def delayRespRx (s : State) (port : Nat) (f : Bytes) : State :=
  ptpRx s 9 port f (fun s d b =>
    if !fromParent s d port || domP2p s d || beAt b 44 10 != portId s port then ptpIgnore s
    else
      let s := ptpTake s d port
      match s.time.dreq, s.time.lastSync with
      | some (q, some t3), some (t1, t2, c) =>
        if q ≠ beAt b 30 2 then s
        else
          let raw := ((t2 - t1 - c) + (stampAt s b 34 - t3 - cfAt b)) * 32768
          let s := { s with time := { s.time with dreq := none } }
          if !rawOk s port raw then s
          else
            let dl := filtered s port s.time.pathValid s.time.pathDelay raw
            { s with time := { s.time with pathDelay := dl, pathValid := true } }.wr .TK_PATH_DELAY 0 0 (wOfInt (dl / 2 ^ 28))
      | _, _ => s)

/-! ## Messages that fall due (R319 to R322, R324) -/

/-- The first Follow_Up whose t1 has been taken is sent (R322). -/
def followUpSend (s : State) : State :=
  match s.time.fus with
  | [] => s
  | m :: t => if !ptpRuns s then s else ptpSend { s with time := { s.time with fus := t } } m

/-- The first Pdelay_Resp_Follow_Up whose t3 has been taken is sent (R319). -/
def pdelayFollowSend (s : State) : State :=
  match s.time.pfus with
  | [] => s
  | m :: t => if !ptpRuns s then s else ptpSend { s with time := { s.time with pfus := t } } m

/-- The MASTER ports of domain `d`, ascending, less the parent port of the parent domain (R314, R322). -/
def masterPorts (s : State) (d : Nat) : List Nat :=
  (List.range 128).filter (fun p => portPresent s p && s.rf .TK_PSTATE d (p / 16) (2 * (p % 16)) 2 == 2 && !fromParent s d p)

/-- Domain `d` is a boundary clock's (R322); one with TRANSPORT UDP is a host error, and whether it is served is free (R338; log
entry 6). -/
def domBc (s : State) (d : Nat) : Bool :=
  let w := s.rw .TK_DOM_CFG d
  d < 4 && tst w 31 && tst w 30 && (!tst w 27 || nbit s.free 0)

/-- Sync falls due in domain `d` (R322). -/
def syncDue (s : State) (d : Nat) : State :=
  if !ptpRuns s || !domBc s d then s else
  (masterPorts s d).foldl (fun s p =>
    let q := nextSeq s p d 0
    let two := domTwoStep s d
    ptpSend q.2 { kind := 0, dom := d, port := p, seq := q.1, due := s.mono
                  body := ptpHead s d 0 44 (if two then 0x200 else 0) 0 p q.1 0 (logByte s .TK_DOM_INT d 28) ++ beBytes 10 0
                  note := .sync d p q.1 (!two) }) s

/-- The Announce of domain `d` at port `p` (R322): the template with the fields that the engine overwrites. -/
def announceBody (s : State) (d p q : Nat) : Bytes :=
  let tpl := wsBytes ((List.range 32).map (fun w => s.rw .TK_ANN_TPL d w))
  let n := s.within 64 128 (beAt tpl 2 2)
  let w := s.rw .TK_DOM_CFG d
  let b := tpl.take (n % 256)
  let b := patch (patch (patch b 0 (beBytes 1 (fld w 20 4 * 16 + beAt b 0 1 % 16))) 4 (beBytes 1 (fld w 0 8))) 5 (beBytes 1 (fld w 12 8))
  let b := patch (patch (patch b 8 (beBytes 8 0)) 20 (beBytes 10 (portId s p))) 30 (beBytes 2 q)
  patch (patch b 33 (beBytes 1 (logByte s .TK_DOM_INT d 24))) 34 (beBytes 6 s.time.now.sec ++ beBytes 4 s.time.now.ns)

/-- Announce falls due in domain `d` (R322). -/
def announceDue (s : State) (d : Nat) : State :=
  if !ptpRuns s || !domBc s d then s else
  (masterPorts s d).foldl (fun s p =>
    let q := nextSeq s p d 0xB
    ptpSend q.2 { kind := 0xB, dom := d, port := p, seq := q.1, due := s.mono, body := announceBody s d p q.1 }) s

/-- A port with PD_EN sends a Pdelay_Req (R320); a request without a sample counts as lost. -/
def pdelayReqDue (s : State) (p : Nat) : State :=
  let cfg := s.rw .TK_PORT_CFG p
  let d := fld cfg 28 2
  if !ptpRuns s || p ≥ 128 || !portPresent s p || !tst cfg 31 || !domServed s d then s else
  let x := mget {} s.time.pds p
  let s := if x.sent && !x.done then pdLost s p else s
  let q := nextSeq s p d 2
  let s := setPd q.2 p { (mget {} q.2.time.pds p) with
    seq := q.1, sent := true, t1 := none, who := none, done := false, multi := false, prior := none, wait := none }
  ptpSend s { kind := 2, dom := d, port := p, seq := q.1, due := s.mono, note := .pdelayReq p q.1
              body := ptpHead s d 2 54 0 0 p q.1 5 0x7F ++ beBytes 20 0 }

/-- A Delay_Req on the parent port of an end-to-end parent domain (R321). -/
def delayReqDue (s : State) (d : Nat) : State :=
  if !ptpRuns s || servoSrc s ≠ 1 || d ≠ parentDom s || !domServed s d || domP2p s d || !portPresent s (parentPort s) then s else
  let p := parentPort s
  let q := nextSeq s p d 1
  let s := { q.2 with time := { q.2.time with dreq := some (q.1, none) } }
  ptpSend s { kind := 1, dom := d, port := p, seq := q.1, due := s.mono, note := .delayReq d p q.1
              body := ptpHead s d 1 44 0 0 p q.1 1 0x7F ++ beBytes 10 0 }

/-- No Sync has come for 3 intervals from the parent (R324). -/
def syncLost (s : State) (d : Nat) : State :=
  if !ptpRuns s || servoSrc s ≠ 1 || d ≠ parentDom s then s else holdFrom (s.setFlags .TK_STATUS 0 0 64) 2

/-- No Announce has come for ANN_TIMEOUT intervals from the parent (R324). -/
def annLost (s : State) (d : Nat) : State :=
  if !ptpRuns s || servoSrc s ≠ 1 || d ≠ parentDom s then s else holdFrom (s.setFlags .TK_STATUS 0 0 128) 3

/-- A strobe, or a snapshot that is applied, sets an enable of the time outputs or inputs (R473). -/
def tioWanted (old s : State) : Bool :=
  [(Fam.TIO_PPS_OUT, 0), (.TIO_PPS_OUT, 1), (.TIO_IRIG_CFG, 0), (.TIO_PPS_IN_CFG, 0)].any (fun x =>
    tst (s.rw x.1 x.2) 31 && !tst (old.rw x.1 x.2) 31)

/-! ## PPS input (R332) -/

/-- Time I/O runs: block 22 is not closed and domain 234 is awake. -/
def tioRuns (s : State) : Bool := !closed s 22 && domOn s 234

/-- A ball serves as the PPS input (R455): PPS_IN unless its FUNC is 1, or a GPIO with FUNC 1. -/
def ppsBall (s : State) : Bool :=
  !s.roast.pins.any (fun w => fld w 22 10 == 48 && fld w 18 4 == 1) ||
  s.roast.pins.any (fun w => 32 ≤ fld w 22 10 && fld w 22 10 < 48 && fld w 18 4 == 1)

/-- The PPS input is assigned to two pins, so that it is unpredictable (R82, R455): PPS_IN with FUNC 0 beside a GPIO with FUNC 1, or
two such GPIOs. -/
def ppsShared (s : State) : Bool :=
  let n := (s.roast.pins.filter (fun w => 32 ≤ fld w 22 10 && fld w 22 10 < 48 && fld w 18 4 == 1)).length
  decide (2 ≤ n) || (n == 1 && !s.roast.pins.any (fun w => fld w 22 10 == 48 && fld w 18 4 == 1))

/-- An edge of a PPS input that is assigned to two pins (R82; log entry 6): it comes, at a free instant of the tick, or does not. -/
def ppsAny (s : State) (half : Nat) (act : State → Nat → State) : State :=
  if !ppsShared s then act s half
  else if s.free % 2 = 0 then s.drawn
  else act s.drawn (s.free / 2 % 8)

/-- The selected edge of PPS_IN, `half` half nanoseconds after the last tick (R311, R332). -/
def ppsInEdge (s : State) (half : Nat) : State :=
  if !tioRuns s || !tst (s.rw .TIO_PPS_IN_CFG) 31 || !ppsBall s then s else
  ppsAny s half fun s half =>
  let s := s.bump .TIO_PPS_IN_EDGES
  let glitch := match s.time.ppsTick with
    | some k => decide (s.time.ticks < k + 225000000)
    | none => false
  if glitch then (s.bump .TIO_PPS_IN_GLITCH).setFlags .TIO_STATUS 0 0 2
  else
    let t := s.stamp half
    let sec := tsSec t
    let s := (((s.wr .TIO_PPS_IN 0 0 (wd (sec / 2 ^ 32))).wr .TIO_PPS_IN 1 0 (wd sec)).wr .TIO_PPS_IN 2 0 (wd (tsNs t))).wr
      .TIO_PPS_IN 3 0 (wd (t % 65536 * 65536))
    let s := occ ({ s with time := { s.time with ppsTick := some s.time.ticks } }.setFlags .TIO_STATUS 0 0 1) 22 0x10 0
    if servoSrc s ≠ 2 || closed s 21 then s
    else
      let one : Int := 65536000000000
      let u : Int := (t : Int) - 65536 * s.rf .TIO_PPS_IN_CFG 0 0 0 16
      sample s (u - (u + one / 2) / one * one) 0

/-- No accepted edge for 1.5 s (R332). -/
def ppsInLost (s : State) : State :=
  if !tioRuns s || !tst (s.rw .TIO_PPS_IN_CFG) 31 then s else
  let s := s.setFlags .TIO_STATUS 0 0 4
  if servoSrc s = 2 && !closed s 21 then holdFrom s 5 else s

/-! ## Time outputs (R333 to R336, R420) -/

/-- TIO_ADJ_n less OUT_CORR, in 1/16 ns. -/
def outShift (s : State) (n : Nat) : Int := 8 * sgn 16 (s.rf .TIO_ADJ n 0 0 16) - 8 * s.time.corr

/-- OUT_CORR at an edge that the active device drives on PPS_OUT0: it moves towards 0 by at most SLEW from the second one on (R420,
R422). -/
def corrSlew (s : State) : State :=
  if !drives s then s else
  let m : Int := (2 * s.within 1 1000 (s.rf .TWN_SLEW 0 0 0 16) : Nat)
  let c := s.time.corr
  let s := { s with twin := { s.twin with edges := s.twin.edges + 1 } }
  if s.twin.edges < 2 then s
  else { s with time := { s.time with corr := if c > 0 then max 0 (c - m) else min 0 (c + m) } }

/-- An edge of PPS_OUTn falls due (R333): a rise at the nearest second boundary, or a fall WIDTH later; a disabled output goes
low, and one that is being given up rises no more (R414). -/
def ppsOutEdge (s : State) (n : Nat) : State :=
  if n > 1 || !tioRuns s then s else
  let high := mget false s.time.pps n
  let set (s : State) (b : Bool) : State := { s with time := { s.time with pps := mput false s.time.pps n b } }
  let one : Int := 16000000000
  if !tst (s.rw .TIO_PPS_OUT n) 31 then (if high then set (timePin s (49 + n) false (now16 s)) false else s)
  else if high then
    let sh := outShift s n
    let width := s.within 1 999999 (s.rf .TIO_PPS_OUT n 0 0 20)
    set (timePin s (49 + n) false ((now16 s - sh) / one * one + sh + 16000 * width)) false
  else if s.twin.role = .releasing then s
  else
    let s := if n = 0 then corrSlew s else s
    let sh := outShift s n
    set (timePin s (49 + n) true ((now16 s - sh + one / 2) / one * one + sh)) true

/-- Year, and day of the year from 1, of a day counted from 1970-01-01. -/
def yearDay (day : Nat) : Nat × Nat :=
  let leap (y : Nat) : Bool := (y % 4 == 0 && y % 100 != 0) || y % 400 == 0
  let rec go : Nat → Nat → Nat → Nat × Nat
    | 0, y, d => (y, d + 1)
    | n + 1, y, d => let k := if leap y then 366 else 365; if d < k then (y, d + 1) else go n (y + 1) (d - k)
  go 400 (1970 + day / 146097 * 400) (day % 146097)

/-- The time estimate E of R335 in ns; `none` in FREE and ACQUIRING. -/
def timeError (s : State) : Option Nat :=
  let thr := s.within 1 65535 (s.rf .TK_LOCK_CFG 0 0 16 16)
  match s.time.servo with
  | .locked => some thr
  | .holdover => some (thr + s.rf .TIO_IRIG_TQ 0 0 0 16 * ((s.time.ticks - s.time.holdTick.getD 0) / 250000000))
  | _ => none

/-- The time-quality code of R335. -/
def timeQuality (s : State) : Nat :=
  match s.time.servo, timeError s with
  | .locked, _ => s.rf .TIO_IRIG_TQ 0 0 28 4
  | _, some e => ((List.range 11).find? (fun c => decide (e ≤ 10 ^ c))).elim 0xF (· + 1)
  | _, none => 0xF

/-- The continuous-time-quality code of IEEE C37.118.1 (log entry 41). -/
def ctq (s : State) : Nat :=
  match timeError s with
  | some e => ((List.range 6).find? (fun c => decide (e < 10 ^ (c + 2)))).elim 7 (· + 1)
  | none => 7

/-- The elements of an IRIG-B frame (R335): UTC second `u` of the day's second before the local offset, `sixty` for 23:59:60. -/
def irigCode (s : State) (u : Nat) (sixty : Bool) : List Nat :=
  let w := s.rw .TIO_IRIG_TIME
  let code := s.rf .TIO_IRIG_CFG 0 0 28 3
  let off := fld w 7 4 * 3600 + fld w 6 1 * 1800
  let l := if tst w 11 then u - off else u + off
  let yd := yearDay (l / 86400)
  let sod := l % 86400
  let sec := sod % 60 + b2n sixty
  let sbs := sod + b2n sixty
  let r := u % 86400
  let pend := (tst w 15 && decide (86341 ≤ r)) || (tst w 14 && decide (86340 ≤ r) && decide (r < 86399))
  let bits (v n : Nat) : List Nat := (List.range n).map (fun i => b2n (nbit v i))
  let year := code ≥ 4
  let hasSbs := code = 0 ∨ code = 3 ∨ code = 4 ∨ code = 7
  let cf := tst (s.rw .TIO_IRIG_CFG) 27
  let on (b : Bool) (v : Nat) : Nat := if b then v else 0
  let tens (v : Nat) : Nat := v / 10 % 10
  let a := [2] ++ bits (sec % 10) 4 ++ [0] ++ bits (tens sec) 3 ++ [2] ++
    bits (sod / 60 % 60 % 10) 4 ++ [0] ++ bits (tens (sod / 60 % 60)) 3 ++ [0, 2] ++
    bits (sod / 3600 % 10) 4 ++ [0] ++ bits (tens (sod / 3600)) 2 ++ [0, 0, 2] ++
    bits (yd.2 % 10) 4 ++ [0] ++ bits (tens yd.2) 4 ++ [2] ++ bits (yd.2 / 100) 2 ++ [0, 0, 0, 0, 0, 0, 0, 2] ++
    bits (on year (yd.1 % 10)) 4 ++ [0] ++ bits (on year (tens yd.1)) 4 ++ [2]
  let c1 := (if cf then [b2n (pend && !sixty), fld w 14 1, fld w 13 1, fld w 12 1, fld w 11 1] ++ bits (fld w 7 4) 4 else bits 0 9) ++ [2]
  let c2 := if cf then [fld w 6 1] ++ bits (timeQuality s) 4 else bits 0 5
  let par := (sumN ((a ++ c1 ++ c2).filter (· == 1)) + 1) % 2
  let c3 := (if cf then [par] ++ bits (ctq s) 3 else bits 0 4) ++ [2]
  a ++ c1 ++ c2 ++ c3 ++ bits (on hasSbs (sbs % 512)) 9 ++ [2] ++ bits (on hasSbs (sbs / 512)) 8 ++ [0, 2]

/-- A leap second has passed (R335): UTC_OFFSET becomes `off`, the flags clear, and LEAP_DONE is set. -/
def leapDone (s : State) (off : Nat) : State :=
  ((s.hwFld .TIO_IRIG_TIME 0 0 16 16 off).hwFld .TIO_IRIG_TIME 0 0 14 2 0).setFlags .TIO_STATUS 0 0 8

/-- An IRIG-B frame starts at the nearest second boundary (R335), and a leap second is applied; the elements of a frame that a
host error makes unpredictable are free (R338; log entry 6). -/
def irigFrame (s : State) : State :=
  if !tioRuns s then s else
  let one : Int := 16000000000
  let sh := outShift s 2
  let b := (now16 s - sh + one / 2) / one
  let w := s.rw .TIO_IRIG_TIME
  let off := fld w 16 16
  let u := b.toNat - off
  let code := s.rf .TIO_IRIG_CFG 0 0 28 3
  let cfg := s.rw .TIO_IRIG_CFG
  let badCode := (tst cfg 27 && !([0, 1, 4, 5].contains code)) || (tst w 15 && tst w 14)
  let ins := tst w 15 && !tst w 14 && u % 86400 = 0
  let del := tst w 14 && !tst w 15 && u % 86400 = 86399
  let el := if badCode then (List.range 100).map (fun i => Config.free (s.freeCtr + i) % 3)
    else if ins then irigCode s (u - 1) true
    else irigCode s (if del then u + 1 else u) false
  let s := if badCode then { s with freeCtr := s.freeCtr + 100 } else s
  let s := if s.twin.role = .releasing || !tst cfg 31 then { s with time := { s.time with irigBusy := false } }
    else
      let s := { s with time := { s.time with irigBusy := true } }
      if drives s then s.emit (.irig (b * one + sh) el) else s
  if ins then leapDone s (off + 1) else if del then leapDone s (off + 65535) else s

end Sys2Proof.Machine
end

