-- ==== Sys2Proof/Machine/Line.lean ====
section
/-!
DEFINITION. Machine/Line.lean: the teleprotection line channels (15_line_channels.md R361 to R380).
-/
namespace Sys2Proof.Machine

/-! ## Settings of a channel -/

/-- The block of channel `c`. -/
def chanBlock (c : Nat) : Nat := 25 + c / 8

/-- The power domain of channel `c`. -/
def chanDom (c : Nat) : Nat := 218 + c / 8

/-- Channel `c` exists. -/
def chanPresent (s : State) (c : Nat) : Bool := c < 16 && (!isSmall s || c < 8)

/-- N (a value outside 1 to 12 acts as a free one: R380; log entry 6). -/
def chanN (s : State) (c : Nat) : Nat := s.within 1 12 (s.rf .LCH_CFG c 0 20 4)

/-- F. -/
def chanF (s : State) (c : Nat) : Nat := s.within 1 32 (s.rf .LCH_PKT c 0 16 6)

/-- JB_MAX. -/
def jbMax (s : State) (c : Nat) : Nat := s.within 4 128 (s.rf .LCH_JB c 0 8 8)

/-- JB_TARGET. -/
def jbTarget (s : State) (c : Nat) : Nat := s.within (chanF s c) (jbMax s c - chanF s c) (s.rf .LCH_JB c 0 0 8)

/-- LOOP. -/
def chanLoop (s : State) (c : Nat) : Nat :=
  let v := s.rf .LCH_CFG c 0 29 2
  if v = 3 then s.free % 3 else v

/-- LINE_PHASE is out of its range: the channel's line and packet traffic is unpredictable (R380). -/
def phaseBad (s : State) (c : Nat) : Bool := decide (124999 < s.rf .LCH_CFG c 0 0 17)

/-- The frame instant of R362 nearest the Timekeeper's time, in ns. -/
def frameInstant (s : State) (c : Nat) : Int :=
  let o : Int := (s.rf .LCH_CFG c 0 0 17 : Nat)
  ((s.now : Int) - o + 62500) / 125000 * 125000 + o

/-- `n` bytes of ones. -/
def onesBytes (n : Nat) : Bytes := List.replicate n 0xFF

/-- The channel runs, and no disable is in progress. -/
def chanRuns (s : State) (c : Nat) : Bool := chanPresent s c && (s.chan c).on && !(s.chan c).disabling && !closed s (chanBlock c)

/-! ## Enable and disable (R377) -/

/-- An enable of channel `c`: the domains are held awake; once its domain is awake it takes the ring buffer, and then the framer
hunts and the jitter buffer fills.  A buffer that is refused, or a domain that still sleeps, leaves the enable waiting. -/
def chanEnable (s : State) (c : Nat) : State :=
  let x := s.chan c
  if x.disabling then s.setChan c { x with enPend := true }
  else if x.on then s
  else
    let s := trigger (trigger s 2 (chanDom c)) 2 223
    if closed s (chanBlock c) || !domOn s (chanDom c) then s.setChan c { x with want := true }
    else
      let r := lbmTake s 3 (jbMax s c * chanN s c)
      match r.1 with
      | none => (r.2.setChan c { x with want := true }).setFlags .LCH_STATUS c 0 256
      | some k => r.2.setChan c { framer := .hunt, jb := .fill, on := true, pool := some k }

/-- What a channel holds of the local store returns. -/
def chanFree (s : State) (c : Nat) : State :=
  let give (s : State) : Option Nat → State
    | some k => lbmGive s 3 k
    | none => s
  give (give s (s.chan c).pool) (s.chan c).pktPool

/-- A disable has run to completion (R377): the line is low, the packet in assembly is discarded, the ring returns, and the
framer and the defects are off; an enable that waits is carried out. -/
def chanDisable (s : State) (c : Nat) : State :=
  let x := s.chan c
  if !chanPresent s c || !x.disabling then s else
  let s := ((chanFree s c).setChan c {}).emit (.lineOff c)
  if x.enPend then chanEnable s c else s

/-- A strobe of group 12 reaches channel `c` (R377): `restart` says that it changed a setting that restarts an enabled channel. -/
def chanStrobe (s : State) (c : Nat) (restart : Bool) : State :=
  if !chanPresent s c then s else
  let x := s.chan c
  if tst (s.rw .LCH_CFG c) 31 then
    if x.on && restart && !x.disabling then s.setChan c { x with disabling := true, enPend := true }
    else chanEnable s c
  else if x.on then s.setChan c { x with disabling := true, enPend := false }
  else s.setChan c { x with want := false }

/-- Every 125 µs a refused ring buffer is asked for again (R377). -/
def chanRetry (s : State) (c : Nat) : State :=
  if chanPresent s c && (s.chan c).want && tst (s.rw .LCH_CFG c) 31 then chanEnable s c else s

/-- A reset of block 25 or 26 (R377): packets in assembly and rings are discarded and counted (R104). -/
def chanReset (s : State) (b : Nat) : State :=
  (List.range 8).foldl (fun s i =>
    let c := 8 * (b - 25) + i
    let x := s.chan c
    let n := b2n x.pool.isSome + b2n (x.gather != [])
    let s := if n = 0 then s else isoDiscard s b n
    (chanFree s c).setChan c {}) s

/-- The release of block 25 or 26, or the wake of its domain: each channel with EN set starts as an enable does. -/
def chanStart (s : State) (b : Nat) : State :=
  (List.range 8).foldl (fun s i =>
    let c := 8 * (b - 25) + i
    if chanPresent s c && tst (s.rw .LCH_CFG c) 31 then chanEnable s c else s) s

/-! ## Toward the packet side (R366 to R372) -/

/-- N bytes go toward the packet side; the first of a packet takes its buffer (R372). -/
def chanDeliver (s : State) (c : Nat) (d : Bytes) : State :=
  let x := s.chan c
  if d = [] then s
  else
  let hdr := s.within 18 64 (s.rf .LCH_PKT c 0 24 7)
  if x.gather ≠ [] then
    let s := s.setChan c { x with gather := x.gather ++ d }
    match x.pktPool with
    | some b => bufPut s b (16 + hdr + 4 + x.gather.length) d
    | none => s
  else
    let len := max 64 (hdr + 4 + chanN s c * chanF s c + 4)
    let r := lbmTake s 3 (len + 12)
    let s := r.2.setChan c { x with gather := d, pktPool := r.1 }
    match r.1 with
    | some b => bufPut s b (16 + hdr + 4) d
    | none => (s.bump .LCH_TX_NOBUF c).setFlags .LCH_STATUS c 0 256

/-- Data of the framer, unless a packet loopback is selected (R378). -/
def framerDeliver (s : State) (c : Nat) (d : Bytes) : State :=
  let s := s.setChan c { (s.chan c) with last := d }
  if chanLoop s c = 2 then s else chanDeliver s c d

/-- A received C37.94 frame (R366, R367): `cands` candidates confirmed with it, its header in error, its N, RDI and data. -/
def lineFrameRx (s : State) (c cands : Nat) (hdrErr : Bool) (n : Nat) (rdi : Bool) (data : Bytes) : State :=
  if !chanRuns s c then s else
  let x := s.chan c
  let take := (data ++ onesBytes (chanN s c)).take (chanN s c)
  let good (s : State) (x : Chan) : State :=
    let s := s.setChan c { x with framer := .sync, errRun := 0, rxN := n % 16, rxRdi := rdi }
    let s := if n % 16 = chanN s c then s else s.setFlags .LCH_STATUS c 0 128
    framerDeliver s c take
  match x.framer with
  | .off => s
  | .hunt =>
    if cands = 1 then good s x
    else framerDeliver (if cands ≥ 2 then s.bump .LCH_HUNT_AMBIG c else s) c (onesBytes (chanN s c))
  | .sync =>
    if !hdrErr then good s x
    else
      let s := occ (s.bump .LCH_HDR_ERR c) (chanBlock c) 0x13 (c % 8)
      if x.errRun + 1 ≥ 4 then framerDeliver (s.setChan c { x with framer := .hunt, errRun := 4 }) c (onesBytes (chanN s c))
      else framerDeliver (s.setChan c { x with errRun := x.errRun + 1, rxRdi := rdi }) c take

/-- LC_RX[c] has had no transition for 32 bit periods (R366): the framer extracts nothing more (R378). -/
def losRaw (s : State) (c : Nat) : State :=
  if !chanRuns s c then s else
  let x := s.chan c
  s.setChan c { x with framer := if x.framer = .sync then .hunt else x.framer, raw := x.raw ||| 8, last := [] }

/-! ## Defects (R368, R369) -/

/-- One defect's sample: its bit of LCH_STATE, its flag, its raw condition and whether a masking defect is declared. -/
def defectStep (s : State) (c bit flag : Nat) (cfg : Fam) (raw masked : Bool) : State :=
  let x := s.chan c
  let on := nbit x.defects bit
  if masked then
    let s := s.setChan c { x with defects := x.defects - (if on then 1 <<< bit else 0), runs := mput 0 x.runs bit 0 }
    if on then s.setFlags .LCH_STATUS c 0 (1 <<< flag) else s
  else
    let lim := s.within 1 65535 (s.rf cfg c 0 (if on then 0 else 16) 16)
    let run := if raw = on then 0 else mget 0 x.runs bit + 1
    if run ≥ lim ∧ raw ≠ on then
      (s.setChan c { x with defects := x.defects ^^^ (1 <<< bit), runs := mput 0 x.runs bit 0 }).setFlags .LCH_STATUS c 0 (1 <<< flag)
    else s.setChan c { x with runs := mput 0 x.runs bit run }

/-- Every 125 µs the raw conditions are sampled (R368). -/
def defectSample (s : State) (c : Nat) (los ais : Bool) : State :=
  if !chanRuns s c then s else
  let x := s.chan c
  let lof := x.framer != .sync
  let rdi := x.framer == .sync && x.rxRdi
  let s := s.setChan c { x with raw := 8 * b2n los + 4 * b2n ais + 2 * b2n lof + b2n rdi }
  let s := defectStep s c 3 0 .LCH_INT_LOS los false
  let s := defectStep s c 2 1 .LCH_INT_AIS ais (nbit (s.chan c).defects 3)
  let s := defectStep s c 1 2 .LCH_INT_LOF lof (nbit (s.chan c).defects 3 || nbit (s.chan c).defects 2)
  defectStep s c 0 3 .LCH_INT_RDI rdi (decide ((s.chan c).defects ≥ 2))

/-- LOS, AIS or LOF is declared. -/
def chanFailed (x : Chan) : Bool := decide (x.defects ≥ 2)

/-! ## Packets sent (R370 to R372) -/

/-- The header of a packet for `n` bytes behind it (R371). -/
def chanHead (s : State) (c n : Nat) : Bytes :=
  let len := s.within 18 64 (s.rf .LCH_PKT c 0 24 7)
  let h := (wsBytes ((List.range 16).map (fun w => s.rw .LCH_HDR c w))).take len
  if !tst (s.rw .LCH_PKT c) 31 then h
  else
    let ip := len - 28
    let h := patch (patch h (ip + 2) (beBytes 2 (28 + n))) (ip + 10) [0, 0]
    let sum := sumN ((List.range 10).map (fun i => beAt h (ip + 2 * i) 2))
    let sum := sum % 65536 + sum / 65536
    let h := patch h (ip + 10) (beBytes 2 (65535 - (sum % 65536 + sum / 65536)))
    patch h (len - 4) (beBytes 2 (8 + n) ++ [0, 0])

/-- The copies of a packet (R372): DEST in queue CLASS; where both pair ports of a pair are named, each gets the pair's trailer or
tag with one sequence, and this for every such pair. -/
def chanPlan (s : State) (c : Nat) (f : Bytes) : List CCopy × State :=
  let w := s.rw .LCH_DEST c
  let r := destPorts s 8 { destKind := tst w 14, dest := fld w 0 14 }
  let cs := r.1.map (fun p => ({ id := 0, frame := 0, port := p, queue := classQueue p (fld w 28 3), store := true } : CCopy))
  let sa := beAt f 6 6
  let both (n : Nat) : Bool :=
    cs.any (fun c => copyPair s c == some (n, false)) && cs.any (fun c => copyPair s c == some (n, true))
  -- the pairs take one sequence of the source, or each its own (R289)
  let o := ((List.range 16).filter both).foldl (fun (o : Outbound) n =>
    let q := match o.ent with
      | some q => (q, true, o.st)
      | none => pairSeq o.st n sa true
    { o with cs := tagCopies q.2.2 (portRef s 133) n q.1 false o.cs, ent := if q.2.1 then some q.1 else none, st := q.2.2 })
    { cs := cs, seq := none, st := r.2 }
  if outErr s (portRef s 133) sa cs then freeCopies o.st o.cs else (o.cs, o.st)

/-- The header template does not form the header of R371 (R380). -/
def templateBad (s : State) (c : Nat) : Bool :=
  let len := s.within 18 64 (s.rf .LCH_PKT c 0 24 7)
  let h := (wsBytes ((List.range 16).map (fun w => s.rw .LCH_HDR c w))).take len
  let o := afterTags none h
  if tst (s.rw .LCH_PKT c) 31 then
    beAt h o 2 != 0x0800 || len != o + 30 || beAt h (o + 2) 1 != 0x45 || beAt h (o + 11) 1 != 17
  else beAt h o 2 != 0x88D8 || len != o + 6 || beAt h (o + 2) 4 % 4096 != 0x102

/-- A packet that a host error leaves open has free bytes and free copies (R380; log entry 6). -/
def packetWild (s : State) (c : Nat) (f : Bytes) (r : List CCopy × State) : Bytes × List CCopy × State :=
  if phaseBad s c || templateBad s c then
    let g := freeCopies r.2 r.1
    (if g.2.free % 2 = 0 then f else beBytes f.length (g.2.free / 2), g.1, g.2.drawn)
  else (f, r.1, r.2)

/-- Every F frames a packet is formed from what the framer delivered (R370); bytes that it did not deliver are ones (R367). -/
def packetForm (s : State) (c : Nat) : State :=
  if !chanRuns s c then s else
  let n := chanN s c * chanF s c
  let s := if (s.chan c).gather = [] then chanDeliver s c (onesBytes n) else s
  let x := s.chan c
  let pl := (x.gather ++ onesBytes n).take n
  let s := s.setChan c { x with gather := [], pktPool := none, seq := (x.seq + 1) % 65536 }
  let s := match x.pktPool with
    | none => s
    | some k =>
      let head := chanHead s c (4 + n)
      let pad := decide (head.length + 4 + n < 60)
      let cw := bitw 27 (chanFailed x) ||| bitw 26 (x.jb == .fill) ||| put 16 6 (if pad then 4 + n else 0) ||| put 0 16 x.seq
      let f := pad60 (head ++ wBytes cw ++ pl)
      let r := packetWild s c f (chanPlan s c f)
      originate (occ ((bufPut r.2.2 k 16 r.1).bump .LCH_PKT_TX c) (chanBlock c) 0x10 (c % 8)) {
        src := 134, feed := 11, ref := portRef s 133, rate := portRate s 133, t := s.stamp 0, bytes := r.1, buf := some (3, k)
        chan := some c, plan := r.2.1, carry := { cls := s.rf .LCH_DEST c 0 28 3 } }
  -- the first bytes of the next packet, where they have come already
  chanDeliver s c (x.gather.drop n)

/-! ## The jitter buffer and the line (R362, R374, R375, R378) -/

/-- FILL (R374). -/
def jbFill (x : Chan) : Nat := maxN (x.ring.map (fun e => e.1 + 1))

/-- A frame begins on LC_TX[c] at its instant (R362, R374, R375): it carries slot p, or ones, and p advances.  With LINE_PHASE out
of its range its instant and its data are free (R380; log entry 6). -/
def lineFrameTx (s : State) (c : Nat) : State :=
  if !chanRuns s c then s else
  let x := s.chan c
  let n := chanN s c
  let slot := mfind x.ring 0
  let data := if x.jb = .play then slot.getD (onesBytes n) else onesBytes n
  let s := if x.jb = .play ∧ slot.isNone then occ (s.bump .LCH_UNDERRUN c) (chanBlock c) 0x12 (c % 8) else s
  let ring := (x.ring.filter (fun e => e.1 ≠ 0)).map (fun e => (e.1 - 1, e.2))
  let dry := x.jb == .play && ring == []
  let s := s.setChan c { x with
    ring := ring, p := (x.p + 1) % (65536 * chanF s c), jb := if dry then .fill else x.jb, sending := true }
  let s := if dry then s.setFlags .LCH_STATUS c 0 32 else s
  let out := if chanLoop s c = 1 then (x.last ++ onesBytes n).take n else data
  let bad := phaseBad s c
  let s := s.emit (.line c (if bad then (s.free : Int) else frameInstant s c) (tst (s.rw .LCH_CFG c) 28) n (chanFailed x)
    (if bad then beBytes n s.free else out))
  let s := if bad then s.drawn else s
  if chanLoop s c = 2 then chanDeliver s c data else s

/-- A packet with control word `cw` and payload `pl` is placed (R375). -/
def placePacket (s : State) (c : Nat) (cw : Word) (pl : Bytes) : Nat → State
  | 0 => s
  | fuel + 1 =>
    let f := chanF s c
    let q := fld cw 0 16
    let x := s.chan c
    let m : Int := (65536 * f : Nat)
    let again := x.jb == .fill
    let s := if again then (s.bump .LCH_RECENTRES c).setFlags .LCH_STATUS c 0 64 else s
    let x := if again then { x with p := (((q * f : Nat) : Int) - jbTarget s c).emod m |>.toNat, ring := [], jb := .play } else x
    let s := s.setChan c x
    let d := (((q * f : Nat) : Int) - x.p).emod m
    let a := if d ≥ m / 2 then d - m else d
    if a < 1 then (s.bump .LCH_RX_LATE c).setChan c { x with overran := false }
    else if a + f > jbMax s c then
      let s := s.bump .LCH_RX_OVERRUN c
      if x.overran then placePacket (s.setChan c { x with jb := .fill, overran := false }) c cw pl fuel
      else s.setChan c { x with overran := true }
    else
      let slots := (List.range f).map (fun i => a.toNat + i)
      if slots.any (fun k => (mfind x.ring k).isSome) then (s.bump .LCH_RX_DUP c).setChan c { x with overran := false }
      else
        let n := chanN s c
        let ring := slots.zipIdx.foldl (fun r k => mins r k.1 (slice pl (n * k.2) n)) x.ring
        occ ((s.bump .LCH_PKT_RX c).setChan c { x with ring := ring, overran := false, rxL := tst cw 27, rxR := tst cw 26 }) (chanBlock c) 0x11 (c % 8)

/-- Where the control word of a circuit-emulation packet stands, its encapsulation and its identifier (R373), by the parser's ETYPE
and UDP header (R179), which an IPv4 fragment with an offset lacks. -/
def cePacket (alt : Option Nat) (f : Bytes) : Option (Nat × Bool × Nat) :=
  let p := parse alt f true
  if p.get 0x0A = 0x88D8 then some (p.et + 6, false, beAt f (p.et + 2) 4 / 4096)
  else if p.layers.testBit 9 && p.layers.testBit 11 then
    some (p.et + 2 + beAt f (p.et + 2) 1 % 16 * 4 + 8, true, p.get 0x19)
  else none

/-- A frame from ingress port `port` that has reached port 133 reaches a channel (R373), and is placed or discarded. -/
def cePacketRx (s : State) (port : Nat) (f : Bytes) : State :=
  let alt := altTpid s (pipeOf port)
  let b := f.take (f.length - 4)
  match cePacket alt f with
  | none => s.bump .LCH_RX_UNMATCHED
  | some (o, udp, rid) =>
    let cs := (List.range 16).filter (fun c => chanRuns s c && tst (s.rw .LCH_PKT c) 31 == udp &&
      rid == s.rf .LCH_RXID c 0 0 (if udp then 16 else 20))
    match cs with
    | [] => s.bump .LCH_RX_UNMATCHED
    | c0 :: _ =>
      -- two channels that match are a host error: which of them it reaches is free (R380; log entry 6)
      let c := if cs.length = 1 then c0 else cs.getD (s.free % cs.length) c0
      let s := if cs.length = 1 then s else s.drawn
      let cw := BitVec.ofNat 32 (beAt b o 4)
      let len := fld cw 16 6
      let tail := (b.take (b.length - (if (rctOf alt b).isSome then 6 else 0))).drop (o + 4)
      let pl := if len ≠ 0 then tail.take (len - 4) else tail
      let n := chanN s c * chanF s c
      let l := tst cw 27
      if fld cw 22 4 ≠ 0 ∨ (pl.length ≠ n ∧ ¬ (pl = [] ∧ l)) ∨ (len ≠ 0 ∧ (pl.length ≠ len - 4 ∨ len < 4)) then s.bump .LCH_RX_BADLEN c
      else placePacket s c cw (if pl = [] then onesBytes n else pl) 2

/-- LCH_STATE_c. -/
def chanState (s : State) (c : Nat) : Word :=
  let x := s.chan c
  put 30 2 (match x.framer with | .off => 0 | .hunt => 1 | .sync => 2) ||| put 28 2 (match x.jb with | .idle => 0 | .fill => 1 | .play => 2) |||
    bitw 27 x.enPend ||| put 23 4 x.defects ||| put 19 4 x.raw ||| bitw 18 x.rxL ||| bitw 17 x.rxR ||| put 13 4 x.rxN |||
    put 0 8 (jbFill x)

/-- LCH_SUMMARY. -/
def chanSummary (s : State) : Word := (List.range 16).foldl (fun w c => w ||| bitw c ((s.chan c).defects != 0)) 0

end Sys2Proof.Machine
end

