-- ==== Sys2Proof/Machine/Counters.lean ====
section
/-!
DEFINITION. Machine/Counters.lean: the counter collector, clears, bandwidth windows and telemetry (17_counters.md R398 to
R410), and the offers of the event controller (16_events.md R391 to R394).
-/
namespace Sys2Proof.Machine

/-! ## The collector (R399 to R405) -/

/-- The counter blocks of a DV9064 that are absent (R398). -/
def counterBlkPresent (s : State) (b : Nat) : Bool :=
  b < 40 && !(isSmall s && [4, 5, 6, 7, 12, 13, 14, 15, 26, 30, 31].contains b)

/-- Counter 8 b + i is the even one of a chained pair. -/
def pctPair (s : State) (c : Nat) : Bool := c % 2 == 0 && tst (pctCfg s (c / 8) (c % 8 + 1)) 23

/-- Counter 8 b + i is the odd one of a chained pair. -/
def pctOdd (s : State) (c : Nat) : Bool := c % 2 == 1 && tst (pctCfg s (c / 8) (c % 8)) 23

/-- The selection of a counter is a host error (R410): its value is free. -/
def pctBad (s : State) (c : Nat) : Bool :=
  let w := pctCfg s (c / 8) (c % 8)
  if c % 2 = 0 ∧ tst w 23 then true
  else if pctOdd s c then false
  else match evSubs (c / 8) (fld w 24 8) with
    | none => true
    | some n => n != 0 && fld w 8 8 != 0xFF && decide (fld w 8 8 ≥ n)

/-- A counter's value at this instant; a free one after a host error. -/
def pctValue (s : State) (c : Nat) : Nat := if pctBad s c then s.free % 2 ^ 48 else mget 0 s.pct.cnt c

/-- Counter `c` is copied into its mirror. -/
def mirrorCopy (s : State) (c : Nat) : State := { s with pct := { s.pct with mir := mput 0 s.pct.mir c (pctValue s c) } }

/-! ## Telemetry (R407, R408, R410) -/

/-- The record of counter `c` from its mirror, unless it is the odd one of a chained pair. -/
def counterRecord (s : State) (c : Nat) : List Bytes :=
  if pctOdd s c then [] else
  let w := pctCfg s (c / 8) (c % 8)
  let hi := if pctPair s c then mget 0 s.pct.mir (c + 1) else 0
  let v := hi * 2 ^ 48 + mget 0 s.pct.mir c
  [wsBytes [put 24 6 (c / 8) ||| put 21 3 (c % 8) ||| bitw 20 (pctPair s c) ||| put 8 8 (fld w 8 8) ||| put 0 8 (fld w 24 8),
    wd (v / 2 ^ 64), wd (v / 2 ^ 32), wd v]]

/-- The bandwidth record of port `p`. -/
def bwRecord (s : State) (p : Nat) : Bytes :=
  wsBytes [put 30 2 1 ||| put 8 8 p, s.rw .PCT_BW_RX p, s.rw .PCT_BW_TX p, put 0 30 s.pct.winNs]

/-- The bandwidth records of an export, from the last windows completed. -/
def bwRecords (s : State) : List Bytes :=
  ((List.range 134).filter (fun p => tst (s.rw .PCT_TEL_PORTS (p / 32)) (p % 32))).map (bwRecord s)

/-- The counter records of an export, as its sweep has left the mirrors. -/
def counterRecords (s : State) : List Bytes :=
  ((List.range 40).filter (fun b => tst (s.rw .PCT_TEL_BLOCKS (b / 32)) (b % 32))).flatMap (fun b =>
    (List.range 8).flatMap (fun i => counterRecord s (8 * b + i)))

/-- Records in groups of at most 80. -/
def telFrames : Nat → List Bytes → List (List Bytes)
  | 0, _ => []
  | n + 1, rs => if rs = [] then [] else rs.take 80 :: telFrames n (rs.drop 80)

/-- The telemetry header template, HDR_LEN bytes of it. -/
def telHeader (s : State) : Bytes :=
  (wsBytes ((List.range 6).map (fun w => s.rw .PCT_TEL_HDR w))).take (s.within 14 22 (s.rf .PCT_TEL_CFG 0 0 23 5))

/-- A host error makes the telemetry frames and the traffic of their destination unpredictable (R410): PERIOD out of its range, a
reserved DEST, or a template that is no header. -/
def telBad (s : State) : Bool :=
  let n := s.rf .PCT_TEL_PERIOD 0 0 0 16
  n == 0 || decide (60000 < n) || decide (134 ≤ s.rf .PCT_TEL_CFG 0 0 0 8) ||
    decide (afterTags none (telHeader s) + 2 ≠ (telHeader s).length)

/-- One telemetry frame is handed to feed 10 (R407, R408); its bytes and its copies are free after a host error (R410; log entry 6). -/
def telSend (s : State) (x : TelExport) (part : Nat) (last : Bool) (rs : List Bytes) : State :=
  let cfg := s.rw .PCT_TEL_CFG
  let t := x.sweep.getD (0, 0)
  let b := pad60 (telHeader s ++ wsBytes [put 28 4 1 ||| put 26 2 (devNo s) ||| put 16 8 rs.length ||| put 8 8 part ||| bitw 7 last,
    wd x.seq, wd t.1, put 0 30 t.2] ++ rs.flatten)
  let plan := (refPort s (fld cfg 0 10)).toList.map (fun p =>
    ({ id := 0, frame := 0, port := p, queue := classQueue p (fld cfg 28 3), store := true } : CCopy))
  let bad := telBad s
  let r := if bad then freeCopies s plan else (plan, s)
  let s := r.2
  let id := s.car.next
  let s := originate (if bad then s.drawn else s) {
    src := 133, feed := 10, ref := portRef s 133, rate := portRate s 133, t := s.stamp 0
    bytes := if bad && s.free % 2 == 1 then beBytes b.length (s.free / 2) else b, plan := r.1, carry := { cls := fld cfg 28 3 } }
  if (copiesOf s id).isEmpty then (s.bump .PCT_TEL_DROP).setFlags .PCT_STATUS 0 0 4 else occ s 28 0x11 0

/-- An export falls due (R407): it takes its bandwidth values now, and waits for its sweep.  `busy` says that the previous one is
still being handed. -/
def telemetryExport (s : State) (busy : Bool) : State :=
  if !tst (s.rw .PCT_TEL_CFG) 31 || closed s 28 || !domOn s 227 then s else
  let seq := s.rn .PCT_TEL_SEQ
  let s := s.wr .PCT_TEL_SEQ 0 0 (wd (seq + 1))
  if busy || s.pct.exp.isSome then (s.bump .PCT_TEL_SKIP).setFlags .PCT_STATUS 0 0 2
  else { s with pct := { s.pct with exp := some { seq := seq, bw := bwRecords s } } }

/-- A sweep begins at its slot 0: an export that waits takes its time (R408). -/
def exportBegin (s : State) : State :=
  match s.pct.exp with
  | some x => if x.sweep.isNone then { s with pct := { s.pct with exp := some { x with sweep := some (s.time.now.sec, s.time.now.ns) } } } else s
  | none => s

/-- A sweep ends: the export that it gave the values of is handed, frame by frame (R407). -/
def exportHand (s : State) : State :=
  match s.pct.exp with
  | some x =>
    if x.sweep.isNone then s else
    let rs := counterRecords s ++ x.bw
    let fs := telFrames rs.length rs
    fs.zipIdx.foldl (fun s f => telSend s x f.2 (f.2 + 1 == fs.length) f.1) { s with pct := { s.pct with exp := none } }
  | none => s

/-! ## The collector's sweep (R403) -/

/-- The collector visits its next slot (R403): it copies a counter, or both of a chained pair.  The first sweep that begins after an
export has fallen due gives its values: its frames are handed when that sweep ends (R407; log entry 55). -/
def sweepSlot (s : State) : State :=
  if closed s 28 || !domOn s 227 then s else
  let c := s.pct.slot
  let s := if c = 0 then exportBegin s else s
  let s := if !counterBlkPresent s (c / 8) || !countersAwake s (c / 8) || pctOdd s c then s
    else if pctPair s c then mirrorCopy (mirrorCopy s c) (c + 1)
    else mirrorCopy s c
  let s := { s with pct := { s.pct with slot := (c + 1) % 320 } }
  if c = 319 then exportHand (occ (s.bump .PCT_SWEEPS) 28 0x10 0) else s

/-- The latch of counter `c` that a context holds (R405). -/
def pctLatchOf (s : State) (ctx c : Nat) : Option PctLatch :=
  s.pct.latches.find? (fun l => l.ctx == ctx && (l.ctr == c || (l.pair.isSome && l.ctr + 1 == c)))

/-- What a latch, or the mirror where there is none, gives of counter `c`. -/
def pctHeld (s : State) (ctx c : Nat) : Nat :=
  match pctLatchOf s ctx c with
  | some l => if l.ctr = c then l.val else l.pair.getD 0
  | none => mget 0 s.pct.mir c

/-- A READ of PCT_VAL_HI latches a counter, or a chained pair, for the reading context (R405); the odd counter of a latched pair
is read from that latch. -/
def pctLatch (s : State) (ctx c : Nat) : State :=
  match pctLatchOf s ctx c with
  | some l =>
    if l.ctr ≠ c then s else take s
  | none => take s
where
  /-- The latch is taken. -/
  take (s : State) : State :=
    let l : PctLatch := { ctx := ctx, ctr := c, val := mget 0 s.pct.mir c
                          pair := if pctPair s c then some (mget 0 s.pct.mir (c + 1)) else none }
    { s with pct := { s.pct with latches := l :: s.pct.latches.filter (fun x => !(x.ctx == ctx && x.ctr == c)) } }

/-! ## Clears (R401, R406) -/

/-- A clear of counter `c` (R401). -/
def clearCounter (s : State) (c : Nat) : State :=
  if countersAwake s (c / 8) then { s with pct := { s.pct with cnt := mput 0 s.pct.cnt c 0 } }
  else { s with pct := { s.pct with mir := mput 0 s.pct.mir c 0, clearOnWake := c :: s.pct.clearOnWake.filter (· != c) } }

/-- Domain `d` wakes: the clears that waited for it are done before its block counts (R401). -/
def clearAsleepCounters (s : State) (d : Nat) : State :=
  let mine (c : Nat) : Bool := (counterDoms (c / 8)).contains d
  let cs := s.pct.clearOnWake.filter mine
  let s := { s with pct := { s.pct with clearOnWake := s.pct.clearOnWake.filter (fun c => !mine c) } }
  cs.foldl (fun s c => { s with pct := { s.pct with cnt := mput 0 s.pct.cnt c 0 } }) s

/-- The counters that a PCT_CMD names. -/
def cmdCounters (w : Word) : List Nat :=
  let bs := if tst w 23 then List.range 40 else [fld w 24 6]
  bs.flatMap (fun b => (onesOf 8 (fld w 0 8)).map (fun i => 8 * b + i))

/-- The counters take free values (R410). -/
def freeCounters (s : State) (cs : List Nat) : State :=
  cs.foldl (fun s c => { s with pct := { s.pct with cnt := mput 0 s.pct.cnt c (s.free % 2 ^ 48) } }.drawn) s

/-- A write of PCT_CMD (R401, R406). -/
def pctCmd (s : State) (w : Word) : State :=
  match fld w 30 2 with
  | 0 => s
  | 1 =>
    if !tst w 23 && decide (fld w 24 6 > 39) then freeCounters s (List.range 320)
    else (cmdCounters w).foldl clearCounter s
  | 2 => (List.range 134).foldl (fun s p => (s.wr .PCT_PEAK_RX p 0 0).wr .PCT_PEAK_TX p 0 0) s
  | _ => freeCounters s (if !tst w 23 && decide (fld w 24 6 > 39) then List.range 320 else cmdCounters w)

/-! ## Bandwidth windows (R406) -/

/-- WINDOW is 1 to 1,000 and divides 1,000. -/
def windowOk (s : State) : Bool := let n := s.rf .PCT_BW_CFG 0 0 0 10; n != 0 && 1000 % n == 0

/-- A window ends: its totals are written and the peaks raised.  One in which the collector does not run leaves no totals. -/
def windowEnd (s : State) : State :=
  if !tst (s.rw .PCT_BW_CFG) 31 || closed s 28 || !domOn s 227 then { s with pct := { s.pct with rx := [], tx := [] } } else
  let ok := windowOk s
  let k := s.freeCtr
  let raise (s : State) (f : Fam) (p : Nat) (v : Word) : State := if v.toNat > s.rn f p then s.wr f p 0 v else s
  let s := (List.range 134).foldl (fun s p =>
    let a := if ok then wd (mget 0 s.pct.rx p) else Config.freeW (k + 2 * p)
    let b := if ok then wd (mget 0 s.pct.tx p) else Config.freeW (k + 2 * p + 1)
    raise (raise ((s.wr .PCT_BW_RX p 0 a).wr .PCT_BW_TX p 0 b) .PCT_PEAK_RX p a) .PCT_PEAK_TX p b) s
  { s with pct := { s.pct with rx := [], tx := [], winNs := s.time.now.ns }, freeCtr := if ok then k else k + 268 }

/-! ## Offers (R391 to R394) -/

/-- The payload of an offer frame (R393). -/
def offerPayload (s : State) (c seq : Nat) (ns : List Nat) : Bytes :=
  wsBytes ([put 28 4 1 ||| put 24 4 3 ||| put 16 8 ns.length ||| put 0 16 seq,
    put 16 16 (16 + 8 * ns.length) ||| put 0 16 (heldBy s c).length, put 16 8 c, wd s.time.now.ns] ++
    ns.flatMap (fun n =>
      let x := s.src n
      [put 30 2 (x.need.getD 0) ||| bitw 29 (srcLevel n) ||| bitw 28 (srcLevel n && levelCond s n) ||| put 16 10 n ||| put 0 16 x.edges,
       wd x.pendNs]))

/-- An offer frame is formed for context `c` and handed to the MAC (R391, R394): its sources are outstanding from then on. -/
def offerSend (s : State) (c : Nat) : State :=
  let ns := offerList s c
  if !offersOk s c || ns == [] then s else
  let da := s.rf .CTL_CTX_MAC_HI c 0 0 16 * 2 ^ 32 + s.rn .CTL_CTX_MAC_LO c
  let seq := s.rf .EVT_OFFER_SEQ c 0 0 16
  let f := mcfFrame s c da (controlMac s) (offerPayload s c seq ns)
  let r := lbmTake s 1 (f.length + 12)
  match r.1 with
  | none =>
    let s := (r.2.bump .EVT_NOBUF).setFlags .EVT_STATUS 0 0 1
    { s with evt := { s.evt with noBuf := c :: s.evt.noBuf.filter (· != c) } }
  | some k =>
    let s := sendControl (bufPut r.2 k 16 (f.take (f.length - 4))) (128 + ctxLane r.2 c) f (some (1, k))
    let s := occ ((s.bump .EVT_OFFERS).wr .EVT_OFFER_SEQ c 0 (put 0 16 (seq + 1))) 27 0x10 c
    ns.foldl (fun s n => s.setSrc n { (s.src n) with offered := some c, need := none }) s

/-- An outstanding offer's timer has run out (R392); the timer of a Dormant context does not run (R388). -/
def offerTimeout (s : State) (n : Nat) : State :=
  let x := s.src n
  match x.st, x.offered with
  | .pending, some c =>
    if dormant s c || closed s 27 then s
    else
      let s := (s.setSrc n { x with offered := none, need := some 1 }).bump .EVT_REOFFERS
      occ (s.setFlags .EVT_STATUS 0 0 2) 27 0x11 (srcTarget s n % 8)
  | _, _ => s

/-- Every 1 µs a context whose offer found no buffer is tried again (R394). -/
def offerRetry (s : State) (c : Nat) : State :=
  if s.evt.noBuf.contains c then offerSend { s with evt := { s.evt with noBuf := s.evt.noBuf.filter (· != c) } } c else s

/-- A write of EVT_CTX_CMD (R388, R389); a reserved action or field leaves the context's Dormant bit free (R397; log entry 6). -/
def ctxCmd (s : State) (w : Word) : State :=
  let c := fld w 0 3
  if fld w 3 27 ≠ 0 ∨ fld w 30 2 = 3 then setDormHost s.drawn c (s.free % 2 == 1)
  else if fld w 30 2 = 1 then setDormHost s c true
  else if fld w 30 2 = 2 then setDormHost s c false
  else s

/-- A reset of block 27 (R395): every source is Idle, every offer is withdrawn and every OFFER_SEQ is 0. -/
def evtReset (s : State) : State :=
  let s := (List.range 8).foldl (fun s c => s.wr .EVT_OFFER_SEQ c 0 0) s
  { s with evt := { s.evt with srcs := [], noBuf := [] } }

end Sys2Proof.Machine
end

