-- ==== Sys2Proof/Machine/Lanes.lean ====
section
/-!
DEFINITION. Machine/Lanes.lean: serial lanes: bring-up, training, rate matching, alignment, test and eye scan
(06_lanes.md R129 to R148), and the enable and disable of ports, which drive them (07_mac.md R171, R172).
-/
namespace Sys2Proof.Machine

/-- TRAIN of lane `l` (R67); T0 to T3 train while a stitch-link boot has no Roast yet (R99). -/
def laneTrain (s : State) (l : Nat) : Bool := tst (laneRec s l) 19 || (s.roast.lanes.isEmpty && 32 ≤ l && l < 36)

/-- REF of lane `l`: 0 SREF0, 1 SREF1. -/
def laneRef (s : State) (l : Nat) : Nat := fld (laneRec s l) 16 1

/-- The ports a lane carries, other than a stitch port. -/
def lanePorts (s : State) (l : Nat) : List Nat :=
  if l < 32 then ((List.range 4).map (· + 4 * l)).filter (portPresent s) else if l = 40 then [128] else if l = 41 then [129] else []

/-- The stitch link of a T lane. -/
def laneLink (l : Nat) : Nat := if l < 36 then 0 else if l < 38 then 1 else 2

/-- The lanes of a stitch link. -/
def linkLanes (k : Nat) : List Nat := if k = 0 then [32, 33, 34, 35] else if k = 1 then [36, 37] else [38, 39]

/-- A stitch lane. -/
def isStitch (l : Nat) : Bool := 32 ≤ l && l < 40

/-- The first lane of the stitch link of a T lane, from whose PLL every lane of the link transmits (R139); any other lane has its own. -/
def pllLane (l : Nat) : Nat := if isStitch l then (linkLanes (laneLink l)).headD l else l

/-- Every reference of lane `l` has its bit in HOT_CLK_GOOD (R116): its receiver's, and that of the PLL from which it transmits (R139). -/
def laneRefsGood (s : State) (l : Nat) : Bool :=
  s.hot.clk.testBit (1 + laneRef s l) && s.hot.clk.testBit (1 + laneRef s (pllLane l))

/-- An eye scan that runs on lane `l` ends: the lane has left UP and TEST (R145; log entry 82). -/
def eyeStop (s : State) (l : Nat) : State :=
  let x := s.lane l
  if x.eyeBusy then (s.setLane l { x with eyeBusy := false, eye := [], eyeSat := true }).setFlags .LN_STATUS l 0 128 else s

/-- A lane reports link down to its MACs or its stitch engine (R143); the other lanes of a bonded link lose the deskew
and return to DOWN (R141). -/
def reportDown (s : State) (l : Nat) : State :=
  if isStitch l then
    let s := (linkLanes (laneLink l)).foldl (fun s k =>
      let x := s.lane k
      if x.st = .up then
        let s := s.setLane k { x with desk := false, st := .down }
        if k = l then s else eyeStop s k
      else s.setLane k { x with desk := false }) s
    stitchDown s (laneLink l)
  else (lanePorts s l).foldl linkDownFx s

/-- The taps at the initialise values (R133): PRE 2, MAIN 38, POST 8. -/
def initTaps : Word := put 16 5 2 ||| put 8 6 38 ||| put 0 5 8

/-- Every port of a port lane is disabled: the lane goes to IDLE, and stays there (R143, R87). -/
def laneHushed (s : State) (l : Nat) : Bool := decide (l < 32) && (lanePorts s l).all (portDisabled s)

/-- The PLL of lane `l` can be good (R116, R139): its references are, and on a lane of a stitch link other than the first, the first
one's PLL. -/
def lanePllReady (s : State) (l : Nat) : Bool := laneRefsGood s l && (pllLane l == l || (s.lane (pllLane l)).pll)

/-- The checker of lane `l` has no lock: its pattern is new, or the lane comes to TEST or leaves it (R144, R147). -/
def prbsUnlock (s : State) (l : Nat) : State := s.wr .LN_PRBS_ERR l 0 (s.rw .LN_PRBS_ERR l &&& 0x7FFFFFFF)

/-- A lane with a good PLL moves on from COLD (R143, R144); one with a reference that has lost its bit waits (R116). -/
def leaveCold (s : State) (l : Nat) : State :=
  let x := s.lane l
  if !lanePllReady s l then s
  else if fld (s.rw .LN_TEST l) 16 16 ≠ 0 then prbsUnlock (s.setLane l { x with st := .test, pll := true }) l
  else if laneHushed s l then s.setLane l { x with st := .idle, pll := true }
  else if laneTrain s l then (s.setLane l { x with st := .training, pll := true }).wr .LN_TX_TAPS l 0 initTaps
  else s.setLane l { x with st := .down, pll := true }

/-- A lane PLL becomes good (R143, R108): its references are good and its block is not in reset (R105).  A lane of a stitch link
other than the first follows the first one's PLL (R139). -/
def lanePllGood (s : State) (l : Nat) : State :=
  let x := s.lane l
  if lanePresent s l && lanePllReady s l && !closed s (domBlock (128 + l)) then
    if x.st = .cold then leaveCold s l else if x.st ≠ .off ∧ x.pll = false then s.setLane l { x with pll := true } else s
  else s

/-- A lane wakes from electrical idle (R143), but not while every port of it is disabled. -/
def laneWake (s : State) (l : Nat) : State :=
  let x := s.lane l
  if x.st = .idle ∧ laneHushed s l = false then s.setLane l { x with st := .down, woke := true, sync := false, cdr := false } else s

/-- A lane goes to electrical idle (R143).  A lane in TEST stays there (R144). -/
def laneIdle (s : State) (l : Nat) : State :=
  let x := s.lane l
  if x.st = .off ∨ x.st = .test then s
  else eyeStop (s.setLane l { x with
    st := .idle, sync := false, mlock := false, desk := false, woke := false, mkAt := none, mkMiss := 0 }) l

/-- A block that holds lane `l` closes (R105): the lane goes to electrical idle, from TEST too. -/
def laneCut (s : State) (l : Nat) : State :=
  if (s.lane l).st = .off then s
  else eyeStop (s.setLane l { (s.lane l) with
    st := .idle, sync := false, mlock := false, desk := false, woke := false, mkAt := none, mkMiss := 0 }) l

/-- The state machines and FIFOs of a lane in a reset of its block (R101): its PLL, its taps and its counters stay. -/
def laneClear (s : State) (l : Nat) : State :=
  let x := s.lane l
  if x.st = .off then s
  else s.setLane l { st := x.st, pll := x.pll, bring := x.bring, coldTick := x.coldTick }

/-- A lane's domain is released (R117, R143): from cold it moves on, from sleep it leaves electrical idle, unless its block is
closed (R105). -/
def laneReleased (s : State) (l : Nat) : State :=
  if closed s (domBlock (128 + l)) then s else
  match (s.lane l).st with
  | .off | .cold => leaveCold (s.setLane l { (s.lane l) with st := .cold }) l
  | .idle => laneWake s l
  | _ => s

/-- A lane's domain sleeps: electrical idle with the CDR held (R117); a stitch lane that was UP takes its whole link down (R141). -/
def laneSlept (s : State) (l : Nat) : State :=
  laneIdle (if (s.lane l).st == .up && isStitch l then reportDown s l else s) l

/-- A lane enters COLD at the start of a bring-up (R143). -/
def LaneS.toCold (x : LaneS) (tick : Nat) : LaneS :=
  { x with st := .cold, cdr := false, sync := false, mlock := false, desk := false, woke := false, mkAt := none, mkMiss := 0,
           bring := true, coldTick := tick }

/-- A reference loses its bit (R116, R143): every lane on it, by its receiver or by the PLL from which it transmits (R139), goes to
COLD with PLL_LOST. -/
def lanesRefLost (s : State) (ref : Nat) : State :=
  (List.range 42).foldl (fun s l =>
    let x := s.lane l
    if !lanePresent s l || x.st == .off || (laneRef s l != ref && laneRef s (pllLane l) != ref) then s else
    let s := reportDown s l
    eyeStop ((s.setLane l { (s.lane l).toCold s.hot.tick with pll := false }).setFlags .LN_STATUS l 0 1) l) s

/-- A lane reaches UP: LN_TRAIN_TIME takes the µs since COLD at a bring-up (R143, R146). -/
def laneToUp (s : State) (l : Nat) : State :=
  let x := s.lane l
  let us := ((s.hot.tick + 2 ^ 32 - x.coldTick) % 2 ^ 32) * 320 / 1000
  let s := s.setLane l { x with st := .up, woke := false, bring := false }
  if x.bring then s.wr .LN_TRAIN_TIME l 0 (wd (min us 1048575)) else s

/-- A lane gains code-group sync or block lock (R143); a stitch lane is UP only when its link is deskewed (R141). -/
def laneSyncGained (s : State) (l : Nat) : State :=
  let x := s.lane l
  if x.st ≠ .down then s else
  let s := s.setLane l { x with sync := true, cdr := true }
  if isStitch l && !x.desk then s else laneToUp s l

/-- A lane loses sync or CDR lock: in UP it retrains or reacquires, and reports link down (R143); in DOWN the locks that it had
gained go, and with them the deskew of its link (R141). -/
def laneSyncLost (s : State) (l : Nat) : State :=
  let x := s.lane l
  let out (x : LaneS) : LaneS := { x with sync := false, cdr := false, mlock := false, desk := false, mkAt := none, mkMiss := 0 }
  if x.st = .down then
    let s := s.setLane l (out x)
    if isStitch l then (linkLanes (laneLink l)).foldl (fun s k => s.setLane k { (s.lane k) with desk := false }) s else s
  else if x.st ≠ .up then s
  else
    let s := reportDown s l
    let s := s.setLane l { out (s.lane l) with st := if laneTrain s l then .training else .down }
    eyeStop ((s.bump .LN_LOCK_LOSS l).setFlags .LN_STATUS l 0 1) l

/-- A lane woken from IDLE has not reached UP within 10 µs (R143). -/
def laneWakeTimeout (s : State) (l : Nat) : State :=
  let x := s.lane l
  if x.st = .down ∧ x.woke then
    (s.setLane l { x with woke := false, st := if laneTrain s l then .training else .down }).setFlags .LN_STATUS l 0 1
  else s

/-- Both receivers are ready: the trained taps hold (R134). -/
def trainingComplete (s : State) (l : Nat) : State :=
  let x := s.lane l
  if x.st = .training then s.setLane l { x with st := .down } else s

/-- Training has not ended after 500 ms (R134). -/
def trainingTimeout (s : State) (l : Nat) : State :=
  if (s.lane l).st = .training then
    ((s.wr .LN_TX_TAPS l 0 initTaps).bump .LN_TRAIN_FAILS l).setFlags .LN_STATUS l 0 4
  else s

/-- The taps at the preset values (R133): PRE 0, MAIN 48, POST 0. -/
def presetTaps : Word := put 8 6 48

/-- A far receiver asks to move a tap (R133): tap 0 PRE, 1 MAIN, 2 POST, up or down one step, 3 every tap to its preset value, 4
every tap to its initialise value.  A request beyond the tap's range or the sum of 48 leaves the tap and is answered maximum or
minimum. -/
def tapRequest (s : State) (l tap : Nat) (up : Bool) : State :=
  if (s.lane l).st ≠ .training ∨ tap > 4 then s
  else if tap = 3 then (s.wr .LN_TX_TAPS l 0 presetTaps).emit (.tapAnswer l 3 1)
  else if tap = 4 then (s.wr .LN_TX_TAPS l 0 initTaps).emit (.tapAnswer l 4 1)
  else
  let w := s.rw .LN_TX_TAPS l
  let lo := [16, 8, 0].getD tap 0
  let n := [5, 6, 5].getD tap 5
  let mn := [0, 24, 0].getD tap 0
  let mx := [8, 48, 16].getD tap 0
  let v := fld w lo n
  let sum := fld w 16 5 + fld w 8 6 + fld w 0 5
  if up then
    if v ≥ mx ∨ sum ≥ 48 then s.emit (.tapAnswer l tap 2)
    else (s.wr .LN_TX_TAPS l 0 (setFld w lo n (v + 1))).emit (.tapAnswer l tap 1)
  else
    if v ≤ mn then s.emit (.tapAnswer l tap 3)
    else (s.wr .LN_TX_TAPS l 0 (setFld w lo n (v - 1))).emit (.tapAnswer l tap 1)

/-- Taps clamped to their ranges and to a sum of 48, POST reduced first, then PRE (R133). -/
def clampTaps (w : Word) : Word :=
  let pre := min (fld w 16 5) 8
  let main := max 24 (min (fld w 8 6) 48)
  let post := min (fld w 0 5) 16
  let post := min post (48 - main - min pre (48 - main))
  let pre := min pre (48 - main)
  put 16 5 pre ||| put 8 6 main ||| put 0 5 post

/-- A write of LN_TX_TAPS (R135): no effect on a lane with TRAIN = 1. -/
def tapsWrite (s : State) (l : Nat) (w : Word) : State :=
  if laneTrain s l then s else s.wr .LN_TX_TAPS l 0 (clampTaps w)

/-! ## Rate matching (R136, R137) -/

/-- The depth of a receive FIFO and its deletion and insertion unit. -/
def fifoShape (m : Nat) : Nat × Nat :=
  if m = 1 then (64, 1) else if m ≤ 5 then (64, 2) else (32, 1)

/-- An occurrence in the block of a port lane or a host lane (R402). -/
def laneOcc (s : State) (l ev : Nat) (n : Nat := 1) : State :=
  if l < 32 then occ s (8 + l / 4) ev (l % 4) n else if 40 ≤ l ∧ l < 42 then occ s (l - 8) ev 0 n else s

/-- The receive FIFO of sub-port `sub` of lane `l` stands at a gap: no frame is in reception there (R137).  The FIFO of a stitch
link stands at a filler column. -/
def atGap (s : State) (l sub : Nat) : Bool :=
  isStitch l || ((s.mac (if l < 32 then 4 * l + sub else l + 88)).rx).isNone

/-- One unit is deleted from or inserted in a receive FIFO that holds `fill` (R136, R137).  The FIFO of a stitch link is one for
the link, kept at its first lane, and works on a column: a block on every lane of the link. -/
def rateUnit (s : State) (l sub : Nat) (fill : Nat) (del : Bool) : State :=
  let f : Fam := if del then .LN_FILL_DEL else .LN_FILL_INS
  let k := pllLane l
  let x := s.lane k
  let u := (fifoShape (laneMode s l)).2
  let s := s.setLane k { x with fill := mput 0 x.fill sub (if del then fill - u else fill + u) }
  if isStitch l then (linkLanes (laneLink l)).foldl (fun s j => s.bump f j) s
  else laneOcc (s.bump f l) l (if del then 0x18 else 0x19)

/-- At a gap of at least two units with a fill above three quarters, one unit is deleted (R137).  `fill` is the FIFO's fill at that
gap. -/
def rateDelete (s : State) (l sub fill gap : Nat) : State :=
  let d := fifoShape (laneMode s l)
  if (s.lane l).st = .up ∧ atGap s l sub ∧ 2 ≤ gap ∧ 4 * fill > 3 * d.1 ∧ fill ≤ d.1 then rateUnit s l sub fill true else s

/-- At a gap with a fill below one quarter, one unit is inserted (R137). -/
def rateInsert (s : State) (l sub fill : Nat) : State :=
  let d := fifoShape (laneMode s l)
  if (s.lane l).st = .up ∧ atGap s l sub ∧ 4 * fill < d.1 then rateUnit s l sub fill false else s

/-! ## Alignment markers (R140, R141) -/

/-- The logical lane that M0, M1 and M2 name. -/
def markerLane (m : Nat) : Option Nat :=
  if m = 0xA65D3C then some 0 else if m = 0x59C293 then some 1 else if m = 0x3A71E8 then some 2
  else if m = 0xC50F6B then some 3 else none

/-- A block is an alignment marker: M0 to M2 and their complements. -/
def markerOf (w0 w1 : Word) : Option Nat :=
  if fld w1 8 24 = 0xFFFFFF - fld w0 8 24 then markerLane (fld w0 8 24) else none

/-- The link deskews once every lane has marker lock, within 32 blocks of skew (R141). -/
def deskew (s : State) (k : Nat) : State :=
  let ls := linkLanes k
  let at_ := ls.filterMap (fun l => (s.lane l).mkAt)
  let lo := at_.foldl min (at_.headD 0)
  let hi := maxN at_
  if !(ls.all (fun l => (s.lane l).mlock && (s.lane l).sync)) || hi - lo ≥ 8192 then s
  else
    let s := ls.foldl (fun s l => s.setLane l { (s.lane l) with skew := ((s.lane l).mkAt.getD lo) - lo }) s
    if hi - lo > 32 then
      ls.foldl (fun s l => if (s.lane l).skew > 32 then s.setFlags .LN_STATUS l 0 16 else s) s
    else ls.foldl (fun s l =>
      let s := s.setLane l { (s.lane l) with desk := true }
      if (s.lane l).st = .down then laneToUp s l else s) s

/-- A block arrives at block position `pos` of stitch lane `l`, at a place where a marker is expected or with a marker's
pattern (R140, R141): `bip` is the parity that the receiver computed since the last marker. -/
def alignmentMarker (s : State) (l pos : Nat) (w0 w1 : Word) (bip : Nat) : State :=
  let x := s.lane l
  if !isStitch l || !x.sync then s else
  let due := match x.mkAt with
    | some a => pos == a + 16385 * (if x.mlock then x.mkMiss + 1 else 1)
    | none => false
  match markerOf w0 w1 with
  | some k =>
    if x.mlock && !due then s else
    let s := if x.mkAt.isSome && due && fld w0 0 8 != bip % 256 then (s.bump .LN_BIP_ERR l).setFlags .LN_STATUS l 0 32 else s
    let s := s.setLane l { x with mkAt := some pos, mkMiss := 0, logical := k, mlock := x.mlock || due }
    deskew s (laneLink l)
  | none =>
    if !due then s
    else if !x.mlock then s.setLane l { x with mkAt := none, mkMiss := 0 }
    else if x.mkMiss < 3 then s.setLane l { x with mkMiss := x.mkMiss + 1 }
    else
      let s := s.setFlags .LN_STATUS l 0 8
      let was := x.st == .up
      let s := s.setLane l { x with mlock := false, desk := false, mkAt := none, mkMiss := 0 }
      if was then eyeStop (reportDown s l) l else s

/-! ## Tests and the eye monitor (R144, R145) -/

/-- What the lane's receiver has met since its registers were last read, which no command tells (log entry 24): blocks that the FEC
corrected and blocks that it could not (R147), and, while a checker is selected, its lock and the bit errors that it found since it
locked (R144, R147): it may have lost its lock and found it again.  A generator of the checker's own pattern in near-end loopback
brings no error. -/
def laneCatchUp (s : State) (l : Nat) : State :=
  let x := s.lane l
  let w := s.rw .LN_TEST l
  let had := tst (s.rw .LN_PRBS_ERR l) 31
  let errs := s.rf .LN_PRBS_ERR l 0 0 31
  if x.st = .test ∧ fld w 16 4 ≠ 0 then
    if fld w 30 2 = 1 ∧ fld w 24 4 = fld w 16 4 then s.wr .LN_PRBS_ERR l 0 (bitw 31 true ||| put 0 31 (if had then errs else 0))
    else
      let n := s.free
      -- bit 0: locked now; bit 1: it has not locked anew since the last reading
      let same := had && n / 2 % 2 == 1
      let new := if same then errs + n / 4 else if n % 2 = 1 then n / 4 else errs
      s.drawn.wr .LN_PRBS_ERR l 0 (bitw 31 (n % 2 == 1) ||| put 0 31 (min (2 ^ 31 - 1) new))
  else if x.st = .up ∧ fld (laneRec s l) 20 2 ≠ 0 then
    let s := laneOcc (s.drawn.bump .LN_FEC_CORR l 0 s.free) l 0x1A s.free
    let n := s.free
    let s := s.drawn
    if n = 0 then s else (s.bump .LN_FEC_UNCORR l 0 n).setFlags .LN_STATUS l 0 64
  else s

/-- An LN_TEST word in place of `old` acts (R144): any non-zero selection takes the lane to TEST, zero restarts it from COLD. -/
def testApply (s : State) (l : Nat) (old w : Word) : State :=
  let x := s.lane l
  if x.st = .off then s
  else if fld w 16 16 ≠ 0 then
    let s := if x.st = .up ∨ x.st = .idle then reportDown s l else s
    let s := if x.st = .test ∧ fld old 16 4 = fld w 16 4 then s else prbsUnlock s l
    s.setLane l { (s.lane l) with st := .test, sync := false, mlock := false, desk := false, woke := false }
  else if x.st = .test then
    let s := eyeStop (prbsUnlock (s.setLane l (x.toCold s.hot.tick)) l) l
    if x.pll then leaveCold s l else s
  else s

/-- A write of LN_TEST (R144): CLR clears LN_PRBS_ERR; a host lane waits for the response to leave. -/
def testWrite (s : State) (l : Nat) (w : Word) : State :=
  let s := if tst w 0 then s.wr .LN_PRBS_ERR l 0 0 else laneCatchUp s l
  let v := w &&& 0xCF0F0000
  let old := s.rw .LN_TEST l
  let s := s.wr .LN_TEST l 0 v
  if l ≥ 40 then s.setLane l { (s.lane l) with testNext := some (v, ((s.lane l).testNext.map (·.2)).getD old) } else testApply s l old v

/-- The responses have left: LN_TEST words that wait on the host lanes act (R144). -/
def testFlush (s : State) : State :=
  [40, 41].foldl (fun s l =>
    match (s.lane l).testNext with
    | some w =>
      if (s.mac (l + 88)).ctlq.isEmpty then testApply (s.setLane l { (s.lane l) with testNext := none }) l w.2 w.1 else s
    | none => s) s

/-- A write of LN_EYE_CMD (R145): START clears the counts and starts a scan; outside UP and TEST it ends at once with
every count at 65,535. -/
def eyeWrite (s : State) (l : Nat) (w : Word) : State :=
  let s := s.wr .LN_EYE_CMD l 0 (w &&& 0x1F)
  let x := s.lane l
  if !tst w 31 || x.eyeBusy then s
  else if x.st = .up ∨ x.st = .test then s.setLane l { x with eye := [], eyeSat := false, eyeBusy := true }
  else (s.setLane l { x with eye := [], eyeSat := true }).setFlags .LN_STATUS l 0 128

/-- A scan completes with the counts measured, two to a word (R145). -/
def eyeDone (s : State) (l : Nat) (counts : List Word) : State :=
  let x := s.lane l
  if !x.eyeBusy then s else
  let m := ((List.range 2048).zip counts).foldl (fun m p => mput 0 m p.1 p.2) []
  (s.setLane l { x with eye := m, eyeBusy := false }).setFlags .LN_STATUS l 0 128

/-- LN_STATE (R143, R146). -/
def laneState (s : State) (l : Nat) : Word :=
  let x := s.lane l
  put 29 3 (if !lanePresent s l then 7 else match x.st with
    | .off => 0
    | .cold => 1
    | .training => 2
    | .down => 3
    | .up => 4
    | .idle => 5
    | .test => 6) ||| bitw 28 x.pll ||| bitw 27 x.cdr ||| bitw 26 x.sync ||| bitw 25 x.mlock ||| bitw 24 x.desk |||
    put 16 2 x.logical ||| put 8 8 x.skew

/-! ## Enable and disable (R171, R172) -/

/-- A disabled front port is enabled (R171): its domains wake, its TX_DISABLE is released and its lane starts, at once where the
lane's domain is awake and its block is open. -/
def enableNow (s : State) (p : Nat) : State :=
  let s := s.setMac p { (s.mac p) with en := .enabled, enPend := false, drained := false, txDis := false }
  let s := trigger (trigger s 2 p) 2 (128 + p / 4)
  if domOn s (128 + p / 4) && !closed s (portBlock p) then laneWake s (p / 4) else s

/-- PORT_EN is written to 1 (R171, R172). -/
def portEnableFx (s : State) (p : Nat) : State :=
  if p ≥ 128 ∨ !portPresent s p then s else
  match (s.mac p).en with
  | .disabled => enableNow s p
  | .disabling => s.setMac p { (s.mac p) with enPend := true }
  | .enabled => s

/-- PORT_EN is written to 0 (R172): the disable starts; it drains when DRAIN is 1.  An enable that waits is called off (log entry
112). -/
def portDisableFx (s : State) (p : Nat) : State :=
  if p ≥ 128 ∨ !portPresent s p then s else
  match (s.mac p).en with
  | .enabled => s.setMac p { (s.mac p) with en := .disabling, drained := !tst (s.rw .MAC_CFG p) 30, enPend := false }
  | .disabling => s.setMac p { (s.mac p) with enPend := false }
  | .disabled => s

/-- DRAIN_LIMIT expires (R172). -/
def drainLimit (s : State) (p : Nat) : State :=
  if (s.mac p).en = .disabling then s.setMac p { (s.mac p) with drained := true } else s

/-- The disable completes (R172): the drain step is over or the queues are empty, and no frame is in progress, sent or received. -/
def disableEnd (s : State) (p : Nat) : State :=
  let m := s.mac p
  if p < 128 ∧ m.en = .disabling ∧ m.tx = none ∧ m.txP = none ∧ m.rx = none ∧ m.asm.all (·.asmBad) ∧
      (m.drained ∨ s.car.copies.all (fun c => c.port != p)) then
    let s := purgePort s p false
    let s := setLpi s p false false
    let s := s.setMac p { (s.mac p) with en := .disabled, link := false, ver := .disabled, tries := 0, txDis := true }
    let s := linkdownFlush (pathKept (s.setFlags .MAC_STATUS p 0 16) p) p
    let s := if (lanePorts s (p / 4)).all (fun q => portDisabled s q) then laneIdle s (p / 4) else s
    if m.enPend then enableNow s p else s
  else s

end Sys2Proof.Machine
end

