-- ==== Sys2Proof/Machine/RoastCheck.lean ====
section
/-!
DEFINITION. Machine/RoastCheck.lean: the layout and the acceptance checks of the Roast image
(03_roast_image.md R62 to R76, R79, R80, R470).  Every check is a plain function of the image bytes.
-/
namespace Sys2Proof.Machine

/-- One section of an image: its TYPE, its DEVICES mask, the byte offset of its header and its body words (R65). -/
structure Section where
  ty : Nat
  devs : Nat
  off : Nat
  body : List Word
deriving DecidableEq, Repr

/-- The byte offset of body word `i` of a section. -/
def Section.at (x : Section) (i : Nat) : Nat := x.off + 8 + 4 * i

/-- Body word `i` of a section. -/
def Section.w (x : Section) (i : Nat) : Word := x.body.getD i 0

/-- The header fields of R62 that the checks and the report registers use. -/
structure ImgHead where
  magic : Nat
  format : Nat
  minStep : Nat
  part : Nat
  len : Nat
  signed : Bool
  sections : Nat
  build : Nat
deriving DecidableEq, Repr

/-- The header of an image (R62). -/
def imgHead (b : Bytes) : ImgHead where
  magic := beAt b 0 4
  format := beAt b 4 1
  minStep := beAt b 5 1
  part := beAt b 6 2
  len := beAt b 8 4
  signed := nbit (beAt b 12 4) 31
  sections := beAt b 15 1
  build := beAt b 16 8

/-- A reserved bit of the image header is set (R470). -/
def headReserved (b : Bytes) : Bool :=
  nfld (beAt b 12 4) 8 23 != 0 || (slice b 24 36).any (fun x => x != 0)

/-- The sections of an image, at most `n` of them, with the offset where they end; `none` where a LENGTH
is not a multiple of 4, is below 8, or reaches beyond `lim`, with the offset of that word (R65). -/
def sections : Nat → Bytes → Nat → Nat → List Section × Nat × Option Nat
  | 0, _, o, _ => ([], o, none)
  | n + 1, b, o, lim =>
    if o + 8 > lim then ([], o, some o) else
    let w0 := BitVec.ofNat 32 (beAt b 0 4)
    let len := beAt b 4 4
    if len % 4 ≠ 0 ∨ len < 8 ∨ o + len > lim then ([], o, some (o + 4)) else
    let r := sections n (b.drop len) (o + len) lim
    (⟨fld w0 24 8, fld w0 16 4, o, bytesWs ((len - 8) / 4) (b.drop 8)⟩ :: r.1, r.2)

/-- The first `some` of a list. -/
def firstSome : List (Option Nat) → Option Nat
  | [] => none
  | some x :: _ => some x
  | none :: t => firstSome t

/-- An offset, where the condition that rejects holds. -/
def bad (c : Bool) (off : Nat) : Option Nat := if c then some off else none

/-- TYPE values a section may have (R65). -/
def typeOk (t : Nat) : Bool := (1 ≤ t && t ≤ 0xA) || (0x80 ≤ t && t ≤ 0xFE)

/-- The order, mask and header-word rules of R65 and R470, section by section; `seen` holds the earlier ones. -/
def secOrder (img : Bytes) : List Section → List Section → Option Nat
  | _, [] => none
  | seen, x :: t =>
    let w0 := BitVec.ofNat 32 (beAt img x.off 4)
    let tool := 0x80 ≤ x.ty
    match firstSome [bad (!typeOk x.ty) x.off,
        bad (!tool && (fld w0 20 4 != 0 || fld w0 0 16 != 0)) x.off,
        bad (!tool && seen.any (fun y => y.ty < 0x80 && x.ty < y.ty)) x.off,
        bad (!tool && x.devs == 0) x.off,
        bad (!tool && seen.any (fun y => y.ty == x.ty && (y.devs &&& x.devs) != 0)) x.off] with
    | some o => some o
    | none => secOrder img (seen ++ [x]) t

/-- The devices an image names: the checking device and every device of a DEVICES mask (R65). -/
def namedDevs (self : Nat) (ss : List Section) : List Nat :=
  (List.range 4).filter (fun d => d == self || ss.any (fun x => x.ty ≤ 0xA && nbit x.devs d))

/-- The required section types (R65). -/
def requiredTypes : List Nat := [1, 2, 3, 4, 5, 7, 8]

/-- Exactly one section of each required type applies to each named device (R65). -/
def requiredOk (self : Nat) (ss : List Section) : Bool :=
  (namedDevs self ss).all (fun d => requiredTypes.all (fun t =>
    (ss.filter (fun x => x.ty == t && nbit x.devs d)).length == 1))

/-- The fixed body lengths, in words, of the sections of R66, R67, R68 and R74. -/
def fixedLen (t : Nat) : Option Nat :=
  match t with
  | 1 => some 28
  | 2 => some 42
  | 3 => some 268
  | 8 => some 15
  | _ => none

/-- The section of type `t` that applies to device `d` (R65). -/
def secFor (ss : List Section) (t d : Nat) : Option Section := ss.find? (fun x => x.ty == t && nbit x.devs d)

/-! ## Content rules (R66 to R76, R80, R470): the offset of the first word that breaks one -/

/-- EtherTypes that the control EtherType may not be (R66). -/
def etypeTaken : List Nat :=
  [0x8100, 0x8808, 0x88A8, 0x88B6, 0x88B8, 0x88BA, 0x88D8, 0x88F7, 0x88FB, 0x892F]

/-- Contexts `a` and `b` of an identity section share a lane, a source address and a tagging (R66). -/
def ctxClash (x : Section) (a b : Nat) : Bool :=
  let ca := x.w (4 + 3 * a)
  let cb := x.w (4 + 3 * b)
  tst ca 31 && tst cb 31 && (tst ca 30 == tst cb 30) &&
  (fld (x.w (5 + 3 * a)) 0 16 == fld (x.w (5 + 3 * b)) 0 16) && (x.w (6 + 3 * a) == x.w (6 + 3 * b)) &&
  (tst ca 29 == tst cb 29) && (!tst ca 29 || fld ca 0 12 == fld cb 0 12)

/-- The identity section's rules (R66, R56). -/
def chkIdentity (x : Section) : Option Nat :=
  let et := fld (x.w 0) 0 16
  let g := fld (x.w 3) 0 3
  firstSome
    ([bad (fld (x.w 0) 16 16 != 0 || et < 0x600 || etypeTaken.contains et) (x.at 0),
      bad (fld (x.w 1) 16 16 != 0 || tst (x.w 1) 8) (x.at 1),
      bad (fld (x.w 3) 10 22 != 0 || fld (x.w 3) 3 5 != 0) (x.at 3)] ++
    (List.range 8).flatMap (fun c =>
      [bad (fld (x.w (4 + 3 * c)) 16 13 != 0 || tst (x.w (4 + 3 * c)) 12) (x.at (4 + 3 * c)),
       bad (fld (x.w (5 + 3 * c)) 16 16 != 0) (x.at (5 + 3 * c)),
       bad ((List.range c).any (fun a => ctxClash x a c)) (x.at (4 + 3 * c))]) ++
    [bad (!(tst (x.w (4 + 3 * g)) 31 && tst (x.w (4 + 3 * g)) 30)) (x.at 3)])

/-- The mode a lane record names (R67). -/
def recMode (w : Word) : Nat := fld w 22 4

/-- Mode, FEC and TRAIN are allowed for lane `l` (the tables of R67). -/
def laneAllowed (l : Nat) (w : Word) : Bool :=
  let m := recMode w
  let fec := fld w 20 2
  let tr := tst w 19
  let isP := l < 32
  let isT := 32 ≤ l && l < 40
  match m with
  | 0x0 => fec == 0 && !tr
  | 0x1 | 0x2 | 0x3 | 0x4 | 0x5 | 0x8 | 0x9 => isP && fec == 0 && !tr
  | 0x6 => !isT && fec == 0 && !tr
  | 0x7 => isP && fec ≤ 1
  | 0xA => !isT && (if isP then fec ≤ 2 else fec == 0)
  | 0xB => isT && fec == 0
  | _ => false

/-- The first lane of the stitch link that lane `l` belongs to. -/
def stitchFirst (l : Nat) : Nat := if l < 36 then 32 else if l < 38 then 36 else 38

/-- The lane section's rules (R67) on the running part (R80). -/
def chkLanes (small : Bool) (x : Section) : Option Nat :=
  firstSome ((List.range 42).flatMap (fun l =>
    let w := x.w l
    [bad (fld w 26 6 != l || fld w 0 16 != 0 || !laneAllowed l w) (x.at l),
     bad (32 ≤ l && l < 40 && recMode w != recMode (x.w (stitchFirst l))) (x.at l),
     bad (small && recMode w != 0 && ((16 ≤ l && l < 32) || (36 ≤ l && l < 40))) (x.at l)]))

/-- Port `p` exists under the lane records of a lane section, on the running part (R2, R15, R16).  A stitch port of a link whose
lanes are in mode 0x0 counts as existing here, so its record need not be zero (DESIGN CHOICE, log entry 92). -/
def portIn (small : Bool) (lanes : Section) (p : Nat) : Bool :=
  if p < 128 then
    (!small || p < 64) && recMode (lanes.w (p / 4)) != 0 &&
    (p % 4 == 0 || recMode (lanes.w (p / 4)) == 5 || recMode (lanes.w (p / 4)) == 9)
  else !small || (p != 131 && p != 132)

/-- The mode of the lane that carries port `p`; 0 for the service port. -/
def portLaneMode (lanes : Section) (p : Nat) : Nat :=
  if p < 128 then recMode (lanes.w (p / 4)) else if p = 128 then recMode (lanes.w 40)
  else if p = 129 then recMode (lanes.w 41) else if p = 130 then recMode (lanes.w 32)
  else if p = 131 then recMode (lanes.w 36) else if p = 132 then recMode (lanes.w 38) else 0

/-- The ports section's rules (R68, R157, R168), with the lane section of one of its devices. -/
def chkPorts (small : Bool) (lanes x : Section) : Option Nat :=
  firstSome ((List.range 134).flatMap (fun p =>
    let a := x.w (2 * p)
    let b := x.w (2 * p + 1)
    let m := portLaneMode lanes p
    if portIn small lanes p then
      [bad (fld a 24 8 != p || fld a 0 17 != 0 || decide (fld a 19 5 > queueCount p)) (x.at (2 * p)),
       bad ((tst a 18 && !modePreempt p m) || (tst a 17 && !modeEee p m)) (x.at (2 * p)),
       bad (fld b 28 4 != 0 || fld b 13 3 != 0 || decide (fld b 0 13 > 4096)) (x.at (2 * p + 1))]
    else
      [bad (fld a 24 8 != p || fld a 0 24 != 0) (x.at (2 * p)), bad (b != 0) (x.at (2 * p + 1))]))

/-- The partition section's rules (R69).  A record with COUNT 0 must have its FIRST in its region's group all the same (DESIGN CHOICE,
log entry 91). -/
def chkParts (x : Section) : Option Nat :=
  firstSome ((List.range x.body.length).flatMap (fun i =>
    let w := x.w i
    let r := fld w 24 8
    let lo := regionGroup r
    [bad (fld w 16 8 != 0 || r == 0 || decide (r > 0xC) || decide (fld w 0 7 > regionMax r)) (x.at i),
     bad (decide (fld w 7 9 < 80 * lo) || decide (fld w 7 9 + fld w 0 7 > 80 * lo + 80)) (x.at i),
     bad ((List.range i).any (fun k => fld (x.w k) 24 8 == r)) (x.at i)]))

/-- The records of a keys section from body word `i`: stage, first word and selector count. -/
def keyRecs : Nat → Section → Nat → List (Nat × Nat × Nat)
  | 0, _, _ => []
  | n + 1, x, i =>
    if i ≥ x.body.length then [] else
    let c := fld (x.w i) 0 5
    (fld (x.w i) 28 4, i, c) :: keyRecs n x (i + 1 + c)

/-- The key width of a stage (R71), 0 for a stage that takes no record. -/
def stageWidth (st : Nat) : Nat :=
  match st with
  | 0 => 32
  | 1 => 96
  | 2 => 320
  | 3 => 96
  | 5 => 160
  | _ => 0

/-- Two key ranges overlap. -/
def overlap (a n b m : Nat) : Bool := decide (a < b + m) && decide (b < a + n)

/-- The keys section's rules (R71). -/
def chkKeys (x : Section) : Option Nat :=
  let rs := keyRecs 16 x 0
  firstSome
    (rs.flatMap (fun (st, i, c) =>
      let h := x.w i
      let kb := fld h 16 9
      [bad (stageWidth st == 0 || fld h 25 3 != 0 || fld h 5 11 != 0 || kb == 0 || decide (kb > stageWidth st)) (x.at i),
       bad (c == 0 || decide (c > 16) || decide (i + 1 + c > x.body.length)) (x.at i),
       bad ((rs.filter (fun r => r.1 == st && r.2.1 < i)).length != 0) (x.at i)] ++
      (List.range c).map (fun k =>
        let w := x.w (i + 1 + k)
        bad (fieldWidth (fld w 24 8) == 0 || ((fld w 24 8 == 0x30 || fld w 24 8 == 0x31) && st != 5) || fld w 0 7 == 0 || decide (fld w 0 7 > 64) ||
            decide (fld w 16 8 + fld w 0 7 > fieldWidth (fld w 24 8)) || decide (fld w 7 9 + fld w 0 7 > kb) ||
            (List.range k).any (fun q =>
              let v := x.w (i + 1 + q)
              overlap (fld v 7 9) (fld v 0 7) (fld w 7 9) (fld w 0 7))) (x.at (i + 1 + k)))) ++
     [bad (!([0, 1, 2, 3, 5].all (fun s => rs.any (fun r => r.1 == s)))) (x.at 0)])

/-- The guard section's rules (R72). -/
def chkGuard (x : Section) : Option Nat :=
  let n := (x.w 1).toNat
  firstSome
    ([bad (fld (x.w 0) 13 19 != 0) (x.at 0),
      bad (decide (n > 256) || x.body.length != 2 + 2 * n) (x.at 1)] ++
     (List.range (min n 256)).flatMap (fun i =>
       [bad (fld (x.w (2 + 2 * i)) 0 2 != 0) (x.at (2 + 2 * i)),
        bad ((x.w (3 + 2 * i)).toNat == 0 || decide ((x.w (3 + 2 * i)).toNat > 65536)) (x.at (3 + 2 * i))]))

/-- FUNC is defined for PIN (R455): 0 for every pin, 1 and 2 for a GPIO, 1 for PPS_IN. -/
def pinFuncOk (pin func : Nat) : Bool := pin < 84 && decide (func ≤ if 32 ≤ pin ∧ pin < 48 then 2 else if pin = 48 then 1 else 0)

/-- PIN is a ball of a line channel that a DV9064 has not (R2): LC_TX and LC_RX 8 to 15. -/
def pinLarge (pin : Nat) : Bool := (8 ≤ pin && pin < 16) || (24 ≤ pin && pin < 32)

/-- The pins section's rules (R73, R455) on the running part (R80). -/
def chkPins (small : Bool) (x : Section) : Option Nat :=
  firstSome ((List.range x.body.length).flatMap (fun i =>
    let w := x.w i
    let pin := fld w 22 10
    [bad (fld w 0 12 != 0 || fld w 16 2 == 3 || !pinFuncOk pin (fld w 18 4) || (small && pinLarge pin)) (x.at i),
     bad ((List.range i).any (fun k => fld (x.w k) 22 10 == pin)) (x.at i)]))

/-- The power section's rules (R74). -/
def chkPower (x : Section) : Option Nat :=
  firstSome ((List.range 15).map (fun n =>
    bad ((List.range 16).any (fun i => fld (x.w n) (2 * i) 2 == 3) || (n == 14 && fld (x.w n) 24 8 != 0)) (x.at n)))

/-- One record of a register-contents section (R75): its address, KIND and words. -/
structure RegRec where
  addr : Nat
  kind : Nat
  ws : List Word
  off : Nat
deriving DecidableEq, Repr

/-- The register records of a section from body word `i`; the second part is the offset of a record that
cannot be read (KIND 0b11, a Count outside 1 to 65,536, or words beyond the section). -/
def regRecs : Nat → Section → Nat → List Word → List RegRec × Option Nat
  | 0, _, _, _ => ([], none)
  | _ + 1, _, _, [] => ([], none)
  | n + 1, x, i, w :: t =>
    let k := fld w 0 2
    let a := w.toNat - w.toNat % 4
    let need := if k = 0 then 1 else if k = 1 then 2 else if k = 2 then 1 + (t.getD 0 0).toNat else 0
    if k = 3 then ([], some (x.at i))
    else if k = 2 ∧ ((t.getD 0 0).toNat = 0 ∨ (t.getD 0 0).toNat > 65536) then ([], some (x.at (i + 1)))
    else if t.length < need then ([], some (x.at i))
    else
      let r := regRecs n x (i + 1 + need) (t.drop need)
      (⟨a, k, t.take need, x.at i⟩ :: r.1, r.2)

/-- One record of a table-contents section (R76). -/
structure TblRec where
  region : Nat
  guard : Bool
  words : Nat
  count : Nat
  index : Nat
  ws : List Word
  off : Nat
deriving DecidableEq, Repr

/-- The table records of a section from body word `i`, and the offset of a record that cannot be read. -/
def tblRecs : Nat → Section → Nat → List Word → List TblRec × Option Nat
  | 0, _, _, _ => ([], none)
  | _ + 1, _, _, [] => ([], none)
  | n + 1, x, i, h :: t =>
    let need := 1 + fld h 0 16 * fld h 16 7
    if t.length < need then ([], some (x.at i))
    else
      let r := tblRecs n x (i + 1 + need) (t.drop need)
      (⟨fld h 24 8, tst h 23, fld h 16 7, fld h 0 16, (t.getD 0 0).toNat, (t.drop 1).take (need - 1), x.at i⟩ :: r.1, r.2)

/-- The register-contents rules (R75). -/
def chkRegs (x : Section) : Option Nat := (regRecs x.body.length x 0 x.body).2

/-- The partition records of one device, region by region: first granule and count (R69). -/
def partsOf (x : Section) : List (Nat × Nat × Nat) :=
  x.body.map (fun w => (fld w 24 8, fld w 7 9, fld w 0 7))

/-- The entries of `n` words each of a record. -/
def chunks : Nat → Nat → List Word → List (List Word)
  | 0, _, _ => []
  | k + 1, n, ws => ws.take n :: chunks k n (ws.drop n)

/-- The table-contents rules (R76), with the partition of one of its devices; FDB entries are inserted by
hash into an empty FDB in image order, and one that finds no free place rejects the record. -/
def chkTables (parts : List (Nat × Nat × Nat)) (x : Section) : Option Nat :=
  let r := tblRecs x.body.length x 0 x.body
  let one (q : TblRec) : Option Nat :=
    firstSome
      [bad (decide (q.region > 0xC) || q.count == 0 || q.words * 4 != entryBytes q.region) q.off,
       bad (if q.region = 0 then q.index != 0 else decide (q.index + q.count > entriesOf parts q.region)) (q.off + 4)]
  let fdb := r.1.filter (fun q => q.region == 0)
  match firstSome (r.1.map one ++ [r.2]) with
  | some o => some o
  | none => fdbFits [] (fdb.map (fun q => (q.off, chunks q.count q.words q.ws)))

/-- The content rules of one section, for every device its mask names (R79: whichever devices it names). -/
def chkContent (small : Bool) (ss : List Section) (x : Section) : Option Nat :=
  let ds := (List.range 4).filter (fun d => nbit x.devs d)
  match x.ty with
  | 1 => chkIdentity x
  | 2 => chkLanes small x
  | 3 => firstSome (ds.map (fun d => match secFor ss 2 d with
      | some l => chkPorts small l x
      | none => none))
  | 4 => chkParts x
  | 5 => chkKeys x
  | 6 => chkGuard x
  | 7 => chkPins small x
  | 8 => chkPower x
  | 9 => chkRegs x
  | 10 => firstSome (ds.map (fun d => match secFor ss 4 d with
      | some p => chkTables (partsOf p) x
      | none => none))
  | _ => none

/-- What an image check ends with: accepted, or a fault code and an offset (R79).  An offset of `none` is
one the spec does not state (no single word failed). -/
inductive Verdict where
  | accept
  | fault (code : Nat) (off : Option Nat)
deriving DecidableEq, Repr

/-- The running part is a DV9064: a DV9064, or a DV9128 that runs a 0x9064 image (R80). -/
def runsSmall (f : Fuses) (h : ImgHead) : Bool := f.part == 0x9064 || h.part == 0x9064

/-- The PART field is acceptable to the part (R79, R80). -/
def partOk (f : Fuses) (p : Nat) : Bool := p == 0x9064 || (p == 0x9128 && f.part == 0x9128)

/-- The checks of R79 from the magic to the content rules, in their order.  `self` is BSET_ID.  A section of a fixed size whose body
length is wrong breaks a length, and so takes code 0x0B; among several breaks of that check the lengths of all sections come first,
then type, reserved bits, order and mask section by section, then the fixed lengths (DESIGN CHOICE, log entry 90). -/
def imageVerdict (f : Fuses) (self : Nat) (img : Bytes) : Verdict :=
  let h := imgHead img
  if h.magic ≠ 0x44565254 then .fault 0x02 (some 0)
  else if crc32 (img.take 60) ≠ beAt img 60 4 then .fault 0x03 (some 0)
  else if h.format ≠ 1 ∨ headReserved img then .fault 0x04 (some 0)
  else if !partOk f h.part then .fault 0x05 (some 0)
  else if f.stepping < h.minStep then .fault 0x06 (some 0)
  else if h.len % 4 ≠ 0 ∨ h.len < 68 ∨ h.len + (if h.signed then 128 else 0) > 8388608 then .fault 0x07 (some 0)
  else if crc32 (img.take (h.len - 4)) ≠ beAt img (h.len - 4) 4 then .fault 0x08 (some 0)
  else if !h.signed ∧ f.sigRequired then .fault 0x09 (some 0)
  else if h.signed ∧ !signatureOk f.keyHash (img.take h.len) (slice img h.len 128) then .fault 0x0A (some 0)
  else
    let p := sections h.sections ((img.take (h.len - 4)).drop 64) 64 (h.len - 4)
    let ss := p.1
    match p.2.2 with
    | some o => .fault 0x0B (some o)
    | none =>
      match secOrder img [] ss with
      | some o => .fault 0x0B (some o)
      | none =>
        match ss.find? (fun x => match fixedLen x.ty with
            | some n => x.body.length != n
            | none => false) with
        | some x => .fault 0x0B (some (x.off + 4))
        | none =>
          if h.sections = 0 ∨ p.2.1 ≠ h.len - 4 ∨ !requiredOk self ss then .fault 0x0B none
          else match firstSome (ss.map (chkContent (runsSmall f h) ss)) with
            | some o => .fault 0x0C (some o)
            | none => .accept

end Sys2Proof.Machine
end

