-- ==== Sys2Proof/Machine/Stitch.lean ====
section
/-!
DEFINITION. Machine/Stitch.lean: roles, heartbeats, snapshots, takeover, the flash, the self-test, stitch messages, data
segments and credits (18_twins.md R411 to R436).
-/
namespace Sys2Proof.Machine

/-! ## Messages out (R427, R428, R430, R433) -/

/-- A message's bytes (R430): header with its HCRC, body, and CRC-32 over both. -/
def msgBytes (m : SMsg) : Bytes :=
  let b := wsBytes (withHcrc [put 28 4 m.kind ||| put 0 16 m.seq, m.a0, m.a1] ++ m.body)
  b ++ wBytes (wd (crc32 b))

/-- The order in which waiting messages are sent (R427): HEARTBEAT, TIME, then the others as formed. -/
def msgRank (k : Nat) : Nat := if k = 2 then 0 else if k = 3 then 1 else 2

/-- A message takes its place among those that wait. -/
def msgIns (m : SMsg) (l : List SMsg) : List SMsg :=
  l.takeWhile (fun x => msgRank x.kind ≤ msgRank m.kind) ++ [m] ++ l.dropWhile (fun x => msgRank x.kind ≤ msgRank m.kind)

/-- Words of the retention RAM that `p` names are read: one with a double-bit error sets RAM_ECC (R113), and each is an ECC error that
the Hotplate meets (R402). -/
def ramEcc (s : State) (p : Nat → Bool) : State :=
  let n := (s.hot.ramBad.filter p).length
  if n = 0 then s else occ (s.setFlags .HOT_STATUS 0 0 4) 36 0x07 0 n

/-- A SNAPSHOT message reads the host words that it carries as it is sent (R417): words 32 on of its record are retention RAM words
32,768 on (R416). -/
def hostFill (s : State) (m : SMsg) : SMsg × State :=
  if m.kind ≠ 7 then (m, s) else
  let first := fld m.a1 16 15
  ({ m with body := m.body.zipIdx.map (fun w => if first + w.2 < 32 then w.1 else s.ramW (32736 + first + w.2)) },
   ramEcc s (fun a => decide (32768 ≤ a) && decide (32736 + first ≤ a) && decide (a < 32736 + first + m.body.length)))

/-- A message leaves on link `l`, its SEG block `half` half nanoseconds after the last tick: it spends a credit, its blocks and
what it carries are counted (R402), and a TIME message is timestamped (R432). -/
def msgSend (s : State) (l half : Nat) (m : SMsg) : State :=
  let h := hostFill s m
  let m := h.1
  let s := h.2
  let b := msgBytes m
  let x := s.link l
  let s := s.setLink l { x with
    msgSent := (x.msgSent + 1) % 256
    timeTx := if m.kind = 3 then (m.seq, s.stamp half) :: x.timeTx.take 7 else x.timeTx }
  let s := occ (s.emit (.seg l (segWord 15 true true false b.length) b)) (29 + l) 0x10 0 (1 + ceilDiv b.length 8)
  if m.kind = 2 then occ s 39 0x10 0 else if m.kind = 4 then occ s (29 + l) 0x12 0 (fld m.a0 0 4) else s

/-- The waiting messages leave as far as the credits of link `l` reach (R428). -/
def msgFlush (l half : Nat) : Nat → State → State
  | 0, s => s
  | n + 1, s =>
    match (s.link l).msgs with
    | [] => s
    | m :: t => if msgCredit s l = 0 then s else msgFlush l half n (msgSend (s.setLink l { (s.link l) with msgs := t }) l half m)

/-- A message is formed for link `l` (R430): it takes the next MSG_SEQ of its KIND and waits for its turn. -/
def msgQueue (s : State) (l half kind : Nat) (a0 a1 : Word) (body : List Word) : State :=
  if !(s.link l).up || closed s (29 + l) then s else
  let x := s.link l
  let q := mget 0 x.seqs kind
  let m : SMsg := { kind := kind, seq := q, a0 := a0, a1 := a1, body := body }
  let s := s.setLink l { x with seqs := mput 0 x.seqs kind ((q + 1) % 65536), msgs := msgIns m x.msgs }
  msgFlush l half (s.link l).msgs.length s

/-! ## Roles (R411, R414) -/

/-- The device has a twin: its lanes T0 to T3 are not in mode 0x0 (R411). -/
def hasTwin (s : State) : Bool := laneMode s 32 != 0

/-- ROLE in TWN_STATE. -/
def roleCode (r : Role) : Nat :=
  match r with
  | .off => 0
  | .standby => 1
  | .claiming => 2
  | .active => 3
  | .releasing => 4

/-- The role functions are held: ACTIVE, or RELEASING until their end. -/
def holdsRole (s : State) : Bool := s.twin.role == .active || s.twin.role == .releasing

/-- Authority over the flash (R424): the active device's when SHARED_FLASH is 1, once it has taken it (R421); every Running
device's when it is 0. -/
def flashAuthority (s : State) : Bool :=
  if !isRunning s then false
  else if !tst (s.rw .TWN_CFG) 30 then true
  else if hasTwin s then s.twin.flashAuth else s.twin.role == .active

/-- Flash authority is given up once the operation in progress has ended (R424). -/
def flashYield (s : State) : State :=
  if holdsRole s || s.flash.busy.isSome then s else { s with twin := { s.twin with flashAuth := false } }

/-- OUT_CORR while STANDBY with S0 up (R420): the mean of the last offsets of link 0, in 0.5 ns. -/
def corrFollow (s : State) : State :=
  if s.twin.role = .standby ∧ (s.link 0).up ∧ s.twin.offs ≠ [] then
    { s with time := { s.time with corr := (s.twin.offs.foldl (· + ·) 0) / (8 * (s.twin.offs.length : Int)) } }
  else s

/-- The role ends in `r` (R414): ROLE_CLAIM_N is released, the role outputs become high-impedance, and ROLE_CHANGE says that
ACTIVE has been left. -/
def leaveRole (s : State) (r : Role) : State :=
  let was := holdsRole s
  let s := { s with twin := { s.twin with
    role := r, claimOut := false, entry := r == .standby && s.twin.role == .off, claimTicks := 0, since := none, taking := false, flashReset := false } }
  let s := corrFollow (flashYield s)
  if was then s.setFlags .TWN_STATUS 0 0 1 else s

/-- A claim against a claim (R414): back to STANDBY with DUAL_CLAIM. -/
def dualClaim (s : State) : State := ((leaveRole s .standby).bump .TWN_DUAL_CLAIMS).setFlags .TWN_STATUS 0 0 32

/-- The first word of buffer `b` of the snapshot area (R416). -/
def snapAt (b : Nat) : Nat := 16384 * b

/-- The RWU registers of words 8 to 17 of a snapshot record (R416). -/
def snapRegs : List (Fam × Nat) :=
  [(.TIO_PPS_OUT, 0), (.TIO_PPS_OUT, 1), (.TIO_ADJ, 0), (.TIO_ADJ, 1), (.TIO_ADJ, 2), (.TIO_IRIG_CFG, 0), (.TIO_IRIG_TIME, 0),
   (.TIO_IRIG_TQ, 0), (.TWN_MGMT_MAC_HI, 0), (.TWN_MGMT_MAC_LO, 0)]

/-- The role state of the latest valid snapshot is applied (R419), or NO_SNAPSHOT is set. -/
def applySnapshot (s : State) : State :=
  match s.twin.valid with
  | none => s.setFlags .TWN_STATUS 0 0 64
  | some b =>
    let a := snapAt b
    let s := ramEcc s (fun w => a + 8 ≤ w && w ≤ a + 18)
    let s := snapRegs.zipIdx.foldl (fun s x => s.hw x.1.1 x.1.2 0 (s.ramW (a + 8 + x.2) &&& x.1.1.row.mask)) s
    s.hwFld .TWN_CFG 0 0 29 1 (fld (s.ramW (a + 18)) 29 1)

/-- The management address (R423). -/
def mgmtMac (s : State) : Nat := s.rf .TWN_MGMT_MAC_HI 0 0 0 16 * 2 ^ 32 + s.rn .TWN_MGMT_MAC_LO

/-- The management address is answered (R423). -/
def mgmtOn (s : State) : Bool :=
  s.twin.role == .active && hasTwin s && decide (devNo s ≤ 1) && tst (s.rw .TWN_CFG) 29

/-- The management notice leaves on each host lane with a valid context (R423). -/
def mgmtNotice (s : State) : State :=
  if !mgmtOn s then s else
  let b := beBytes 6 0xFFFFFFFFFFFF ++ beBytes 6 (mgmtMac s) ++ beBytes 2 (s.rf .CTL_ETYPE 0 0 0 16) ++
    wsBytes [0x17000000, devIdent s, s.rw .RST_STRAPS]
  let b := pad60 b
  [0, 1].foldl (fun s h => if hostLaneUsed s h && linkUp s (128 + h) then sendControl s (128 + h) (b ++ fcsBytes b) else s) s

/-- The takeover is complete (R421). -/
def takeoverDone (s : State) : State :=
  ({ s with twin := { s.twin with taking := false } }.bump .TWN_TAKEOVERS).setFlags .TWN_STATUS 0 0 1024

/-- Entry into ACTIVE from CLAIMING (R414, R419, R421). -/
def enterActive (s : State) : State :=
  let start := s.twin.atStart
  let s := { s with twin := { s.twin with
    role := .active, since := some s.mono, taking := true, edges := 0, flashReset := false } }
  let s := s.setFlags .TWN_STATUS 0 0 1
  let t := if start then s else applySnapshot s
  let s := mgmtNotice (if tioWanted s t then trigger t 2 234 else t)
  if tst (s.rw .TWN_CFG) 30 then s else takeoverDone s

/-- Silence as R413 judges it where a setting has changed: with PIN_HB_EN at 0 the link path alone decides. -/
def judgePaths (s : State) : State :=
  if tst (s.rw .TWN_CFG) 27 || !hasTwin s then s else
  let s := { s with twin := { s.twin with pinSilent := false } }
  if s.twin.linkSilent && !s.twin.failed then { s with twin := { s.twin with failed := true } }.setFlags .TWN_STATUS 0 0 16 else s

/-- The role machine follows Running and ROLE_EN (R411, R414). -/
def roleUpdate (s : State) : State :=
  if !isRunning s then (if s.twin.role = .off then s else leaveRole s .off)
  else if !hasTwin s then
    (if s.twin.role = .off then { s with twin := { s.twin with role := .active, edges := 0 } }.setFlags .TWN_STATUS 0 0 1 else s)
  else
    let s := judgePaths s
    if tst (s.rw .TWN_CFG) 31 then (if s.twin.role = .off then leaveRole s .standby else s)
    else if s.twin.role = .off then s else leaveRole s .off

/-- ROLE_CLAIM (R414, R415): a claim trigger holds and PEER_CLAIM_N has read high on each of the last 157 ticks. -/
def roleClaim (s : State) : State :=
  let t := s.twin
  if t.role = .standby ∧ (t.entry ∨ t.failed ∨ t.peerRole = 4) ∧ t.high ≥ 157 ∧ hasTwin s then
    { s with twin := { t with
      role := .claiming, claimOut := true, claimTicks := 0, entry := false, atStart := t.entry && !t.failed && t.peerRole != 4 } }
  else s

/-- CLAIM_RESOLVE (R414, R415): 63 ticks after the claim, PEER_CLAIM_N decides. -/
def claimResolve (s : State) : State :=
  let t := s.twin
  if t.role ≠ .claiming ∨ t.claimTicks < 63 then s
  else if !t.peerClaim then enterActive s
  else if twinId s || decide (t.claimTicks ≥ 126) then dualClaim s
  else s

/-- The role machine's ticks (R414, R415, R421): PEER_CLAIM_N as sampled on this Hotplate tick. -/
def twinTick (s : State) (peerHigh : Bool) : State :=
  let t := s.twin
  { s with twin := { t with
    peerClaim := !peerHigh
    high := if peerHigh then min 157 (t.high + 1) else 0
    entry := t.entry && t.claimTicks == 0
    claimTicks := if t.role = .claiming || t.entry then t.claimTicks + 1 else t.claimTicks } }

/-- A strobe has changed SHARED_FLASH (R421, R424): set on an active device that takes no role over, it gives that device authority;
cleared, it ends a takeover that waited for the flash. -/
def flashShared (s : State) (was : Bool) : State :=
  let now := tst (s.rw .TWN_CFG) 30
  if s.twin.role ≠ .active ∨ now = was then s
  else if now then { s with twin := { s.twin with flashAuth := s.twin.flashAuth || !s.twin.taking } }
  else if s.twin.taking then takeoverDone s
  else s

/-- A shared flash reports its status 100 µs after the last poll, or 100 µs after the reset commands (R421). -/
def flashPoll (s : State) (ready : Bool) : State :=
  if s.twin.role ≠ .active ∨ !s.twin.taking ∨ !tst (s.rw .TWN_CFG) 30 then s else
  let rst := s.twin.flashReset
  let s := if rst then s else s.emit (.flash 5 0 [])
  if ready || rst then takeoverDone { s with twin := { s.twin with flashAuth := true } } else s

/-- The flash is still busy 8 ms after entry into ACTIVE (R421): the reset commands are sent. -/
def flashResetTimeout (s : State) : State :=
  if s.twin.role = .active ∧ s.twin.taking ∧ tst (s.rw .TWN_CFG) 30 ∧ !s.twin.flashReset then
    { s with twin := { s.twin with flashReset := true } }.emit (.flash 6 0 [])
  else s

/-- TWN_STATE. -/
def twnState (s : State) : Word :=
  let t := s.twin
  put 29 3 (roleCode t.role) ||| put 26 3 t.peerRole ||| bitw 25 t.linkSilent ||| bitw 24 t.pinSilent ||| bitw 23 t.failed |||
    bitw 22 t.claimOut ||| bitw 21 t.peerClaim ||| bitw 20 (flashAuthority s) ||| bitw 19 t.valid.isSome ||| bitw 18 (twinId s)

/-! ## Heartbeats (R412, R413) -/

/-- HB_OUT toggles on its grid while the device is Running and HB_STOP is 0 (R412). -/
def pinHeartbeat (s : State) : State :=
  if !isRunning s || tst (s.rw .TWN_CFG) 28 then s else
  let b := !s.twin.hbOut
  occ ({ s with twin := { s.twin with hbOut := b } }.emit (.pin 54 b (16 * s.now : Nat))) 39 0x10 0

/-- A HEARTBEAT message is sent on S0 (R412, R430). -/
def heartbeatSend (s : State) : State :=
  if s.twin.role = .off ∨ tst (s.rw .TWN_CFG) 28 ∨ !hasTwin s then s else
  let t := s.twin
  msgQueue { s with twin := { t with hbSeq := (t.hbSeq + 1) % 65536 } } 0 0 2
    (put 29 3 (roleCode t.role) ||| bitw 28 (twinId s) ||| put 26 2 (devNo s) ||| bitw 25 (!t.pinSilent) |||
      bitw 24 (s.time.servo == .locked) ||| put 0 16 t.hbSeq) (wd t.validSeq) []

/-- A heartbeat event on a path (R413): its silence ends, and with it a failure; a path that stays silent is Degraded. -/
def heartbeatEvent (s : State) (pin : Bool) : State :=
  let t := s.twin
  let was := t.failed
  let t := if pin then { t with pinSilent := false, failed := false } else { t with linkSilent := false, failed := false }
  let s := { s with twin := t }
  if was then s.setFlags .TWN_STATUS 0 0 (2 + 4 * b2n t.linkSilent + 8 * b2n t.pinSilent) else s

/-- An edge on HB_IN (R412): ignored without a twin (R411) or with PIN_HB_EN at 0. -/
def hbInEdge (s : State) : State :=
  if !isRunning s || !hasTwin s || !tst (s.rw .TWN_CFG) 27 then s else heartbeatEvent (occ s 39 0x11 0) true

/-- A path has had no event for FAIL_TIME (R413). -/
def pathSilent (s : State) (pin : Bool) : State :=
  let t := s.twin
  let en := tst (s.rw .TWN_CFG) 27
  if !isRunning s || !hasTwin s || (pin && !en) || (if pin then t.pinSilent else t.linkSilent) then s else
  let t := if pin then { t with pinSilent := true } else { t with linkSilent := true }
  if t.linkSilent && (t.pinSilent || !en) then { s with twin := { t with failed := true } }.setFlags .TWN_STATUS 0 0 16
  else { s with twin := t }.setFlags .TWN_STATUS 0 0 (if pin then 8 else 4)

/-- Equal TWIN_ID straps in one twin leave the role functions free (R437; log entry 6). -/
def roleFree (s : State) : State :=
  let r := match s.free % 5 with
    | 0 => Role.off
    | 1 => .standby
    | 2 => .claiming
    | 3 => .active
    | _ => .releasing
  { s with twin := { s.twin with role := r, claimOut := Nat.testBit s.free 3, flashAuth := Nat.testBit s.free 4 } }.drawn

/-- A received HEARTBEAT (R412, R413, R414); one that reports this device's own TWIN_ID tells of equal straps. -/
def heartbeatRx (s : State) (a0 : Word) : State :=
  if !hasTwin s then s else
  if tst a0 28 == twinId s then roleFree s else
  let s := heartbeatEvent (occ s 39 0x11 0) false
  let s := { s with twin := { s.twin with peerRole := fld a0 29 3 } }
  if s.twin.role == .active && fld a0 29 3 == 3 && twinId s then dualClaim s else s

/-! ## Snapshots (R416 to R418) -/

/-- HOST_WORDS of TWN_SNAP_CFG. -/
def hostWords (s : State) : Nat := s.within 0 16352 (s.rf .TWN_SNAP_CFG 0 0 0 14)

/-- A snapshot record of SNAP_SEQ `q` (R416). -/
def snapRecord (s : State) (q : Nat) : List Word :=
  let n := hostWords s
  let a : List Word := [0x534E5054, wd q, put 28 2 (devNo s) ||| put 0 14 n, wd s.time.now.sec, put 0 30 s.time.now.ns, 0, 0]
  let b := snapRegs.map (fun r => s.rw r.1 r.2) ++ [s.rw .TWN_CFG, tkState s, tkFreq s, tkIntegral s] ++ List.replicate 10 0 ++
    (List.range n).map (fun i => s.ramW (32768 + i))
  a ++ [wd (crc32 (wsBytes (a ++ b)))] ++ b

/-- A record leaves in SNAPSHOT messages of at most 26 words (R417, R430). -/
def snapSend (q total : Nat) : Nat → Nat → List Word → State → State
  | 0, _, _, s => s
  | n + 1, first, ws, s =>
    if ws = [] then s
    else snapSend q total n (first + 26) (ws.drop 26) (msgQueue s 0 0 7 (wd q) (put 16 15 first ||| put 0 15 total) (ws.take 26))


/-- A snapshot is taken and sent (R417): by the active device, with S0 up; one that falls due while the last is still being sent
is skipped. -/
def snapshotTake (s : State) : State :=
  if !holdsRole s || !(s.link 0).up || closed s 29 || (s.link 0).msgs.any (fun m => m.kind == 7) then s else
  let q := (s.twin.sentSeq + 1) % 2 ^ 32
  let r := snapRecord s q
  snapSend q r.length (r.length + 1) 0 r { s with twin := { s.twin with sentSeq := q } }

/-- A record in a buffer is valid (R416): MAGIC and CRC are good. -/
def snapGood (r : List Word) : Bool :=
  let n := 32 + min 16352 (fld (r.getD 2 0) 0 14)
  r.getD 0 0 == 0x534E5054 && decide (n ≤ r.length) && r.getD 7 0 == wd (crc32 (wsBytes (r.take 7 ++ (r.take n).drop 8)))

/-- A received SNAPSHOT message (R417): written into the buffer that does not hold the latest valid snapshot, which changes once
the record is complete and valid. -/
def snapshotRx (s : State) (a0 a1 : Word) (body : List Word) : State :=
  let t := s.twin
  if !(t.role == .standby || t.role == .claiming) then s else
  let first := fld a1 16 15
  let total := fld a1 0 15
  let b := if t.valid = some 0 then 1 else 0
  let fits := decide (first + body.length ≤ total) && decide (total ≤ 16384)
  let goes := fits && (first == 0 || t.rx == some ⟨a0.toNat, total, first⟩)
  if !goes then { s with twin := { t with rx := none } } else
  let s := body.zipIdx.foldl (fun s w => s.setRamW (snapAt b + first + w.2) w.1) s
  if first + body.length < total then { s with twin := { t with rx := some ⟨a0.toNat, total, first + body.length⟩ } }
  else
    let s := { s with twin := { t with rx := none } }
    let r := (List.range total).map (fun i => s.ramW (snapAt b + i))
    if snapGood r then
      ({ s with twin := { s.twin with
        valid := some b, validSeq := (r.getD 1 0).toNat, takenSec := (r.getD 3 0).toNat,
        takenNs := fld (r.getD 4 0) 0 30 } }.wr .TWN_SNAP_SEQ 0 0 (r.getD 1 0)).setFlags .TWN_STATUS 0 0 128
    else s.setFlags .TWN_STATUS 0 0 256

/-- TWN_SNAP_AGE: ms since the latest valid snapshot was taken, saturating. -/
def snapAge (s : State) : Nat :=
  match s.twin.valid with
  | none => 0xFFFFF
  | some _ => min 0xFFFFF ((s.now - (nearSec s 32 s.twin.takenSec * 1000000000 + s.twin.takenNs)) / 1000000)

/-! ## Release and TWN_CMD (R414, R417, R437) -/

/-- RELEASING ends once the snapshot has been sent and the output in progress has ended (R414). -/
def roleRelease (s : State) : State :=
  if s.twin.role = .releasing ∧ !(s.link 0).msgs.any (fun m => m.kind == 7) ∧ !mget false s.time.pps 0 ∧ !mget false s.time.pps 1 ∧
      !s.time.irigBusy then leaveRole s .standby
  else s

/-- HANDOVER (R414): of no effect but on an active device of a twin. -/
def handover (s : State) : State :=
  if s.twin.role = .active ∧ hasTwin s then
    snapshotTake { s with twin := { s.twin with role := .releasing, taking := false, since := none } }
  else s

/-- A reserved setting leaves the output alignment unpredictable (R437; log entry 6). -/
def twinFree (s : State) : State := { s with time := { s.time with corr := sgn 16 s.free } }.drawn

/-! ## Self-test (R425) -/

/-- Bit errors counted on the lanes of S0. -/
def bipTotal (s : State) : Nat := sumN ((linkLanes 0).map (fun l => s.rn .LN_BIP_ERR l))

/-- The references in use, as bits of HOT_CLK_GOOD (R114): XO_IN and the two PLLs, and the references of the lanes. -/
def clkInUse (s : State) : Nat :=
  25 ||| (if (List.range 42).any (fun l => lanePresent s l && laneRef s l == 0) then 2 else 0) |||
    (if (List.range 42).any (fun l => lanePresent s l && laneRef s l == 1) then 4 else 0)

/-- The deviation of greatest magnitude. -/
def worstOf (l : List Int) : Int := l.foldl (fun a b => if b.natAbs > a.natAbs then b else a) 0

/-- A test of R425 passes. -/
def testPass (s : State) (m : Measured) (i : Nat) : Bool :=
  let lim := s.within 1 255 (s.rf .TWN_ST_CFG 0 0 16 8)
  match i with
  | 0 => s.twin.valid.isSome && decide (snapAge s ≤ 3 * s.within 10 10000 (s.rf .TWN_SNAP_CFG 0 0 16 16))
  | 1 => s.time.servo == .locked && decide ((s.rw .TWN_LINK_OFFSET 0).toInt.natAbs ≤ 16 * lim)
  | 2 => decide (([0, 1].filter (fun n => tst (s.rw .TIO_PPS_OUT n) 31)).length ≤ m.watch.length) &&
      decide ((worstOf m.watch).natAbs ≤ 2 * lim)
  | 3 => m.claimHigh && !m.peerHigh
  | 4 => decide (3960 ≤ m.hbRate) && decide (m.hbRate ≤ 4040) && m.hbBack
  | 5 => (s.link 0).up && bipTotal s == s.twin.bip
  | 6 => s.hot.clk &&& clkInUse s == clkInUse s
  | _ => m.ramOk && s.hot.ramBad.all (fun w => decide (32768 ≤ w))

/-- A round of the self-test (R425), with what it measures at the balls. -/
def selftest (s : State) (m : Measured) : State :=
  if !isRunning s || !tst (s.rw .TWN_ST_CFG) 31 then s else
  let ran := if holdsRole s then [1, 4, 5, 6, 7] else List.range 8
  let ok := ran.filter (testPass s m)
  let bits (l : List Nat) : Nat := sumN (l.map (fun i => 2 ^ i))
  let q := (s.twin.reportSeq + 1) % 65536
  let bip := bipTotal s
  let ws : List Word := [put 28 4 1 ||| put 26 2 (devNo s) ||| bitw 25 (twinId s) ||| put 22 3 (roleCode s.twin.role) ||| put 0 16 q,
    put 16 16 (bits ran) ||| put 0 16 (bits ok), s.rw .TWN_LINK_OFFSET 0, wOfInt (worstOf m.watch), wd s.twin.validSeq,
    put 16 16 (min 65535 (snapAge s)) ||| put 0 16 m.hbRate, wd (bip + 2 ^ 32 - s.twin.bip), wd s.time.now.sec]
  let s := { s with twin := { s.twin with reportSeq := q, bip := bip } }
  let s := ws.zipIdx.foldl (fun s w => s.wr .TWN_HEALTH w.2 0 w.1) s
  let s := msgQueue (if testPass s m 7 then s else s.setFlags .HOT_STATUS 0 0 4) 0 0 8 0 0 ws
  if ok.length < ran.length then s.setFlags .TWN_STATUS 0 0 512 else s

/-- A received HEALTH message (R425). -/
def healthRx (s : State) (body : List Word) : State :=
  (body.take 8).zipIdx.foldl (fun s w => s.wr .TWN_PEER_HEALTH w.2 0 w.1) s

/-- A write of TWN_CMD (R414, R417, R425): ACTION in [31:29]. -/
def twnCmd (s : State) (w : Word) (m : Measured) : State :=
  match fld w 29 3 with
  | 0 => s
  | 1 => handover s
  | 2 => snapshotTake s
  | 3 => selftest s m
  | _ => twinFree s

/-! ## The flash (R424) -/

/-- The bytes of TWN_FLASH_BUF. -/
def flashBuf (s : State) : Bytes := (List.range 64).flatMap (fun i => wBytes (s.rw .TWN_FLASH_BUF i))

/-- A write of TWN_FLASH_CMD (R424): OP in [31:28], LEN in [8:0].  A command while BUSY is ignored (log entry 60). -/
def flashCmd (s : State) (w : Word) : State :=
  let op := fld w 28 4
  if s.flash.busy.isSome then s
  else if op = 0 ∨ op > 4 then twinFree s
  else if !flashAuthority s then { s with flash := { s.flash with result := 1 } }
  else
    let a := s.rn .TWN_FLASH_ADDR
    let n := fld w 0 9
    { s with flash := { s.flash with busy := some (op, a, n) } }.emit (.flash op a (if op = 2 then (flashBuf s).take n else []))

/-- A flash operation completes (R424): `data` is what a READ brings. -/
def flashOpDone (s : State) (timeout : Bool) (data : Bytes) : State :=
  match s.flash.busy with
  | none => s
  | some (op, _, n) =>
    let s := { s with flash := { busy := none, result := if timeout then 2 else 0 } }
    let s := if op = 1 ∧ !timeout then
        (bytesWs 64 (patch (flashBuf s) 0 (data.take n))).zipIdx.foldl (fun s w => s.wr .TWN_FLASH_BUF w.2 0 w.1) s
      else s
    flashYield s

/-- TWN_FLASH_STATUS. -/
def flashStatus (s : State) : Word := bitw 31 s.flash.busy.isSome ||| put 0 2 s.flash.result

/-! ## TIME messages (R432) -/

/-- The two words of a timestamp of a TIME message; zeros for none (log entry 61). -/
def timeWords (t : Option Nat) : List Word :=
  match t with
  | some t => [wd (tsSec t), tsWord t]
  | none => [0, 0]

/-- A timestamp of a TIME message, in 2^-16 ns. -/
def timeOf (s : State) (w0 w1 : Word) : Option Nat :=
  if w0 = 0 ∧ w1 = 0 then none
  else some ((nearSec s 32 w0.toNat * 1000000000 + fld w1 0 30) * 65536 + fld w1 31 1 * 32768)

/-- At a whole millisecond, a TIME message is sent on link `l` (R432). -/
def timeSend (s : State) (l half : Nat) : State :=
  let x := s.link l
  msgQueue s l half 3 0 0 (timeWords (x.timeTx.head?.map (·.2)) ++ timeWords (x.timeRx.head?.map (·.2)) ++
    [wd ((x.timeRx.head?.map (·.1)).getD 0)])

/-- A received TIME message of MSG_SEQ `q`, at `t` 2^-16 ns (R420, R432): with the receipt of the one before it, it completes a
set. -/
def timeRx (s : State) (l t q : Nat) (body : List Word) : State :=
  let x := s.link l
  let s := s.setLink l { x with timeRx := (q, t) :: x.timeRx.take 7 }
  let w (i : Nat) : Word := body.getD i 0
  match mfind x.timeTx (w 4).toNat, timeOf s (w 2) (w 3), timeOf s (w 0) (w 1), mfind x.timeRx ((q + 65535) % 65536) with
  | some t1, some t2, some t3, some t4 =>
    let a : Int := (t2 : Int) - t1
    let b : Int := (t4 : Int) - t3
    let o := (a - b) / 8192
    let s := (s.wr .TWN_LINK_OFFSET l 0 (wOfInt o)).wr .TWN_LINK_DELAY l 0 (wOfInt ((a + b) / 8192))
    if l = 0 then corrFollow { s with twin := { s.twin with offs := o :: s.twin.offs.take 7 } } else s
  | _, _, _, _ => s

/-! ## Learn notices (R224, R433) -/

/-- The notices gathered for link `l` leave in one LEARN message; those that find no stitch credit are discarded (R224). -/
def learnMessageDue (s : State) (l : Nat) : State :=
  let x := s.link l
  if l > 2 ∨ x.notices = [] then s else
  let n := x.notices.take 8
  if msgCredit s l = 0 ∨ x.msgs ≠ [] then
    n.foldl (fun s _ => (s.bump .FDB_NOTICE_DROP).setFlags .FDB_STATUS 0 0 32) (s.setLink l { x with notices := x.notices.drop 8 })
  else msgQueue (s.setLink l { x with notices := x.notices.drop 8 }) l 0 4 (put 0 4 n.length) 0
    (n.flatMap (fun e => [put 16 12 e.1 ||| put 0 16 (e.2.1 / 2 ^ 32), wd e.2.1, put 0 10 e.2.2]))

/-- The notices of a received LEARN message enter the learning queue (R224). -/
def learnRx (s : State) (l : Nat) (a0 : Word) (body : List Word) : State :=
  let n := min (fld a0 0 4) (body.length / 3)
  (List.range n).foldl (fun s i =>
    let w (j : Nat) : Word := body.getD (3 * i + j) 0
    learnPush s {
      fid := fld (w 0) 16 12, mac := fld (w 0) 0 16 * 2 ^ 32 + (w 1).toNat, ref := fld (w 2) 0 10, refresh := false,
      notice := true }) (occ s (29 + l) 0x13 0 n)

/-! ## Image passing, the sender's side (R434) -/

/-- The bytes an image and its signature block occupy, once its header is known (R62, R98). -/
def imageTotal (rx : Bytes) : Nat := (imgHead rx).len + (if (imgHead rx).signed then 128 else 0)

/-- IMAGE_BLOCK messages leave in ascending OFFSET as the credits allow (R434). -/
def imagePump : Nat → State → State
  | 0, s => s
  | n + 1, s =>
    match s.twin.image with
    | none => s
    | some o =>
      let total := imageTotal s.boot.image
      if !isRunning s || !(s.boot.src == 1 || s.boot.src == 2) || o ≥ total || msgCredit s 0 ≤ (s.link 0).msgs.length ||
          !(s.link 0).up || closed s 29 then s
      else
        let d := (s.boot.image.drop o).take (min 104 (total - o))
        imagePump n (msgQueue { s with twin := { s.twin with image := some (o + d.length) } } 0 0 5 (wd o) (wd total) (bytesWs 26 d))

/-- A received IMAGE_ACK (R434): STATUS 0x01 starts or resumes from the byte expected; 0x02 and 0x03 end the passing. -/
def imageAckRx (s : State) (a0 a1 : Word) : State :=
  if !isRunning s then s else
  let t := s.twin
  let s := match fld a1 0 8 with
    | 0 => s
    | 1 => { s with twin := { t with image := some a0.toNat } }
    | _ => { s with twin := { t with image := none } }
  imagePump 16 s

/-- A device in a stitch-link boot asks for the image until blocks arrive (R434). -/
def imageAckDue (s : State) : State :=
  if s.boot.st = .load ∧ bootSrc s = 2 ∧ !s.twin.blocksCame then msgQueue s 0 0 6 0 (put 0 8 1) [] else s

/-! ## Data segments in (R427, R429, R431, R433) -/

/-- A channel of link `l` is free again. -/
def chanFreeRx (s : State) (l ch : Nat) : State := let x := s.link l; s.setLink l { x with rx := mdel x.rx ch }

/-- The frame in progress on a channel is found bad, and the channel is free. -/
def chanBad (s : State) (l ch : Nat) : State :=
  match mfind (s.link l).rx ch with
  | some (some id) =>
    let n := ((s.frm id).map (fun f => f.bytes.length)).getD 0
    verdictFx (countRxAll (chanFreeRx s l ch) (130 + l) n) id false
  | some none => chanFreeRx s l ch
  | none => s

/-- A segment's part of a frame arrives, and with its last segment the frame's end (R427, R431). -/
def segData (s : State) (l ch : Nat) (last bad : Bool) (d : Bytes) (fifoErr : Bool := false) : State :=
  let p := 130 + l
  match mfind (s.link l).rx ch with
  | some (some id) =>
    let s := if fifoErr then s.modFrm id (fun f => { f with codeErr := true }) else s
    let s := dripFollow (lookupResume
      (s.modFrm id (fun f => if f.ended then f else { f with bytes := f.bytes ++ d }.stampCells s.car.slot)) id) id
    if !last then s else
    let s := frameEnds (chanFreeRx s l ch) id
    match s.frm id with
    | none => if bad then s.bump .TWN_BAD_END l else s
    | some f =>
      if bad then verdictFx (countRxAll (s.bump .TWN_BAD_END l) p f.bytes.length) id false
      else if fcsGood f.bytes && !f.codeErr then verdictFx (countRxGood s p f.bytes) id true
      else verdictFx (countRxBad s p f.bytes.length (if f.codeErr then 19 else 18)) id false
  | some none => if last then (let s := chanFreeRx s l ch; if bad then s.bump .TWN_BAD_END l else s) else s
  | none => s

/-- The frame that a stitch header begins (R429, R433): its reference, rate and timestamp are those of the original ingress
port; it is a frame of the stitch port `130 + l`. -/
def stitchFrame (s : State) (l : Nat) (h : Bytes) : CFrame :=
  let w := wordAt h
  let sp := fld (w 0) 22 3
  { src := 130 + l, feed := 8, ref := fld (w 0) 12 10, rate := if sp ≤ 5 then speedRate sp else 0
    t := (nearSec s 16 (fld (w 1) 0 16) * 1000000000 + fld (w 2) 0 30) * 65536 + fld (w 2) 31 1 * 32768
    carry := { cls := fld (w 0) 25 3 }, oow := tst (w 0) 6, exceeded := tst (w 0) 5
    stitchSeq := if tst (w 0) 11 then some (fld (w 0) 7 4, fld (w 1) 16 16) else none }

/-- A data segment on channel `ch` of link `l` (R427, R429, R431). -/
def dataSeg (s : State) (l ch : Nat) (w0 : Word) (d : Bytes) (fifoErr : Bool := false) : State :=
  let x := s.link l
  let s := s.setLink l { x with got := (x.got + 1) % 65536 }
  let first := tst w0 19
  let last := tst w0 18
  let bad := tst w0 17
  let len := fld w0 8 8
  let d := slice d 0 len
  let busy := (mfind x.rx ch).isSome
  if len > 144 ∨ (len = 0 ∧ !(last && bad)) ∨ first = busy then chanBad (s.bump .TWN_SEG_ERR l) l ch
  else if first then
    if crc16 0xFFFF (slice d 0 14) = beAt d 14 2 ∧ fld (wordAt d 0) 28 4 = 1 ∧ 16 ≤ len then
      let r := s.newFrm (stitchFrame s l d)
      let y := r.1.link l
      segData (r.1.setLink l { y with rx := mins y.rx ch (some r.2) }) l ch last bad (d.drop 16) fifoErr
    else
      let s := s.bump .TWN_HCRC_ERR l
      if last then s else let y := s.link l; s.setLink l { y with rx := mins y.rx ch none }
  else segData s l ch last bad d fifoErr

/-! ## Credits (R427, R428, R431) -/

/-- The lane layer of link `l` is up (R141). -/
def lanesUp (s : State) (l : Nat) : Bool :=
  l < 3 && portPresent s (130 + l) && (linkLanes l).all (fun k => (s.lane k).st == .up)

/-- A received CREDIT block (R428, R431): the first one brings the link up with every channel free and full credits.  A word of
an unknown TYPE is counted; filler and the TYPE of a segment are no CREDIT block and change nothing here (R426). -/
def creditRx (s : State) (l : Nat) (w0 : Word) : State :=
  if !lanesUp s l || closed s (29 + l) then s else
  let s := occ s (29 + l) 0x11 0
  if fld w0 24 8 = 0x78 ∨ fld w0 24 8 = 0x1E then s
  else if fld w0 24 8 ≠ 0xB4 then s.bump .TWN_SEG_ERR l else
  let d := fld w0 0 16
  let m := fld w0 16 8
  let x := s.link l
  let s := if x.up then s.setLink l { x with freed := d, msgFreed := m }
    else
      let s := s.setLink l { x with up := true, sent := d, freed := d, msgSent := m, msgFreed := m, tx := [], rx := [], msgs := [] }
      trigger ((List.range 16).foldl (fun s k => trigger s 2 (186 + k)) s) 2 232
  let s := msgFlush l 0 (s.link l).msgs.length s
  if l = 0 then imagePump 16 s else s

/-- The cells received on link `l` that the Carafe has not taken yet. -/
def b9Held (s : State) (l : Nat) : Nat :=
  sumN ((s.car.frames.filter (fun f => f.2.src == 130 + l && !f.2.gone && !f.2.bad)).map (fun f => f.2.ctimes.length - f.2.cells.length))

/-- A CREDIT block leaves on link `l` (R427, R428): it goes as soon as the lane layer is up, for it brings the far end up. -/
def creditDue (s : State) (l : Nat) : State :=
  if !lanesUp s l || closed s (29 + l) then s else
  let x := s.link l
  let d := (x.got + 65536 - b9Held s l % 65536) % 65536
  let s := s.setLink l { x with told := d, msgTold := x.msgGot }
  occ (s.emit (.credit l (put 24 8 0xB4 ||| put 16 8 x.msgGot ||| put 0 16 d))) (29 + l) 0x10 0

/-- No CREDIT block has arrived for 10 µs (R431). -/
def stitchTimeout (s : State) (l : Nat) : State := if (s.link l).up then stitchDown s l else s

end Sys2Proof.Machine
end

