-- ==== Sys2Proof/Machine/BlockFx.lean ====
section
/-!
DEFINITION. Machine/BlockFx.lean: what the closing of an isolation wrapper, the reset inside it and its release do in each block
(04_startup_reset.md R101, R104, R105, and each chapter's rule on its own block).
-/
namespace Sys2Proof.Machine

/-! ## The closing of a wrapper (R104, R105) -/

/-- The ports of a block of lanes and MACs. -/
def blkPorts (s : State) (b : Nat) : List Nat :=
  (if 8 ≤ b ∧ b < 16 then (List.range 16).map (· + 16 * (b - 8)) else if b = 32 ∨ b = 33 then [b + 96]
    else if 29 ≤ b ∧ b < 32 then [b + 101] else if b = 34 then [133] else []).filter (portPresent s)

/-- The lanes of a block. -/
def blkLanes (b : Nat) : List Nat :=
  if 8 ≤ b ∧ b < 16 then (List.range 4).map (· + 4 * (b - 8)) else if b = 32 ∨ b = 33 then [b + 8]
    else if 29 ≤ b ∧ b < 32 then linkLanes (b - 29) else []

/-- A frame in reception at a MAC is lost with its block, and found bad where its bytes have gone on. -/
def rxLost (s : State) (p : Nat) : State :=
  let m := s.mac p
  let ids := ([m.rx, m.asm].filterMap id).map (·.fid)
  let s := if ids = [] then s else isoDiscard s (portBlock p) ids.length
  let s := s.setMac p { m with rx := none, asm := none }
  (ids.filterMap id).foldl (fun s i => verdictFx s i false) s

/-- A port group, a host interface or a stitch link is isolated: its links go down and its lanes go to electrical idle. -/
def portsClose (s : State) (b : Nat) : State :=
  let s := if 29 ≤ b ∧ b < 32 then
      -- the frames half received over the link are discarded with it
      let n := ((s.link (b - 29)).rx.filterMap (·.2)).length
      stitchDown (if n = 0 then s else isoDiscard s b n) (b - 29)
    else (blkPorts s b).foldl (fun s p => linkDownFx (rxLost s p) p) s
  (blkLanes b).foldl laneCut s

/-- The ports whose ingress pipeline is block `b`. -/
def pipeOfBlock (b : Nat) : Nat := if b = 16 then 8 else b

/-- A copy that the egress pipeline of a closing slice holds: partly read, and not whole at its MAC (R105).  Block 16 holds those for
ports 128 to 132. -/
def inEgress (s : State) (k : Nat) (c : CCopy) : Bool :=
  pipeOf c.port == k && decide (c.port < 133) && decide (0 < c.read) && (!c.begun || (match s.frm c.frame with
    | some f => decide (c.read < f.bytes.length) || !f.ended
    | none => false))

/-- A slice is isolated: a frame that still passes it on its way in is found bad, and so is every copy that passes it on its way out
(R105, R249).  The MAC's verdict on such a frame still comes (R153). -/
def sliceClose (s : State) (b : Nat) : State :=
  let k := pipeOfBlock b
  let ids := (s.car.frames.filter (fun f =>
    pipeOf f.2.src == k && decide (f.2.src < 133) && f.2.looked && !f.2.gone && f.2.verdict.isNone)).map (·.1)
  let s := ids.foldl (fun s i => frameFoundBad (isoDiscard s b) i) s
  (s.car.copies.filter (inEgress s k)).foldl (fun s c => copyFoundBad (if c.begun then s else isoDiscard s b) c) s

/-- The Carafe is isolated: the frames inside it are discarded; one whose verdict has not come is found bad, and so is every copy of
the others (R249, R250). -/
def carafeClose (s : State) : State :=
  let fs := s.car.frames.filter (fun f => (f.2.looked || f.2.src ≥ 133) && !f.2.gone)
  fs.foldl (fun s f => if f.2.verdict.isNone then frameFoundBad s f.1 else (copiesOf s f.1).foldl copyFoundBad s)
    (isoDiscard s 17 fs.length)

/-- The wrapper of block `b` closes (R104, R105). -/
def blockClose (s : State) (b : Nat) : State :=
  if b < 8 ∨ b = 16 then sliceClose s b
  else if b = 17 then carafeClose s
  else if b < 16 ∨ (29 ≤ b ∧ b < 34) then portsClose s b
  else s

/-! ## Reset inside the wrapper (R101, R104) -/

/-- The flags of an SQ register are cleared by a reset of its block; SEQ stays. -/
def sqReset (s : State) (f : Fam) (i j : Nat) : State := s.wr f i j (s.rw f i j &&& 0xFF000000)

/-- The SQ registers of block `b` (R101). -/
def blkFlags (b : Nat) : List (Fam × Nat × Nat) :=
  if b < 8 then [(.CLS_STATUS, b, 0)]
  else if b = 16 then [(.CLS_STATUS, 8, 0)]
  else if b = 17 then [(.CAR_STATUS, 0, 0)]
  else if b = 18 then (List.range 134).map (fun p => (.SCH_STATUS, p, 0))
  else if b = 19 then [(.RED_STATUS, 0, 0), (.POL_STATUS, 0, 0)]
  else if b = 20 then [(.FDB_STATUS, 0, 0)]
  else if b = 21 then [(.TK_STATUS, 0, 0)]
  else if b = 22 then [(.TIO_STATUS, 0, 0)]
  else if b = 23 then [(.EPT_STATUS, 0, 0)]
  else if b = 24 then [(.LBM_STATUS, 0, 0)]
  else if b = 25 ∨ b = 26 then (List.range 8).map (fun c => (.LCH_STATUS, 8 * (b - 25) + c, 0))
  else if b = 27 then [(.EVT_STATUS, 0, 0)]
  else if b = 28 then [(.PCT_STATUS, 0, 0)] ++ (List.range 14).map (fun n => (.PCT_OVF, n, 0))
  else (blkLanes b).map (fun l => (.LN_STATUS, l, 0))

/-- The SQ registers of the MACs of block `b`. -/
def macFlags (s : State) (b : Nat) : List (Fam × Nat × Nat) :=
  if (8 ≤ b ∧ b < 16) ∨ b = 32 ∨ b = 33 then
    (blkPorts s b).flatMap (fun p => [(.MAC_STATUS, p, 0), (.MAC_STAT_HALF, p, 0), (.MAC_STAT_HALF, p, 1), (.MAC_STAT_HALF, p, 2)])
  else []

/-- The frames inside a slice's pipelines that are not looked up yet are discarded. -/
def sliceClear (s : State) (b : Nat) : State :=
  let k := pipeOfBlock b
  let ids := (s.car.frames.filter (fun f => pipeOf f.2.src == k && !f.2.looked && !f.2.gone)).map (·.1)
  ids.foldl (fun s i => isoDiscard { s with car := { s.car with frames := mdel s.car.frames i } } b) s

/-- The Carafe's contents are discarded (R101, R255), the cells of waiting launches with them: what is left of a frame are the copies
that have begun. -/
def carafeClear (s : State) : State :=
  let fs := s.car.frames.filter (fun f => f.2.looked || f.2.src ≥ 133)
  let s := { isoDiscard s 17 s.ept.launches.length with ept := { s.ept with launches := [] } }
  fs.foldl (fun s f => tidy (s.modFrm f.1 (fun f => { f with decided := true, gone := true, plan := [], cells := [] })) f.1) s

/-- The stream unit's provisional records and held duplicates are discarded (R303). -/
def streamClear (s : State) : State :=
  let ps := s.red.prov.map (·.2)
  let s := ps.foldl (fun s x =>
    let s := isoDiscard (withdraw s x) 19 (1 + b2n x.held.isSome)
    match x.held with
    | some h => tidy (dropCopies s h (fun c => c.elim)) h
    | none => s) { s with red := { s.red with prov := [] } }
  { s with car := { s.car with frames := s.car.frames.map (fun f => (f.1, { f.2 with prpWait := false })) } }

/-- The learning queue and the pending requests are discarded, and a running flush stops (R227): a link-down flush waits, merged
with those that wait, for the release. -/
def tableClear (s : State) : State :=
  let run := s.tbl.flush
  let refs := if run && s.tbl.flushLink then s.tbl.filters.map (fun w => fld w 0 10) else []
  let s := { s with
    car := { s.car with frames := s.car.frames.map (fun f => (f.1, { f.2 with learn := none })) }
    tbl := { s.tbl with
    queue := [], flush := false, filters := [], flushPos := 0, flushLink := false
    waiting := refs ++ s.tbl.waiting.filter (fun r => !refs.contains r) } }
  if run then s.setFlags .FDB_STATUS 0 0 16 else s

/-- The schedulers: every list stops and the gates take INIT_GATES (R282). -/
def schClear (s : State) : State :=
  (allPorts s).foldl (fun s p =>
    (gateStop s p).setSch p { gates := s.rf .SCH_GATE_CTRL p 0 0 16, tick := s.time.ticks }) s

/-- Time I/O: the pulses and the IRIG frame in progress end. -/
def tioClear (s : State) : State :=
  let s := outputsCut s
  { s with time := { s.time with ppsTick := none, latchP := [] } }

/-- The local buffers: those of the control engine's cached responses stay (R101); every other buffer's contents are lost. -/
def lbmClear (s : State) : State :=
  let n := (s.car.frames.filter (fun f => f.2.drip.isSome)).length
  let s := chanReset (chanReset (if n = 0 then s else isoDiscard s 24 n) 25) 26
  { s with
    car := { s.car with frames := s.car.frames.map (fun f => (f.1, { f.2 with drip := none, buf := none })) }
    lbm := {
      used := s.lbm.used.filter (fun u => decide (u.1 < 4))
      held := s.lbm.held.filter (fun h => h.1 == 0)
      mem := s.lbm.mem.filter (fun w => s.lbm.held.any (fun h =>
        h.1 == 0 && decide (bufBase h.2 ≤ w.1) && decide (w.1 < bufBase h.2 + poolWords (h.2 % 4)))) } }

/-- The service engine: the copies that it was taking are discarded. -/
def serviceClear (s : State) : State :=
  (s.car.copies.filter (fun c => c.port == 133 && decide (c.read > 0))).foldl (fun s c => dropCopy (isoDiscard s 34) c) s

/-- The PTP engine's own state is cleared; the time counter and FREQ are not (R101, R310). -/
def ptpClear (s : State) : State :=
  { s with time := { s.time with
    fuWait := none, lastSync := none, dreq := none, pds := [], pathDelay := 0, pathValid := false, fus := [], pfus := [], retry := []
    lockRun := 0, badRun := 0, auto := false, autoStep := none } }

/-- The frames inside block `b` are discarded and its flags and state machines are cleared (R101, R104). -/
def blockClear (s : State) (b : Nat) : State :=
  let s := (blkFlags b ++ macFlags s b).foldl (fun s r => sqReset s r.1 r.2.1 r.2.2) s
  if b < 8 ∨ b = 16 then sliceClear s b
  else if b = 17 then carafeClear s
  else if b = 18 then schClear s
  else if b = 19 then streamClear s
  else if b = 20 then tableClear s
  else if b = 21 then ptpClear s
  else if b = 22 then tioClear s
  else if b = 23 then launchClear s
  else if b = 24 then lbmClear s
  else if b = 25 ∨ b = 26 then chanReset s b
  else if b = 27 then evtReset s
  else if b = 28 then { s with pct := { s.pct with slot := 0, exp := none, rx := [], tx := [] } }
  else if b = 34 then serviceClear s
  else (blkLanes b).foldl laneClear s

/-- The block that owns a pin with function `func` (R102, R455): the line channels' pins, and with time I/O its input, its outputs,
and a GPIO that serves as the one or copies one of the others. -/
def pinBlock (p func : Nat) : Option Nat :=
  if p < 32 then some (25 + p % 16 / 8)
  else if (48 ≤ p ∧ p < 52) ∨ (32 ≤ p ∧ p < 48 ∧ func ≠ 0) then some 22 else none

/-- The pins of a block in reset take their SAFE levels (R73, R105); those with SAFE 0 or 3 are let go or keep theirs. -/
def safePins (s : State) (b : Nat) : State :=
  (s.roast.pins.filter (fun w => pinBlock (fld w 22 10) (fld w 18 4) == some b && 1 ≤ fld w 12 2 && fld w 12 2 ≤ 2)).foldl
    (fun s w => s.emit (.pin (fld w 22 10) (fld w 12 2 == 2) (now16 s))) s

/-! ## Release (R105, R108) -/

/-- A lane of a released block starts from COLD (R143). -/
def laneRestart (s : State) (l : Nat) : State :=
  if !lanePresent s l || !domOn s (128 + l) then s
  else leaveCold (s.setLane l ((s.lane l).toCold s.hot.tick)) l

/-- Block `b` is released (R108). -/
def blockRelease (s : State) (b : Nat) : State :=
  if b = 17 then { s with car := { s.car with slot := 0, rebuild := true } }
  else if b = 18 then (allPorts s).foldl (fun s p => if tst (s.rw .SCH_GATE_CTRL p) 31 then gateStrobe s p s.now else s) s
  else if b = 20 then
    if s.tbl.waiting = [] then s
    else flushStart { s with tbl := { s.tbl with waiting := [] } } (s.tbl.waiting.map linkFilter) 0 true false
  else if b = 21 then servoRelease s
  else if b = 24 then chanStart (chanStart s 25) 26
  else if b = 25 ∨ b = 26 then chanStart s b
  else if b < 16 ∧ 8 ≤ b ∨ (29 ≤ b ∧ b < 34) then (blkLanes b).foldl laneRestart s
  else s

end Sys2Proof.Machine
end

