-- ==== Sys2Proof/Machine/Reset.lean ====
section
/-!
DEFINITION. Machine/Reset.lean: block resets behind their isolation wrappers
(04_startup_reset.md R36, R101 to R110; 05_hotplate_power.md R115).
-/
namespace Sys2Proof.Machine

/-- Block `b` can be reset on the running part (R102, R110). -/
def blkPresent (s : State) (b : Nat) : Bool :=
  b < 35 && (!isSmall s || !([4, 5, 6, 7, 12, 13, 14, 15, 26, 30, 31].contains b))

/-- The domains of block `b` (R102, R117). -/
def blkDomains (b : Nat) : List Nat :=
  if b = 22 ∨ b = 23 then [234] else (List.range 236).filter (fun d => domBlock d == b)

/-- Every domain of the block is powered down (R107). -/
def blkAsleep (s : State) (b : Nat) : Bool :=
  blkDomains b != [] && (blkDomains b).all (fun d => !domPresent s d || (s.dom d).st == .off || (s.dom d).st == .retained)

/-- The cause bits of a pulse or hold that names blocks `bs`: CMD, and each named block's own bit (R101). -/
def markCause (s : State) (bs : List Nat) : State :=
  let m (k : Nat) : Nat := sumN ((bs.filter (fun b => b / 24 == k)).map (fun b => 1 <<< (b % 24)))
  let s := if bs = [] then s else s.setFlags .RST_CAUSE 0 0 4
  [0, 1].foldl (fun s k => if m k = 0 then s else s.setFlags .RST_BLOCK_CAUSE k 0 (m k)) s

/-- Isolation of block `b` completes (R104): what is inside is discarded and its state cleared; then a hold is
HELD, and a pulse, or a hold whose release is pending, runs its 64-cycle reset (R103, R109).  STATE reads ISOLATING until that reset
ends, and a pulse that comes in the meantime brings one more (DESIGN CHOICE, log entry 93). -/
def isolationDone (s : State) (b : Nat) : State :=
  let s := safePins (blockClear s b) b
  let x := s.blk b
  if x.hold && !x.relPend then s.setBlk b { x with st := .held, inReset := false, again := false }
  else s.setBlk b { x with inReset := true }

/-- A pulse or hold closes the wrapper of block `b` (R103, R104); where all its domains are powered down it takes
effect at once (R107): its isolation is over, and its reset and its release end like any other's (DESIGN CHOICE, log entry 94). -/
def isolate (s : State) (b : Nat) (hold : Bool) : State :=
  let s := blockClose (s.setBlk b { st := .isolating, hold := hold, closed := true }) b
  if blkAsleep s b then isolationDone s b else s

/-- A release begins: its clock is awaited (R108). -/
def beginRelease (s : State) (b : Nat) : State :=
  s.setBlk b { (s.blk b) with st := .releasing, inReset := false, relPend := false, again := false, hold := false }

/-- A pulse of block `b` (R103). -/
def pulseBlk (s : State) (b : Nat) : State :=
  let x := s.blk b
  match x.st with
  | .run => isolate s b false
  | .isolating => s.setBlk b { x with again := true, hold := false }
  | .releasing => s.setBlk b { x with st := .isolating, inReset := true, hold := false, again := false }
  | .clockFail => beginRelease s b
  | .held => s

/-- A hold of block `b` (R103): a pending release is cancelled. -/
def holdBlk (s : State) (b : Nat) : State :=
  let x := s.blk b
  match x.st with
  | .run => isolate s b true
  | .isolating => if x.inReset then s.setBlk b { x with st := .held, hold := true, relPend := false, inReset := false, again := false }
    else s.setBlk b { x with hold := true, relPend := false, again := false }
  | .releasing | .clockFail => s.setBlk b { x with st := .held, hold := true, relPend := false, xo := false }
  | .held => s.setBlk b { x with relPend := false }

/-- A release of block `b` (R103, R109): one that arrives during the isolation is held as REL_PENDING. -/
def releaseBlk (s : State) (b : Nat) : State :=
  let x := s.blk b
  match x.st with
  | .held | .clockFail => beginRelease s b
  | .isolating => s.setBlk b { x with relPend := true }
  | .run | .releasing => s

/-- The traffic of every block that a mask names may be misdirected, duplicated or lost (R59, R111). -/
def wildBlocks (s : State) (mask : Nat) : State :=
  (onesOf 37 mask).foldl (fun s b => if blkPresent s b then blockWild s b else s) s

/-- The blocks that a mask names and the running part has. -/
def maskBlocks (s : State) (mask : Nat) : List Nat := (onesOf 37 mask).filter (fun b => blkPresent s b)

/-- The actions of BLOCK_RESET (R103). -/
inductive BlkAct where
  | pulse | hold | release
deriving DecidableEq, Repr

/-- BLOCK_RESET (R36, R55, R103, R106): its STATUS, the state, and whether a pulse of the request's own host
interface waits for the response to leave (`own` is that interface's block; 64 for none). -/
def blockReset (s : State) (who : Who) (act : BlkAct) (mask own : Nat) : Nat × State × Bool :=
  match guardJudge s who (tst (s.rw .CTL_GUARD_CFG) 9) with
  | some (st, s) => (st, s, false)
  | none =>
    if mask.testBit 35 || mask.testBit 36 then (stNotResettable, s, false)
    else if act = .hold ∧ mask.testBit own then (stNotResettable, s, false)
    else
      let bs := maskBlocks s mask
      let later := act == .pulse && bs.contains own
      let now := if later then bs.filter (· != own) else bs
      let s := if act = .release then s else markCause s now
      let f : State → Nat → State := match act with
        | .pulse => pulseBlk
        | .hold => holdBlk
        | .release => releaseBlk
      let s := if mask / 2 ^ 37 = 0 then s else wildBlocks s mask
      (stOk, now.foldl f s, later)

/-- The 64-cycle reset of a block ends (R103): the block goes to RELEASING, or is reset once more where a pulse
came during its isolation. -/
def resetPulseEnd (s : State) (b : Nat) : State :=
  let x := s.blk b
  if x.st ≠ .isolating ∨ !x.inReset then s
  else if x.again then s.setBlk b { x with again := false }
  else beginRelease s b

/-- The block's clock is good and it is released (R108): RUN, and the release event. -/
def blockReleased (s : State) (b : Nat) : State :=
  if (s.blk b).st ≠ .releasing then s
  else raiseEdge (blockRelease (s.setBlk b {}) b) (128 + 2 * b)

/-- The free lists of the Carafe are rebuilt (R105). -/
def rebuildDone (s : State) : State := { s with car := { s.car with rebuild := false } }

/-- The release of block `b` is abandoned (R108): CLOCK_FAIL, and the clock-failure event. -/
def blockClockFail (s : State) (b : Nat) : State :=
  if (s.blk b).st ≠ .releasing then s
  else raiseEdge (s.setBlk b { (s.blk b) with st := .clockFail, closed := true }) (129 + 2 * b)

/-- The blocks whose clocks come from XO_IN's PLLs (05_hotplate_power.md, "Clocks"; log entry 22): the control engine among them,
which no BLOCK_RESET resets and whose STATE and counters never show it (R110). -/
def xoBlocks (s : State) : List Nat :=
  ((List.range 8) ++ [16, 17, 18, 19, 20, 21, 22, 23, 24, 25, 26, 27, 28, 34, 35]).filter (fun b => blkPresent s b || b == 35)

/-- Block `b` has lost its clock (R108, R114): a running block is isolated and held in CLOCK_FAIL, with its clock-failure event. -/
def xoCut (s : State) (b : Nat) : State :=
  match (s.blk b).st with
  | .run | .releasing | .isolating =>
    let s := safePins (blockClear (blockClose (s.setBlk b { (s.blk b) with closed := true }) b) b) b
    raiseEdge (s.setBlk b { st := .clockFail, closed := true, xo := !(s.blk b).hold }) (129 + 2 * b)
  | .held | .clockFail => s

/-- Block `b` has its clock again: where it was held for this cause alone, it is released (R108, R115). -/
def xoFree (s : State) (b : Nat) : State :=
  if (s.blk b).st = .clockFail ∧ (s.blk b).xo then raiseEdge (blockRelease (s.setBlk b {}) b) (128 + 2 * b) else s

/-- XO_IN is lost (R114, R115): the XO and PLL bits clear, and each block whose clock is lost stops. -/
def xoLost (s : State) : State :=
  let s := setClk s (s.hot.clk &&& 0x06)
  let s := { s with time := { s.time with pllLost := true } }
  (xoBlocks s).foldl xoCut s

/-- XO_IN returns (R115): the core PLL relocks, and the blocks held for this cause alone are released by R108; time I/O, which runs
from the time PLL, waits for that one's lock. -/
def xoReturn (s : State) : State :=
  let s := setClk s (s.hot.clk ||| 0x09)
  ((xoBlocks s).filter (· != 22)).foldl xoFree s

/-- The time PLL has locked again (R114, R115): its bit follows its lock, and time I/O is released. -/
def timePllBack (s : State) : State :=
  if s.hot.clk.testBit 0 then xoFree (setClkBit s 4 true) 22 else s

end Sys2Proof.Machine
end

