-- ==== Sys2Proof/Machine/Strobe.lean ====
section
/-!
DEFINITION. Machine/Strobe.lean: update groups, strobes and their effects, timed strobes and the UPDATE operation
(02_control_frames.md R48 to R50, R57; 20_address_map.md R466).
-/
namespace Sys2Proof.Machine

/-! ## Groups (R466) and guard registers (R72) -/

/-- The update group of a register; `none` for a register that is not RWU (R466). -/
def groupOf (r : Reg) : Option Nat :=
  if r.f.row.acc ≠ .rwu then none else
  let a := r.key
  if a < 0x60000 then some 0
  else if a < 0x80000 then some 10
  else if a < 0x90000 then some 13
  else if a < 0xB0000 then some 14
  else if a < 0xC0000 then some 12
  else if a < 0x180000 then some (1 + r.i)
  else if a < 0x200000 then some 0
  else if a < 0x300000 then some (if r.i < 128 then 1 + r.i / 16 else 0)
  else if a < 0x500000 then some 0
  else if a < 0x600000 then some 9
  else some 11

/-- A register of the control engine or the event controller, whose type the guard section does not change (R72). -/
def ctlOrEvt (r : Reg) : Bool := decide (0x30000 ≤ r.key) && decide (r.key < 0x50000)

/-- The register is GW (R55, R72). -/
def isGuardReg (s : State) (r : Reg) : Bool :=
  r.f.row.acc == .gw ||
  ((r.f.row.acc == .rw || r.f.row.acc == .rwu) && !ctlOrEvt r &&
    s.roast.guardRanges.any (fun g => decide (g.1 ≤ r.key) && decide (r.key < g.1 + 4 * g.2)))

/-- The power domain that an RWU register waits for (R50); `none` for one that lies in no switched domain. -/
def strobeDom (r : Reg) : Option Nat :=
  let a := r.key
  if 0x50000 ≤ a ∧ a < 0x60000 then some 227
  else if 0xA0000 ≤ a ∧ a < 0xB0000 then some 234
  else if 0x100000 ≤ a ∧ a < 0x180000 then some (170 + r.i)
  else if 0x180000 ≤ a ∧ a < 0x180900 then some 232
  else if 0x200000 ≤ a ∧ a < 0x300000 then some (if r.i < 128 then r.i else 93 + r.i)
  else if 0x500000 ≤ a ∧ a < 0x600000 then some (if r.i < 128 then 178 + r.i / 16 else 235)
  else if 0x700000 ≤ a then some 233
  else none

/-- The switched domains in which a group has registers. -/
def groupDoms (g : Nat) : List Nat :=
  if g = 0 then [221, 222, 227, 232]
  else if g ≤ 8 then (169 + g) :: (List.range 16).map (· + 16 * (g - 1))
  else if g = 9 then (List.range 8).map (· + 178)
  else if g = 11 then [233]
  else if g = 14 then [234]
  else []

/-! ## Effects of a strobe beyond the copy -/

/-- The settings of channel `c` whose change restarts it (R377). -/
def chanSettings (s : State) (c : Nat) : List Word :=
  [s.rw .LCH_CFG c &&& 0x78F1FFFF, s.rw .LCH_PKT c &&& 0xFF3F0000, s.rw .LCH_JB c]

/-- Port `p`'s MAC_MM_CFG, written since the last strobe, has taken its new value: verification starts again (R159). -/
def mmStrobe (s : State) (p : Nat) : State :=
  let r : Reg := ⟨.MAC_MM_CFG, p, 0⟩
  if (s.mac p).mmWr && s.shadow r == s.reg r then startVerify (s.setMac p { (s.mac p) with mmWr := false }) p else s

/-- The ports whose MAC settings group `g` holds. -/
def groupPorts (g : Nat) : List Nat :=
  if g = 0 then [128, 129] else if g ≤ 8 then (List.range 16).map (· + 16 * (g - 1)) else []

/-- A strobe makes one of the settings that wake the PTP engine (R473). -/
def ptpWanted (old s : State) : Bool :=
  (List.range 4).any (fun k => tst (s.rw .TK_DOM_CFG k) 31 && !tst (old.rw .TK_DOM_CFG k) 31) ||
  (s.rf .TK_SERVO_SRC 0 0 30 2 != 0 && old.rf .TK_SERVO_SRC 0 0 30 2 == 0) ||
  (List.range 128).any (fun p =>
    [30, 31].any (fun b => tst (s.rw .TK_PORT_CFG p) b && !tst (old.rw .TK_PORT_CFG p) b))


/-- A disabled PPS output goes low (R334). -/
def ppsFollow (s : State) (n : Nat) : State :=
  if !tst (s.rw .TIO_PPS_OUT n) 31 && mget false s.time.pps n then
    let s := { s with time := { s.time with pps := mput false s.time.pps n false } }
    timePin s (49 + n) false (now16 s)
  else s

/-- What a strobe of group `g` sets off when its registers have changed from those of `old` (R159, R271, R329, R377, R411, R423,
R473).  `doms` says which domains it reached. -/
def groupFx (old : State) (tref : Nat) (reached : Nat → Bool) (s : State) (g : Nat) : State :=
  if g ≤ 8 then
    let s := (groupPorts g).foldl (fun s p =>
      if portPresent s p && reached (if p < 128 then p else 93 + p) then mmStrobe s p else s) s
    if g = 0 ∧ tst (s.rw .PCT_TEL_CFG) 31 ∧ !tst (old.rw .PCT_TEL_CFG) 31 then trigger s 2 223 else s
  else if g = 9 then
    if closed s 18 then s
    else (allPorts s).foldl (fun s p => if reached (if p < 128 then 178 + p / 16 else 235) then gateStrobe s p tref else s) s
  else if g = 10 then
    let s := if closed s 21 then s else servoStrobe s (old.rw .TK_SERVO_SRC)
    let s := if ptpWanted old s then trigger s 2 220 else s
    let s := if tioWanted old s then trigger s 2 234 else s
    ppsFollow (ppsFollow s 0) 1
  else if g = 12 then
    (List.range 16).foldl (fun s c => chanStrobe s c (chanSettings old c != chanSettings s c)) s
  else if g = 13 then
    let s := flashShared (roleUpdate s) (tst (old.rw .TWN_CFG) 30)
    if mgmtOn s && !tst (old.rw .TWN_CFG) 29 then mgmtNotice s else s
  else s

/-! ## Strobes -/

/-- The shadows that meet a condition, with their registers. -/
def shadowsOf (s : State) (p : Reg → Bool) : List (Reg × Word) :=
  s.shadows.filterMap (fun x => (decodeAddr x.1).bind (fun r => if p r then some (r, x.2) else none))

/-- The shadows that meet a condition become active (R48): the schedulers' credits are accounted up to that cycle (R263), and the
frames whose lookup began before it keep the old values. -/
def copyShadows (s : State) (p : Reg → Bool) : State :=
  let l := shadowsOf s p
  let s := if l.any (fun x => groupOf x.1 == some 9) then (allPorts s).foldl schSync s else s
  -- a selection that was a host error leaves the counter's value open when it changes (R410)
  let open_ := (l.filter (fun x => x.1.f == .PCT_CFG && s.reg x.1 != x.2 && pctBad s (8 * x.1.i + x.1.j))).map (fun x => 8 * x.1.i + x.1.j)
  freeCounters (l.foldl (fun t x => (t.setReg x.1 x.2).setShadow x.1 x.2) (keepOld s (l.map (fun x => (x.1, s.reg x.1))))) open_

/-- A strobe takes register `r`: it belongs to a named group, and is no guard shadow unless the strobe carries the guard's
(R57, R58). -/
def strobeTakes (s : State) (groups : Nat) (guard : Bool) (r : Reg) : Bool :=
  (match groupOf r with
    | some g => groups.testBit g
    | none => false) && (!isGuardReg s r || (guard && !guardSealed s))

/-- A strobe of the groups in `groups` (R48, R50, R57): awake domains take it at once, sleeping ones when they next wake. -/
def strobe (s : State) (groups : Nat) (guard : Bool) (tref : Nat) : State :=
  let here (d : Nat) : Bool := domOn s d
  let t := copyShadows s (fun r => strobeTakes s groups guard r && (match strobeDom r with
    | some d => here d
    | none => true))
  let gs := onesOf 16 groups
  let t := gs.foldl (fun t g => (groupDoms g).foldl (fun t d =>
    if domPresent t d && !here d then
      t.setDom d { (t.dom d) with
        missed := (t.dom d).missed ||| (1 <<< g)
        missedG := if guard then (t.dom d).missedG ||| (1 <<< g) else (t.dom d).missedG
        missedT := if g = 9 then tref else (t.dom d).missedT }
    else t) t) t
  gs.foldl (groupFx s tref here) t

/-- Domain `d` wakes and takes the strobes that it missed (R50), that of group 9 with the t_ref of its firing (R271). -/
def strobeDomain (s : State) (d groups groupsG tref : Nat) : State :=
  let t := copyShadows s (fun r => strobeDom r == some d &&
    (strobeTakes s groups false r || strobeTakes s groupsG true r))
  (onesOf 10 groups).foldl (groupFx s tref (fun e => e == d)) t

/-! ## Timed strobes and UPDATE (R49, R50, R57) -/

/-- The strobes that group `g` holds armed. -/
def armedOf (s : State) (g : Nat) : Option Armed := mfind s.ctl.armed g

/-- The time of an armed strobe in nanoseconds; a nanoseconds field above its range gives a free firing time (R60). -/
def armedTime (s : State) (sec ns : Nat) : Nat := if ns < 1000000000 then sec * 1000000000 + ns else s.free

/-- The time `t`, in nanoseconds, has passed: the Timekeeper stands beyond it, by a fraction of a nanosecond even (R49). -/
def timePassed (s : State) (t : Nat) : Bool := decide (t < s.now) || (t == s.now && s.time.now.frac != 0)

/-- Every register family (R465). -/
def allFams : List Fam :=
  famsDEV ++ famsRST ++ famsHOT ++ famsCTL ++ famsEVT ++ famsPCT ++ famsTK ++ famsTIO ++ famsTWN ++ famsLBM ++ famsEPT ++ famsLCH ++
    famsCLS ++ famsMAC ++ famsLN ++ famsCAR ++ famsSCH ++ famsTBL ++ famsRED ++ famsPOL

/-- The registers of the groups in `groups`. -/
def groupRegs (groups : Nat) : List Reg :=
  ((allFams.filter (fun f => f.row.acc == .rwu)).flatMap (fun f =>
    (List.range f.row.n).flatMap (fun i => (List.range f.row.m).map (fun j => (⟨f, i, j⟩ : Reg))))).filter (fun r =>
      match groupOf r with
      | some g => groups.testBit g
      | none => false)

/-- The active values of the groups are free, but those of guard registers, which no host error changes (R59, R60). -/
def wildGroups (s : State) (groups : Nat) : State :=
  ((groupRegs groups).filter (fun r => !isGuardReg s r)).foldl (fun s r =>
    (s.drawn.setReg r (Config.freeW s.freeCtr &&& r.f.row.mask))) s

/-- A named group has guard registers: a strobe of the context that acts as the guard's is an UPDATE applied to guard shadows, and so
a guard operation (R55, R57). -/
def guardUpdate (s : State) (who : Who) (groups : Nat) : Bool :=
  who.acting && s.roast.guardRanges.any (fun g => (List.range g.2).any (fun k =>
    match decodeAddr (g.1 + 4 * k) with
    | some r => isGuardReg s r && (match groupOf r with
      | some n => groups.testBit n
      | none => false)
    | none => false))

/-- UPDATE: its STATUS and the state.  The guard's judgement comes first (R55, R58). -/
def updateOp (s : State) (who : Who) (timed cancel : Bool) (groups sec ns : Nat) : Nat × State :=
  let gs := onesOf 16 groups
  let other := gs.any (fun g => match armedOf s g with
    | some a => a.ctx != who.ctx || !cancel
    | none => false)
  match guardJudge s who (!cancel && guardSealed s && guardUpdate s who groups) with
  | some x => x
  | none =>
  if other then (stUpdateArmed, s)
  else if cancel then (stOk, { s with ctl := { s.ctl with armed := s.ctl.armed.filter (fun x => !gs.contains x.1) } })
  else if !timed then (stOk, strobe s groups who.acting s.now)
  else
    let free := decide (1000000000 ≤ ns)
    let t := armedTime s sec ns
    let s := if free then s.drawn else s
    if timePassed s t then
      let s := strobe ((s.bump .CTL_UPD_LATE).setFlags .CTL_STATUS 0 0 16) groups who.acting s.now
      (stUpdateLate, if free then wildGroups s groups else s)
    else
      (stOk, { s with ctl := { s.ctl with armed := gs.foldl (fun m g => mins m g
        { ctx := who.ctx, acting := who.acting, sec := t / 1000000000, ns := t % 1000000000, wild := free }) s.ctl.armed } })

/-- An armed strobe whose time has come fires for every group armed with it (R49). -/
def timedFire (s : State) (g : Nat) : State :=
  match armedOf s g with
  | none => s
  | some a =>
    let t := a.sec * 1000000000 + a.ns
    if s.now < t then s else
    let gs := (s.ctl.armed.filter (fun x => x.2 == a)).map (·.1)
    let s := { s with ctl := { s.ctl with armed := s.ctl.armed.filter (fun x => x.2 != a) } }
    let m := sumN (gs.map (fun k => 1 <<< k))
    let s := strobe s m a.acting (if (s.time.now.units : Int) - ((t * 2 ^ 32 : Nat) : Int) < incr s then t else s.now)
    if a.wild then wildGroups s m else s

/-- CTL_UPD_ARMED. -/
def updArmed (s : State) : Word := wd (sumN (s.ctl.armed.map (fun x => 1 <<< x.1)))

/-- GUARD_SEAL takes effect (R58): guard shadows not yet applied are discarded. -/
def sealGuard (s : State) : State :=
  { (s.wr .CTL_GUARD_SEAL 0 0 1) with
    shadows := s.shadows.filter (fun x => match decodeAddr x.1 with
      | some r => !isGuardReg s r
      | none => true) }

end Sys2Proof.Machine
end

