-- ==== Sys2Proof/Machine/Hotplate.lean ====
section
/-!
DEFINITION. Machine/Hotplate.lean: the commands of the Hotplate (05_hotplate_power.md R112 to R128, R473).
-/
namespace Sys2Proof.Machine

/-- The greatest number of transitions of one tick (R122); a reserved WAKE_BUDGET gives a free one (R123). -/
def wakeBudget (s : State) : Nat × State :=
  let v := s.rf .HOT_WAKE_BUDGET 0 0 0 5
  if 1 ≤ v ∧ v ≤ 16 then (v, s) else (Config.free s.freeCtr, { s with freeCtr := s.freeCtr + 1 })

/-- The clock cycles of block `b` in one Hotplate tick of 320 ns (R112, R399, R402): the core clock for every block but 36 and 39,
while the core PLL is good. -/
def tickCycles (s : State) (b : Nat) : Nat :=
  if b = 36 ∨ b = 39 then 1
  else if s.hot.clk.testBit 3 then 320 else 0

/-- The cycle events of one tick (R402): clock cycles of every awake block, and cycles of the ports in transmit LPI. -/
def countCycles (s : State) : State :=
  (s.regs.filter (fun x => decide (0x51000 ≤ x.1) && decide (x.1 < 0x52400) && x.1 % 16 == 0)).foldl (fun t x =>
    let c := (x.1 - 0x51000) / 16
    let b := c / 8
    let ev := fld x.2 24 8
    if pctOdd s c || !countersAwake s b then t
    else if ev = 1 then pctAdd t c (tickCycles s b)
    else if ev = 0x17 ∧ ((8 ≤ b ∧ b < 16) ∨ b = 32 ∨ b = 33) then
      pctAdd t c (tickCycles s b * ((blkPorts s b).filter (fun p => (s.mac p).txLpi &&
        (fld x.2 8 8 == 0xFF || fld x.2 8 8 == portSub p))).length)
    else t) s

/-- One Hotplate tick (R112, R122): HOT_TICK advances, the waiting transitions start within WAKE_BUDGET, and the twin's interlock
samples PEER_CLAIM_N. -/
def hotplateTick (s : State) (peerHigh : Bool) : State :=
  let b := wakeBudget s
  let s := b.2
  let s := { s with hot := { s.hot with tick := (s.hot.tick + 1) % 2 ^ 32 } }
  let s := if s.boot.st = .running ∨ s.boot.st = .reset then s
    else { s with boot := { s.boot with ticks := s.boot.ticks + 1 } }
  let t := if s.boot.st = .railFault then s else startReqs s.hot.queue b.1 s
  let n := (s.hot.queue.filter (fun r => (s.dom r.dom).st != (t.dom r.dom).st)).length
  let t := if n = 0 then t else occ t 36 0x10 0 n
  let t := if n = b.1 then occ t 36 0x11 0 else t
  twinTick ((t.macs.map (·.1)).foldl lpiTime (countCycles t)) peerHigh

/-- A domain's wake ends: event 0x02 of its block, and the trigger of the domains that wake with it (R402, R473). -/
def wakeFx (s : State) (d : Nat) : State :=
  let s := ((List.range 40).filter (fun b => (counterDoms b).contains d)).foldl (fun s b =>
    occ s b 2 ((counterDoms b).findIdx (· == d))) s
  if d = 218 ∨ d = 219 ∨ d = 220 then trigger s 2 223 else s

/-- A waking domain completes its wake (R117): it is ON, and a strobe that the domain missed applies before it carries traffic
(R50).  A lane is released only with a good PLL (R108, R116). -/
def domainReady (s : State) (d : Nat) : State :=
  let x := s.dom d
  if x.st ≠ .waking || (128 ≤ d && d < 170 && !lanePllReady s (d - 128)) then s else
  let s := s.setDom d { x with st := .on, warm := true, missed := 0, missedG := 0 }
  let s := if 128 ≤ d ∧ d < 170 then laneReleased s (d - 128) else s
  let s := if d < 128 then { s with hot := { s.hot with doze := s.hot.doze.filter (· != d) } } else s
  let s := wakeFx (clearAsleepCounters s d) d
  let s := if x.missed = 0 then s else strobeDomain s d x.missed x.missedG x.missedT
  let s := if 202 ≤ d ∧ d < 218 then gatesWoken s else s
  let s := if 178 ≤ d ∧ d < 186 then gatesRecompute s ((List.range 16).map (fun k => 16 * (d - 178) + k)) else s
  let s := lateReady (txWoken s)
  if d = 218 ∨ d = 219 then chanStart s (d - 193) else s

/-- A port that is down, disabled or in Doze (R119). -/
def portQuiet (s : State) (p : Nat) : Bool :=
  !portPresent s p || !linkUp s p || portDisabled s p || s.hot.doze.contains p

/-- Every pipeline domain is asleep (R119, R473), and none is about to wake. -/
def pipesAsleep (s : State) : Bool := ((List.range 8).map (· + 170) ++ [232]).all (domAsleep s)

/-- A frame has begun at the MAC of port `p` and has not ended. -/
def macBusy (s : State) (p : Nat) : Bool :=
  let m := s.mac p
  m.rx.isSome || m.asm.isSome || m.tx.isSome || m.txP.isSome

/-- A frame has begun in an ingress pipeline and has not ended. -/
def pipeBusy (s : State) (k : Nat) : Bool :=
  s.car.frames.any (fun f => pipeOf f.2.src == k && decide (f.2.src < 133) && !f.2.gone && (!f.2.looked || f.2.verdict.isNone))

/-- Domain `d` has begun a frame that has not ended (R121). -/
def domBusy (s : State) (d : Nat) : Bool :=
  if d < 128 then macBusy s d
  else if d < 160 then (lanePorts s (d - 128)).any (macBusy s)
  else if d < 168 then (s.link (laneLink (d - 128))).tx != [] || (s.link (laneLink (d - 128))).rx != []
  else if d < 170 then macBusy s (d - 40)
  else if d < 178 then pipeBusy s (d - 170)
  else if d < 186 then s.car.copies.any (fun c => c.port / 16 == d - 178 && decide (c.port < 128) && (c.begun || decide (0 < c.read)))
  else if d = 223 then s.car.copies.any (fun c => c.port == 133 && (c.begun || decide (0 < c.read)))
  else if d = 232 then pipeBusy s 8
  else false

/-- The sleep conditions of an AUTO domain (R119, R473; log entry 113). -/
def mayIdle (s : State) (d : Nat) : Bool :=
  if domBusy s d then false
  else if d < 128 then portQuiet s d
  else if d < 160 then
    let ps := (List.range 4).map (fun k => 4 * (d - 128) + k)
    ps.all (portDisabled s) || (idleMode (laneMode s (d - 128)) && ps.all (fun p => portDisabled s p || s.hot.doze.contains p))
  else if d < 170 then false
  else if d < 178 then ((List.range 16).map (fun k => 16 * (d - 170) + k)).all (portQuiet s)
  else if d < 186 then ((List.range 16).map (fun k => 16 * (d - 178) + k)).all (fun p =>
    !portPresent s p || portDisabled s p || s.hot.txAsleep.contains p)
  else if d < 202 then (List.range 133).all (fun p => !linkUp s p)
  else if d < 218 then pipesAsleep s
  else if d < 220 then ((List.range 8).map (fun k => 8 * (d - 218) + k)).all (fun c =>
    !tst (s.rw .LCH_CFG c) 31 && !(s.chan c).on && !(s.chan c).disabling)
  else if d = 220 then
    (List.range 4).all (fun k => !tst (s.rw .TK_DOM_CFG k) 31) &&
    (List.range 128).all (fun p => fld (s.rw .TK_PORT_CFG p) 30 2 == 0) && s.rf .TK_SERVO_SRC 0 0 30 2 == 0 &&
    s.time.fus == [] && s.time.pfus == [] && s.time.retry == []
  else if d = 223 then [218, 219, 220].all (domAsleep s) && !tst (s.rw .PCT_TEL_CFG) 31 && s.car.copies.all (fun c => c.port != 133)
  else if d = 232 then ((List.range 5).map (· + 128)).all (fun p => !portPresent s p || !linkUp s p)
  else if d = 233 then pipesAsleep s && s.red.prov == []
  else if d = 234 then
    s.ept.launches == [] && s.car.copies.all (fun c => c.begun || ((s.frm c.frame).bind (fun f => f.launch)).isNone) && !tst (s.rw .TIO_PPS_OUT 0) 31 && !tst (s.rw .TIO_PPS_OUT 1) 31 &&
    !tst (s.rw .TIO_IRIG_CFG) 31 && !tst (s.rw .TIO_PPS_IN_CFG) 31 &&
    s.car.copies.all (fun c => c.port != 128 && c.port != 129)
  else false

/-- The sleep conditions of an AUTO domain have held for HOT_IDLE_TIME (R119): its sleep is queued. -/
def domainIdleSleep (s : State) (d : Nat) : State :=
  if isRunning s && domMode s d == 1 && !heldAwake s d && mayIdle s d then queueSleep s d else s

/-- A domain's drain and sleep end (R121), every frame that it has begun having ended: a held wake then enters the wake scheduler
in its own class. -/
def domainShutdownDone (s : State) (d : Nat) : State :=
  let x := s.dom d
  if x.st ≠ .sleeping || domBusy s d then s else
  let s := s.setDom d { x with st := if sleepsRetained d then .retained else .off }
  let s := if 128 ≤ d ∧ d < 170 then laneSlept s (d - 128) else s
  match x.pend with
  | none => s
  | some c => { s with hot := { s.hot with queue := wakeIns ⟨c.1, d, c.2⟩ s.hot.queue } }

/-- A write of HOT_DOM_CMD with action wake (R119). -/
def domWakeCmd (s : State) (d : Nat) : State := wake s 4 d

/-- A write of HOT_DOM_CMD with action sleep (R119, R121): refused for a domain that is ON or held awake. -/
def domSleepCmd (s : State) (d : Nat) : State :=
  if !domPresent s d then s
  else if domMode s d = 2 || (isRunning s && heldAwake s d) then s.setFlags .HOT_STATUS 0 0 2
  else if (s.dom d).st = .on then queueSleep (s.setDom d { (s.dom d) with cmd := true }) d
  else s

/-- A write of HOT_DOM_CMD: ACTION in [31:30], DOMAIN in [8:0]; reserved encodings leave the Hotplate
untouched (R59; log entry 6). -/
def domCmd (s : State) (w : Word) : State :=
  if fld w 9 21 ≠ 0 ∨ fld w 0 9 > 235 then s
  else match fld w 30 2 with
    | 0 => domWakeCmd s (fld w 0 9)
    | 1 => domSleepCmd s (fld w 0 9)
    | _ => s

/-- A write of HOT_DOM_MODE_n (R119): each domain that it makes ON and that is not awake has its wake queued, and a sleep that still
waits is called off. -/
def domModeWrite (s : State) (n : Nat) (w : Word) : State :=
  let s := s.wr .HOT_DOM_MODE n 0 w
  (List.range 16).foldl (fun s i => if fld w (2 * i) 2 = 2 then wake s 4 (16 * n + i) else s) s


/-- A change of DOZE_EN or of WAKE_BUDGET (R124, R128): a dozing port whose receive wake time falls below the new
HOT_DOZE_NEED is woken, and so is one whose DOZE_EN is clear. -/
def dozeRecheck (s : State) : State :=
  s.hot.doze.foldl (fun s p => if !dozeCovered s p || !tst (s.rw .HOT_PORT_PWR p) 31 then dozeWake s p else s) s

/-- A port's transmit path sleeps (R125, R170): EEE is active, LEAD is not 0, no frame waits in an open queue, and the next opening
of every queue lies more than LEAD ticks and 2 µs ahead; that opening is posted to the Hotplate.  The MAC signals low-power idle;
its domain and its lane are those of both directions and sleep only in Doze (R119, R124).  A path without any next opening posts
nothing, and a frame for an open queue wakes it (log entry 84). -/
def transmitPathSleep (s : State) (p : Nat) : State :=
  let lead := s.rf .HOT_PORT_PWR p 0 0 16
  if p < 128 ∧ eeeActive s p ∧ lead ≠ 0 ∧ !s.hot.txAsleep.contains p ∧ !openQueued s p ∧
      (allOpenings s p).all (fun t => t > s.now + 320 * lead + 2000) then
    let s := repost { s with hot := { s.hot with
      txAsleep := p :: s.hot.txAsleep
      txWaking := s.hot.txWaking.filter (· != p) } } p
    let s := setLpi s p true (s.mac p).rxLpi
    if ((List.range 16).map (fun k => 16 * (p / 16) + k)).all (fun q =>
        !portPresent s q || portDisabled s q || s.hot.txAsleep.contains q) then autoSleep s (178 + p / 16) else s
  else s

/-- A port whose transmit path sleeps, or may (R125), and whose two directions are in low-power idle with enough receive wake time
enters Doze (R124): its MAC domain sleeps, and in the modes of R129 its lane, where their mode is AUTO (R119). -/
def dozeEntry (s : State) (p : Nat) : State :=
  if p < 128 ∧ tst (s.rw .HOT_PORT_PWR p) 31 ∧ (s.mac p).txLpi ∧ (s.mac p).rxLpi ∧ dozeCovered s p ∧ !s.hot.doze.contains p then
    let s := transmitPathSleep s p
    if !s.hot.txAsleep.contains p then s else
    let s := autoSleep { s with hot := { s.hot with doze := p :: s.hot.doze } } p
    if idleMode (laneMode s (p / 4)) then autoSleep s (128 + p / 4) else s
  else s

/-- HOT_PORT_PWR_p is written: a dozing port is judged anew (R124), and with a LEAD of 0 its transmit path stays awake (R125). -/
def portPwrWrite (s : State) (p : Nat) (w : Word) : State :=
  let s := dozeRecheck (s.wr .HOT_PORT_PWR p 0 w)
  if fld w 0 16 = 0 then pathWake s p else s

/-- At the next gate opening less LEAD ticks, gate-lead wakes are queued for the sleeping domains of the path (R125), but those
whose mode is OFF (R119). -/
def gateLeadWake (s : State) (p : Nat) : State :=
  match s.hot.leads.find? (fun q => q.1 == p) with
  | none => s
  | some (_, t) =>
    if t > s.now + 320 * s.rf .HOT_PORT_PWR p 0 0 16 then s else
    txWoken ([178 + p / 16, p, 128 + p / 4].foldl (fun s d => if domMode s d = 0 then s else wakeAt s 3 d t) (pathCalled s p))

/-- A count window of SREF0 or SREF1 ends (R114, R116): the reference loses its bit on a bad window and gains it
again after two good ones in a row; lanes on a lost reference lose their PLL. -/
def srefWindow (s : State) (ref count : Nat) : State :=
  if ref > 1 then s else
  let good := decide (160000 ≤ count + 32) && decide (count ≤ 160032)
  let run := if good then (if ref = 0 then s.hot.good0 else s.hot.good1) + 1 else 0
  let s := { s with hot := if ref = 0 then { s.hot with good0 := min run 2 } else { s.hot with good1 := min run 2 } }
  let was := s.hot.clk.testBit (1 + ref)
  if !good && was then lanesRefLost (setClkBit s (1 + ref) false) ref
  else if run ≥ 2 && !was then setClkBit s (1 + ref) true
  else s

end Sys2Proof.Machine
end

