-- ==== Sys2Proof/Machine/Misc.lean ====
section
/-!
DEFINITION. Machine/Misc.lean: the temperature sensor and the test access port (19_electrical.md R457, R459).
-/
namespace Sys2Proof.Machine

/-! ## Temperature (R459) -/

/-- A reading of the sensor, in whole degrees: DEV_TEMP follows it, and ALARM is raised when it reaches DEV_TEMP_LIMIT. -/
def tempSample (s : State) (degrees : Int) : State :=
  let d := max (-128) (min 127 degrees)
  let t := s.temp
  let s := { s with temp := { now := d, max := if t.seen then max t.max d else d, seen := true } }
  if d ≥ (s.rf .DEV_TEMP_LIMIT 0 0 0 8 : Int) then s.setFlags .DEV_TEMP_STATUS 0 0 1 else s

/-- DEV_TEMP; a free value until the first reading (log entry 6). -/
def devTemp (s : State) : Word :=
  if s.temp.seen then put 16 8 (unsgn 8 s.temp.max) ||| put 0 8 (unsgn 8 s.temp.now) else Config.freeW s.freeCtr &&& 0x00FF00FF

/-! ## The test access port (R457; IEEE 1149.1) -/

/-- The next state of the access port, by the level of TMS. -/
def tapNext (t : Tap) (tms : Bool) : Tap :=
  match t, tms with
  | .reset, true => .reset
  | .reset, false => .idle
  | .idle, true => .selDr
  | .idle, false => .idle
  | .selDr, true => .selIr
  | .selDr, false => .capDr
  | .capDr, true => .ex1Dr
  | .capDr, false => .shDr
  | .shDr, true => .ex1Dr
  | .shDr, false => .shDr
  | .ex1Dr, true => .updDr
  | .ex1Dr, false => .pauDr
  | .pauDr, true => .ex2Dr
  | .pauDr, false => .pauDr
  | .ex2Dr, true => .updDr
  | .ex2Dr, false => .shDr
  | .updDr, true => .selDr
  | .updDr, false => .idle
  | .selIr, true => .reset
  | .selIr, false => .capIr
  | .capIr, true => .ex1Ir
  | .capIr, false => .shIr
  | .shIr, true => .ex1Ir
  | .shIr, false => .shIr
  | .ex1Ir, true => .updIr
  | .ex1Ir, false => .pauIr
  | .pauIr, true => .ex2Ir
  | .pauIr, false => .pauIr
  | .ex2Ir, true => .updIr
  | .ex2Ir, false => .shIr
  | .updIr, true => .selDr
  | .updIr, false => .idle

/-- IDCODE (R457): the stepping's digit plus 1, PART, 0x0C5 and 1. -/
def idCode (s : State) : Nat :=
  (s.boot.fuses.stepping % 16 + 1) % 16 * 2 ^ 28 + fld (devIdent s) 16 16 * 2 ^ 12 + 0x0C5 * 2 + 1

/-- The instruction in effect reaches the boundary-scan register: SAMPLE/PRELOAD, EXTEST, EXTEST_PULSE or EXTEST_TRAIN. -/
def jtagScan (ir : Nat) : Bool := 2 ≤ ir && ir ≤ 5

/-- The length of the data register that the instruction selects. -/
def drLength (ir : Nat) : Nat := if ir = 1 then 32 else if jtagScan ir then Config.bsrLength else 1

/-- A register of `n` bits shifts towards TDO by one place. -/
def jtagShift (n v : Nat) (tdi : Bool) : Nat := low n (v / 2 + if n = 0 then 0 else b2n tdi * 2 ^ (n - 1))

/-- An edge on TCK with the levels of TMS, TDI and TRST_N: a rising edge captures, shifts and moves the state; a falling one
updates and sets TDO.  What a capture finds at the balls is a free value. -/
def tckEdge (s : State) (rising tms tdi trst : Bool) : State :=
  let j := s.jtag
  if !trst then { s with jtag := { j with tap := .reset, ir := 1, tdo := none } }
  else if rising then
    let next := tapNext j.tap tms
    let s := match j.tap with
      | .capDr =>
        if j.ir = 1 then { s with jtag := { j with dr := idCode s } }
        else if jtagScan j.ir then { s with jtag := { j with dr := low Config.bsrLength s.free } }.drawn
        else { s with jtag := { j with dr := 0 } }
      | .shDr => { s with jtag := { j with dr := jtagShift (drLength j.ir) j.dr tdi } }
      | .capIr => { s with jtag := { j with irShift := low Config.irLength (s.free / 4 * 4 + 1) } }.drawn
      | .shIr => { s with jtag := { j with irShift := jtagShift Config.irLength j.irShift tdi } }
      | _ => s
    { s with jtag := { s.jtag with tap := next, ir := if next = .reset then 1 else s.jtag.ir } }
  else
    match j.tap with
    | .updDr =>
      let s := { s with jtag := { j with latch := if jtagScan j.ir then j.dr else j.latch, tdo := none } }
      if 3 ≤ j.ir ∧ j.ir ≤ 5 then s.emit (.scan j.ir s.jtag.latch) else s
    | .updIr =>
      let i := Config.irSelect j.irShift
      let s := { s with jtag := { j with ir := i, tdo := none } }
      if 3 ≤ i ∧ i ≤ 5 then s.emit (.scan i j.latch) else s
    | .shDr => { s with jtag := { j with tdo := some (nbit j.dr 0) } }
    | .shIr => { s with jtag := { j with tdo := some (nbit j.irShift 0) } }
    | _ => { s with jtag := { j with tdo := none } }

end Sys2Proof.Machine
end

