-- ==== Sys2Proof/Machine/RegAccess.lean ====
section
/-!
DEFINITION. Machine/RegAccess.lean: host access to registers: which exist, which are reached, what a read gives and what a write
does, indirect windows and bursts (02_control_frames.md R33, R34, R40, R41, R47 to R52, R55, R58; 20_address_map.md R464).
-/
namespace Sys2Proof.Machine

/-! ## Which registers exist (R3, R15, R255, R398) -/

/-- The port of device-wide queue `q`, and the queue's number there (R240). -/
def queueAt (q : Nat) : Nat × Nat :=
  if q < 1040 then (min 128 (q / 8), if q < 1024 then q % 8 else q - 1024)
  else if q < 1056 then (129, q - 1040) else if q < 1064 then (130, q - 1056) else if q < 1068 then (131, q - 1064)
  else if q < 1072 then (132, q - 1068) else (133, q - 1072)

/-- The register belongs to a resource that the running part and its modes have. -/
def regPresent (s : State) (r : Reg) : Bool :=
  let a := r.key
  if a < 0x20200 then true
  else if a < 0x30000 then portPresent s r.i
  else if a < 0x51000 then true
  else if a < 0x54000 then counterBlkPresent s r.i
  else if a < 0x60000 then portPresent s r.i
  else if a < 0x61000 then !(r.f == .TK_PSTATE && isSmall s && 4 ≤ r.j)
  else if a < 0x70000 then portPresent s r.i
  else if a < 0x80200 then true
  else if a < 0x80400 then r.i == 0 || !isSmall s
  else if a < 0xB1000 then true
  else if a < 0x100000 then chanPresent s r.i
  else if a < 0x200000 then
    (0x180000 ≤ a || !isSmall s || r.i < 4) &&
      (!(r.f == .CLS_S0_DEF_W1 || r.f == .CLS_S0_DEF_W2 || r.f == .CLS_S0_DEF_W3) ||
        (if r.i < 8 then portPresent s (16 * r.i + r.j) else r.j < 5 && portPresent s (128 + r.j)))
  else if a < 0x300000 then portPresent s r.i
  else if a < 0x400400 then true
  else if a < 0x410000 then portPresent s r.i
  else if a < 0x500000 then portPresent s (queueAt r.i).1
  else if a < 0x600000 then portPresent s r.i && (a % 0x1000 < 0x100 || r.j < queueCount r.i)
  else if a < laneSpace then true
  else !laneFused s r.i

/-! ## Which registers are reached (R40, R104, R146) -/

/-- The power domain in which a register lies; `none` for one that is always reached while the device is configured. -/
def regDom (r : Reg) : Option Nat :=
  if 0x200000 ≤ r.key ∧ r.key < 0x300000 then
    some (if r.i < 128 then r.i else if r.i < 130 then 93 + r.i else if r.i < 133 then 94 + r.i else 223)
  else if 0x500000 ≤ r.key ∧ r.key < 0x600000 then some (if r.i < 128 then 178 + r.i / 16 else 235)
  else strobeDom { r with f := r.f }

/-- The block whose wrapper stands before a register (R104). -/
def regBlk (r : Reg) : Option Nat :=
  let a := r.key
  if a < 0x40000 then none
  else if a < 0x50000 then some 27
  else if a < 0x60000 then some 28
  else if a < 0x70000 then (if 0x60040 ≤ a ∧ a < 0x60064 then none else some 21)
  else if a < 0x80000 then some 22
  else if a < 0x80200 then none
  else if a < 0x80400 then some (29 + r.i)
  else if a < 0x90000 then none
  else if a < 0xA0000 then some 24
  else if a < 0xB0000 then some 23
  else if a < 0xB1000 then none
  else if a < 0x100000 then some (25 + r.i / 8)
  else if a < 0x180000 then some r.i
  else if a < 0x180800 then some 16
  else if a < 0x200000 then none
  else if a < 0x300000 then some (portBlock r.i)
  else if a < 0x400000 then none
  else if a < 0x500000 then some 17
  else if a < 0x600000 then some 18
  else if a < 0x700000 then some 20
  else if a < laneSpace then some 19
  else if r.i < 32 then some (8 + r.i / 4)
  else if r.i < 40 then some (29 + laneLink r.i)
  else some (r.i - 8)

/-- The counter block that event 0x06 counts for a register (R398, R402). -/
def regCtr (r : Reg) : Option Nat :=
  match regBlk r with
  | some b => some b
  | none =>
    let a := r.key
    if 0x10000 ≤ a ∧ a < 0x30000 then some 36
    else if 0x30000 ≤ a ∧ a < 0x40000 then some 35
    else if 0x60000 ≤ a ∧ a < 0x70000 then some 37
    else if 0x80000 ≤ a ∧ a < 0x90000 then some 39
    else if 0x180000 ≤ a ∧ a < 0x200000 then some 16
    else none

/-- The register's domain is powered down, or its lane is OFF or disabled (R40, R146). -/
def regAsleep (s : State) (r : Reg) : Bool :=
  if r.key < laneSpace then (match regDom r with
    | some d => domDown s d
    | none => false)
  else laneMode s r.i == 0 || (s.lane r.i).st == .off

/-- The wrapper of the register's block is closed (R104). -/
def regClosed (s : State) (r : Reg) : Bool :=
  match regBlk r with
  | some b => closed s b
  | none => false

/-- A request that a wrapper or a sleeping domain turns away: DOMAIN_OFF; a wrapper counts it (R104). -/
def turnedAway (s : State) (r : Reg) : Option State :=
  if regClosed s r then (match regBlk r with
    | some b => some (isoError s b)
    | none => some s)
  else if regAsleep s r then some s
  else none

/-- An operation reaches a register of its block (R402). -/
def touched (s : State) (r : Reg) : State :=
  match regCtr r with
  | some b => occ s b 0x06 0
  | none => s

/-! ## Reads -/

/-- RST_BLOCK_STATE_n. -/
def blockStates (s : State) (n : Nat) : Word :=
  (List.range 8).foldl (fun w i =>
    let b := 8 * n + i
    if b > 36 then w else
    let x := s.blk b
    let c : Nat := if !blkPresent s b then 5 else match x.st with
      | .run => 0
      | .isolating => 1
      | .held => 2
      | .releasing => 3
      | .clockFail => 4
    w ||| put (4 * i) 3 c ||| bitw (4 * i + 3) x.relPend) 0

/-- HOT_DOM_STATE_n. -/
def domStates (s : State) (n : Nat) : Word :=
  (List.range 8).foldl (fun w i =>
    let d := 8 * n + i
    if d > 235 then w else
    let x := s.dom d
    let c : Nat := if !domPresent s d then 5 else match x.st with
      | .off => 0
      | .retained => 1
      | .waking => 2
      | .on => 3
      | .sleeping => 4
    w ||| put (4 * i) 3 c ||| bitw (4 * i + 3) x.pend.isSome) 0

/-- HOT_PORT_PWR_p with PSTATE. -/
def portPwr (s : State) (p : Nat) : Word :=
  let m := s.mac p
  s.rw .HOT_PORT_PWR p ||| put 24 3
    (if !m.link then 0 else if s.hot.doze.contains p then 5 else if m.txLpi && m.rxLpi then 4
      else if m.txLpi then 2 else if m.rxLpi then 3 else 1)

/-- EVT_CTX_STATE. -/
def ctxStates (s : State) : Word :=
  (List.range 8).foldl (fun w c =>
    w ||| bitw (4 * c + 2) (s.evt.srcs.any (fun x => x.2.offered == some c)) |||
      bitw (4 * c + 1) (s.evt.dormHost.testBit c) ||| bitw (4 * c) (s.evt.dormLane.testBit c)) 0

/-- EVT_LEVEL_n. -/
def levelBits (n : Nat) : Word := (List.range 32).foldl (fun w i => w ||| bitw i (srcLevel (32 * n + i))) 0

/-- A signed credit in bytes, rounded down. -/
def creditW (c : Int) : Word := wOfInt (c / 8000000)

/-- TK_HOLD_TIME. -/
def holdTime (s : State) : Word :=
  match s.time.holdTick with
  | some t => wd (min 0xFFFFFFFF ((s.time.ticks - t) / 250000000))
  | none => 0

/-- CTL_CTX_LAST_c. -/
def ctxLast (s : State) (c : Nat) : Word :=
  match mfind s.ctl.caches c with
  | some x => bitw 16 true ||| put 0 16 x.id
  | none => 0

/-- The bits of a stored register word that a host reads.  Reserved bits read as zero (R7), also where their value is kept because it
leaves traffic or a count open (R19, R200, R304, R410). -/
def readMask (s : State) (r : Reg) : Word :=
  match r.f with
  | .CLS_S0_DEF_W1 | .CLS_S0_DEF_W2 | .RED_PAIR_CFG | .RED_PAIR_PORTS | .RED_CFG | .RED_FRER_RESET => r.f.row.mask
  | .RED_RTAG_PORTS => maskBits s r.i
  | .PCT_CFG => if r.j % 2 = 0 then r.f.row.mask &&& 0xFF7FFFFF else r.f.row.mask
  | _ => 0xFFFFFFFF

/-- What the device computes for a register that it does not store; the stored word of every other one. -/
def regValue (s : State) (ctx : Nat) (r : Reg) : Word :=
  let i := r.i
  let j := r.j
  match r.f with
  | .DEV_IDENT => devIdent s
  | .DEV_ROAST_STATUS => s.reg r ||| bitw 7 s.boot.fuseFail
  | .DEV_TEMP => devTemp s
  | .RST_BOOT_TICKS => wd s.boot.ticks
  | .RST_BLOCK_STATE => blockStates s i
  | .HOT_CLK_GOOD => wd s.hot.clk
  | .HOT_DOZE_NEED => put 0 20 (dozeNeed s)
  | .HOT_TICK => wd s.hot.tick
  | .HOT_DOM_STATE => domStates s i
  | .HOT_PORT_PWR => portPwr s i
  | .CTL_UPD_ARMED => updArmed s
  | .CTL_CTX_LAST => ctxLast s i
  | .EVT_CTX_STATE => ctxStates s
  | .EVT_PEND => srcBits s i (fun x => x.st == .pending)
  | .EVT_CLAIMED => srcBits s i (fun x => x.st == .claimed)
  | .EVT_OUT => srcBits s i (fun x => x.offered.isSome)
  | .EVT_LEVEL => levelBits i
  | .PCT_VAL_LO => wd (pctHeld s ctx (8 * i + j))
  | .PCT_VAL_HI => put 0 16 (nfld (pctHeld s ctx (8 * i + j)) 32 16)
  | .TK_STATE => tkState s
  | .TK_FREQ => tkFreq s
  | .TK_INTEGRAL => tkIntegral s
  | .TK_TIME => (mget [] s.time.latch ctx).getD i 0
  | .TIO_PPS_IN => (mget [] s.time.latchP ctx).getD i 0
  | .TK_HOLD_TIME => holdTime s
  | .TWN_STATE => twnState s
  | .TWN_OUT_CORR => put 0 16 (unsgn 16 s.time.corr)
  | .TWN_SNAP_AGE => wd (snapAge s)
  | .TWN_FLASH_STATUS => flashStatus s
  | .LBM_FREE => wd (lbmFree s i)
  | .LBM_USED => wd (lbmUsed s i j)
  | .EPT_HOLD_USED => wd (holdUsed s)
  | .EPT_PENDING => wd s.ept.launches.length
  | .LCH_SUMMARY => chanSummary s
  | .LCH_STATE => chanState s i
  | .MAC_CFG => if i < 128 then s.reg r else s.reg r ||| bitw 31 true
  | .MAC_STATE => macState s i
  | .MAC_MM_STATUS => macMmStatus s i
  | .LN_IND_ADDR => s.reg r &&& 0x003F0FFF
  | .LN_CFG => laneRec s i
  | .LN_STATE => laneState s i
  | .LN_PRBS_ERR => if (s.lane i).st = .test then s.reg r else s.reg r &&& 0x7FFFFFFF
  | .LN_EYE_CMD => s.reg r ||| bitw 30 (s.lane i).eyeBusy
  | .LN_EYE_DATA => if (s.lane i).eyeSat then 0xFFFFFFFF else mget 0 (s.lane i).eye j
  | .CAR_POOL => put 0 20 (carFree s)
  | .CAR_OWED => put 0 20 (carOwed s)
  | .CAR_BANK_FREE => put 0 16 (bankFree s i)
  | .CAR_P_USED => put 0 20 (excessP s i)
  | .CAR_Q_USED => put 0 20 (usedQ s (queueAt i).1 (queueAt i).2)
  | .SCH_STATE => schState s i
  | .SCH_GATES => put 0 16 (gatesNow s i)
  | .SCH_PORT_CREDIT => creditW ((schSync s i).sch i).portCredit
  | .SCH_Q_CREDIT => creditW (mget 0 ((schSync s i).sch i).credit j)
  | .TBL_RES => mget 0 s.tbl.res (16 * ctx + i)
  | .TBL_STATUS => tblStatus s
  | .FDB_COUNT => fdbCount s
  | .RED_NODE_COUNT => wd (nodeCount s)
  | _ => if r.f.row.acc = .wa then 0 else s.reg r &&& readMask s r

/-- What a read latches first (R309, R405). -/
def readLatch (s : State) (ctx : Nat) (r : Reg) : State :=
  match r.f with
  | .TK_TIME => if r.i = 0 then { s with time := { s.time with latch := mins s.time.latch ctx s.time.now.words } } else s
  | .TIO_PPS_IN =>
    if r.i = 0 then
      { s with time := { s.time with latchP := mins s.time.latchP ctx ((List.range 4).map (fun k => s.rw .TIO_PPS_IN k)) } }
    else s
  | .PCT_VAL_HI => pctLatch s ctx (8 * r.i + r.j)
  | _ => s

/-! ## Windows (R52) -/

/-- The register that holds the address of a data window. -/
def windowAddr (f : Fam) : Option Fam :=
  match f with
  | .LN_IND_DATA => some .LN_IND_ADDR
  | .HOT_IND_DATA => some .HOT_IND_ADDR
  | .CAR_IND_DATA => some .CAR_IND_ADDR
  | .TBL_IND_DATA => some .TBL_IND_ADDR
  | _ => none

/-- An indirect address lies in the range of the lane window (R52). -/
def laneRange (a : Nat) : Bool := decide (a < 0x2A0000) && decide (a % 0x10000 < 0x1000)

/-- The lane register at an indirect address of the lane window; `none` outside its range, and where no register is assigned. -/
def laneWord (a : Nat) : Option Reg := if laneRange a then decodeAddr (laneSpace + a) else none

/-- A word of the local store whose format the spec does not give: the descriptors and free lists in the last 64 KiB, and a line
channel's ring buffer (R354; log entry 89). -/
def storeOpen (s : State) (a : Nat) : Bool :=
  decide (3 * 262144 + 245760 ≤ a) || (List.range 16).any (fun c => match (s.chan c).pool with
    | some b => decide (bufBase b ≤ a) && decide (a < bufBase b + poolWords (b % 4))
    | none => false)

/-- A word of a window read at indirect address `a`: `none` for DOMAIN_OFF.  An address outside the range gives a free value
(R60), and so do the lane words 0x010 to 0x7FF (R148); a lane word without a register reads as zero (R41). -/
def windowRead (s : State) (f : Fam) (a : Nat) : Option (Word × State) :=
  let open_ : Option (Word × State) := some (Config.freeW s.freeCtr, s.drawn)
  match f with
  | .LN_IND_DATA =>
    if a < 0x2A0000 && laneFused s (a / 0x10000) then some (0, s) else
    match laneWord a with
    | some r =>
      if (turnedAway s r).isSome then none else
      let s := laneCatchUp s r.i
      some (regValue s 0 r, touched s r)
    | none =>
      if a < 0x2A0000 && regAsleep s ⟨.LN_CFG, a / 0x10000, 0⟩ then none
      else if laneRange a && decide (a % 0x10000 < 0x10) then some (0, s) else open_
  | .HOT_IND_DATA =>
    if a ≥ 65536 then open_
    else some (s.ramW a, ramEcc s (· == a))
  | .CAR_IND_DATA =>
    if a ≥ 2 ^ 24 then open_
    else if domDown s (186 + a / 32 / 32768) then none
    -- the whole cell is read, and an error that stands in it is met (R230, R233)
    else some (wordAt (mget [] s.car.mem (a / 32)) (a % 32), cellRead s (a / 32))
  | _ =>
    if a ≥ 6291456 then open_
    else if domDown s (tblDom a) then none
    else if 5242880 ≤ a then (if storeOpen s (a - 5242880) then open_ else some (lbmW s (a - 5242880), s))
    else
      -- the word TOKENS of a policer is brought up to date (R279)
      let p := entryAddr s 7 0
      let s := if p ≤ a ∧ (a - p) / 8 < regionSize s 7 ∧ (a - p) % 8 = 3 then meterSync s ((a - p) / 8) else s
      some (s.tw a, s)

/-! ## Writes -/

/-- The bits of a register that a host write can change: its unreserved bits, and in a port mask those of ports that exist (R3, R15);
and the reserved bits that are kept for what they leave open (`readMask`). -/
def writeMask (s : State) (r : Reg) : Word :=
  match r.f with
  | .PCT_TEL_PORTS => maskBits s r.i
  | .RED_RTAG_PORTS => maskBits s r.i ||| (if r.i = 4 then 0xC0 else 0)
  | .CLS_S0_DEF_W1 | .CLS_S0_DEF_W2 | .RED_PAIR_CFG | .RED_PAIR_PORTS | .RED_CFG | .RED_FRER_RESET => 0xFFFFFFFF
  | .HOT_DOM_MODE => if r.i = 14 then 0x00FFFFFF else r.f.row.mask
  | .PCT_TEL_BLOCKS => if r.i = 1 then 0xFF else r.f.row.mask
  | .SCH_GATE_CTRL => if gclUnits s r.i = 0 then 0xFFFF else r.f.row.mask
  | _ => r.f.row.mask

/-- The word holds an encoding that the register's chapter reserves (R7, R60). -/
def reservedEnc (r : Reg) (w : Word) : Bool :=
  match r.f with
  | .CAR_Q_CFG => 10 ≤ fld w 16 4 && fld w 16 4 ≤ 14
  | .RED_PAIR_CFG => fld w 29 2 == 3
  | .TK_PSTATE => (List.range 16).any (fun i => fld w (2 * i) 2 == 3)
  | .TK_SERVO_SRC => fld w 30 2 == 3
  | .LCH_CFG => fld w 29 2 == 3
  | .CLS_S0_DEF_W1 => fld w 27 2 == 3
  | .HOT_DOM_MODE => (List.range 16).any (fun i => fld w (2 * i) 2 == 3)
  | .LN_TEST => fld w 30 2 == 3 || fld w 24 4 > 5 || fld w 16 4 > 5
  | _ => false

/-- The word that a write leaves in an RW or RWU register: reserved bits read as zero, and a reserved encoding leaves a free
value, but in the Hotplate and in guard state, which stay as they are (R7, R59, R60; log entry 6). -/
def written_ (s : State) (r : Reg) (w : Word) : Word × State :=
  let m := writeMask s r
  if !reservedEnc r w then (w &&& m, s)
  else if isGuardReg s r || r.f == .HOT_DOM_MODE then (s.reg r, s)
  else
    let t := match regBlk r with
      | some b => blockWild s b
      | none => s
    (Config.freeW t.freeCtr &&& m, t.drawn)

/-- Readings that nothing brings: the free measurements of a self-test that a plain write starts (R425; log entry 1). -/
def freeMeasured (s : State) : Measured × State :=
  let n := s.freeCtr
  ({ hbRate := Config.free n, hbBack := Config.free (n + 1) % 2 == 1
     watch := [(Config.free (n + 2) : Int) - (Config.free (n + 3) : Int)]
     claimHigh := Config.free (n + 4) % 2 == 1, peerHigh := Config.free (n + 5) % 2 == 1
     ramOk := Config.free (n + 6) % 2 == 1 }, { s with freeCtr := n + 7 })

/-- A write of MAC_CFG (R171, R172): PORT_EN enables and disables a front port, and image records leave it
alone (R75); host ports leave PORT_EN and DRAIN alone. -/
def macCfgWrite (s : State) (p : Nat) (w : Word) (image : Bool) : State :=
  let old := s.rw .MAC_CFG p
  if p ≥ 128 then s.wr .MAC_CFG p 0 ((w &&& 0x3FFFFFFF) ||| (old &&& 0x40000000))
  else if image then s.wr .MAC_CFG p 0 ((w &&& 0x7FFFFFFF) ||| (old &&& 0x80000000))
  else
    let s := s.wr .MAC_CFG p 0 w
    if tst w 31 then portEnableFx s p else portDisableFx s p

/-- A write-action register (R464). -/
def actWrite (s : State) (ctx : Nat) (r : Reg) (w : Word) : State :=
  match r.f with
  | .HOT_DOM_CMD => domCmd s w
  | .EVT_CTX_CMD => ctxCmd s w
  | .PCT_CMD => pctCmd s w
  | .TK_CMD => tkCmd s w
  | .TWN_CMD =>
    if fld w 29 3 = 3 then
      let m := freeMeasured s
      twnCmd m.2 w m.1
    else twnCmd s w { hbRate := 0, hbBack := false, watch := [], claimHigh := false, peerHigh := false, ramOk := false }
  | .TWN_FLASH_CMD => flashCmd s w
  | .TBL_REQ => setReq s ctx r.i [w]
  | _ => s

/-- An RW register takes word `w`, already masked, with what the write sets off (R47). -/
def rwWrite (s : State) (r : Reg) (w : Word) (image : Bool) : State :=
  match r.f with
  | .HOT_WAKE_BUDGET => dozeRecheck (s.setReg r w)
  | .HOT_PORT_PWR => portPwrWrite s r.i w
  | .HOT_DOM_MODE => domModeWrite s r.i w
  | .EVT_CFG => deliverEnWrite s w
  | .EVT_TGT => targetWrite s r.i w
  | .DRIP_RATE => dripRate s r.i w
  | .DRIP_BURST => dripBurst s r.i w
  | .LBM_RES => if r.i = 0 then s else s.setReg r w
  | .MAC_CFG => macCfgWrite s r.i w image
  | .MAC_EEE_CFG => eeeWrite s r.i w
  | .MAC_EEE_TW => dozeRecheck (s.setReg r w)
  | .LN_TX_TAPS => tapsWrite s r.i w
  | .LN_TEST => testWrite s r.i w
  | .LN_EYE_CMD => eyeWrite s r.i w
  | _ => s.setReg r w

/-- A register is written, its guard and its domain having been judged (R464). -/
def regWrite (s : State) (ctx : Nat) (r : Reg) (w : Word) (image : Bool) : State :=
  match r.f.row.acc with
  | .ro => s
  | .sq => s.setReg r (sqClear (s.reg r) w)
  | .wa => actWrite s ctx r w
  | .gw => if tst w 0 && !guardSealed s then sealGuard s else s
  | .rwu =>
    let x := written_ s r w
    let t := x.2.setShadow r x.1
    if r.f = .MAC_MM_CFG then t.setMac r.i { (t.mac r.i) with mmWr := true } else t
  | .rw =>
    if r.f = .LN_TEST ∨ r.f = .LN_EYE_CMD then
      (if reservedEnc r w then rwWrite s.drawn r (Config.freeW s.freeCtr) image else rwWrite s r w image)
    else let x := written_ s r w; rwWrite x.2 r x.1 image

/-- A write outside the lane window's range: every word that a write reaches through the window may take a free value, the taps
within what R133 allows (R59, R60; log entry 6). -/
def wildWrite (s : State) : State :=
  ((List.range 42).filter (fun l => !laneFused s l)).foldl (fun s l =>
    [Fam.LN_TX_TAPS, .LN_TEST, .LN_EYE_CMD].foldl (fun s f =>
      let w := Config.freeW (s.freeCtr + 1)
      let go := Config.free s.freeCtr % 2 == 1
      let s := { s with freeCtr := s.freeCtr + 2 }
      if !go || regAsleep s ⟨f, l, 0⟩ then s
      else match f with
        | .LN_TX_TAPS => tapsWrite s l w
        | .LN_TEST => testWrite s l (w &&& 0x45050000)
        | _ => eyeWrite s l (w &&& 0x1F)) s) s

/-- A word of a window written at indirect address `a`: `none` for DOMAIN_OFF (R52, R113). -/
def windowWrite (s : State) (f : Fam) (a : Nat) (w : Word) : Option State :=
  match f with
  | .LN_IND_DATA =>
    if a < 0x2A0000 && laneFused s (a / 0x10000) then some s else
    match laneWord a with
    | some r => if (turnedAway s r).isSome then none else some (regWrite (touched s r) 0 r w false)
    | none =>
      if a < 0x2A0000 && regAsleep s ⟨.LN_CFG, a / 0x10000, 0⟩ then none
      else some (if laneRange a then s else wildWrite s)
  | .HOT_IND_DATA => some (if 32768 ≤ a ∧ a < 65536 then s.setRamW a w else s)
  | _ => some s

/-- A window's address register advances (R52). -/
def windowStep_ (s : State) (f : Fam) : State :=
  match windowAddr f with
  | some g => s.wr g 0 0 (s.rw g + 1)
  | none => s

/-- One read access (R33, R41, R48): STATUS, word and state. -/
def accRead (s : State) (who : Who) (r : Reg) : Nat × Word × State :=
  match turnedAway s r with
  | some t => (stDomainOff, 0, t)
  | none =>
    match windowAddr r.f with
    | some g =>
      match windowRead s r.f (s.rn g) with
      | some x => (stOk, x.1, windowStep_ x.2 r.f)
      | none => (stDomainOff, 0, s)
    | none =>
      let s := readLatch s who.ctx r
      (stOk, regValue s who.ctx r, s)

/-- One write access (R41, R47, R55): STATUS and state. -/
def accWrite (s : State) (who : Who) (r : Reg) (w : Word) : Nat × State :=
  match guardJudge s who (isGuardReg s r) with
  | some x => x
  | none =>
    match turnedAway s r with
    | some t => (stDomainOff, t)
    | none =>
      match windowAddr r.f with
      | some g =>
        match windowWrite s r.f (s.rn g) w with
        | some t => (stOk, windowStep_ t r.f)
        | none => (stDomainOff, s)
      | none => (stOk, regWrite s who.ctx r w false)

/-- The register that an address names on the running part; `none` where a read gives zero and a write has no effect (R3, R41). -/
def regAt (s : State) (addr : Nat) : Option Reg :=
  if addr ≥ laneSpace then none else (decodeAddr addr).filter (regPresent s)

/-- The error that a read through CAR_IND_DATA at register address `addr` is the first to meet stands in its cell (R230). -/
def windowMeets (s : State) (addr : Nat) (ecc : Option Bool) : State :=
  match ecc, regAt s addr with
  | some e, some ⟨.CAR_IND_DATA, i, j⟩ =>
    let a := s.rn .CAR_IND_ADDR
    if (turnedAway s ⟨.CAR_IND_DATA, i, j⟩).isNone && decide (a < 2 ^ 24) && !domDown s (186 + a / 32 / 32768)
    then cellBad s (a / 32) e else s
  | _, _ => s

/-- READ (R33): STATUS, word and state. -/
def hostRead (s : State) (who : Who) (addr : Nat) : Nat × Word × State :=
  match regAt s addr with
  | none => (stOk, 0, s)
  | some r => accRead (touched s r) who r

/-- WRITE (R33): STATUS and state. -/
def hostWrite (s : State) (who : Who) (addr : Nat) (w : Word) : Nat × State :=
  match regAt s addr with
  | none => (stOk, s)
  | some r => accWrite (touched s r) who r w

/-- RMW (R34): STATUS, old value and state. -/
def hostRmw (s : State) (who : Who) (addr : Nat) (mask value : Word) : Nat × Word × State :=
  match regAt s addr with
  | none => (stOk, 0, s)
  | some r =>
    let s := touched s r
    match guardJudge s who (isGuardReg s r && r.f.row.acc != .ro) with
    | some x => (x.1, 0, x.2)
    | none =>
      match turnedAway s r with
      | some t => (stDomainOff, 0, t)
      | none =>
        match windowAddr r.f with
        | some g =>
          match windowRead s r.f (s.rn g) with
          | none => (stDomainOff, 0, s)
          | some x =>
            match windowWrite x.2 r.f (s.rn g) ((x.1 &&& ~~~mask) ||| (value &&& mask)) with
            | some t => (stOk, x.1, windowStep_ t r.f)
            | none => (stDomainOff, 0, s)
        | none =>
          let s := readLatch s who.ctx r
          let old := regValue s who.ctx r
          (stOk, old, regWrite s who.ctx r ((old &&& ~~~mask) ||| (value &&& mask)) false)

/-- `n` reads of one register; a stop with DOMAIN_OFF ends them (R52). -/
def readMany : Nat → State → Who → Reg → Nat × List Word × State
  | 0, s, _, _ => (stOk, [], s)
  | n + 1, s, who, r =>
    let x := accRead s who r
    if x.1 ≥ 0x10 then (x.1, [], x.2.2)
    else
      let y := readMany n x.2.2 who r
      (y.1, x.2.1 :: y.2.1, y.2.2)

/-- BURST_READ (R52): STATUS, the words read and the state. -/
def burstRead (s : State) (who : Who) (window : Nat) (start : Word) (n : Nat) : Nat × List Word × State :=
  let begin_ : Nat × State := match regAt s window with
    | none => (stOk, s)
    | some r =>
      let s := touched s r
      if [.LN_IND_ADDR, .HOT_IND_ADDR, .CAR_IND_ADDR, .TBL_IND_ADDR].contains r.f then
        match turnedAway s r with
        | some t => (stDomainOff, t)
        | none => (stOk, s.setReg r start)
      else accWrite s who r start
  if begin_.1 ≥ 0x10 then (begin_.1, [], begin_.2)
  else match regAt begin_.2 (window + 4) with
    | none => (stOk, List.replicate n 0, begin_.2)
    | some r => readMany n begin_.2 who r

/-- A list of writes of one register: STATUS, how many were done, and the state (R52). -/
def writeMany : List Word → State → Who → Reg → Nat × Nat × State
  | [], s, _, _ => (stOk, 0, s)
  | w :: t, s, who, r =>
    let x := accWrite s who r w
    if x.1 ≥ 0x10 then (x.1, 0, x.2)
    else
      let y := writeMany t x.2 who r
      (y.1, y.2.1 + 1, y.2.2)

/-- BURST_WRITE (R52, R55): STATUS, the words written and the state.  A guard register that it would reach is judged before
anything is written. -/
def burstWrite (s : State) (who : Who) (window : Nat) (start : Word) (data : List Word) : Nat × Nat × State :=
  let a := regAt s window
  let d := regAt s (window + 4)
  let guard (r : Option Reg) : Bool := match r with
    | some r => isGuardReg s r
    | none => false
  match guardJudge s who (guard a || guard d) with
  | some x => (x.1, 0, x.2)
  | none =>
    let b : Nat × State := match a with
      | none => (stOk, s)
      | some r => accWrite (touched s r) who r start
    if b.1 ≥ 0x10 then (b.1, 0, b.2)
    else match d with
      | none => (stOk, data.length, b.2)
      | some r => writeMany data b.2 who r

/-- A register record of the image (R75): as though by the guard context, whatever the domain; records reach the registers of
domains that are not yet awake. -/
def imageWrite (s : State) (addr : Nat) (w : Word) : State :=
  match regAt s addr with
  | none => s
  | some r =>
    match windowAddr r.f with
    | some g =>
      let a := s.rn g
      let s := match r.f with
        | .LN_IND_DATA =>
          match laneWord a with
          | some q => if laneFused s q.i then s else regWrite s 0 q w true
          | none => if laneRange a then s else wildWrite s
        | _ => (windowWrite s r.f a w).getD s
      windowStep_ s r.f
    | none => regWrite s 0 r w true

end Sys2Proof.Machine
end

