-- ==== Sys2Proof/Machine/Apply.lean ====
section
/-!
DEFINITION. Machine/Apply.lean: the application of an accepted Roast image (03_roast_image.md R65 to R77;
05_hotplate_power.md R471), and the outputs' reset state (04_startup_reset.md R86, R87).
-/
namespace Sys2Proof.Machine

/-! ## Sections 0x01 to 0x08 (R66 to R74) -/

/-- The selectors of a key record (R71). -/
def keySels (x : Section) (i n : Nat) : List Sel :=
  (List.range n).map (fun k =>
    let w := x.w (i + 1 + k)
    { field := fld w 24 8, srcBit := fld w 16 8, keyBit := fld w 7 9, width := fld w 0 7 })

/-- The structure that the sections of one device fix (R66 to R73). -/
def roastOf (sec : Nat → Option Section) (narrowed : Bool) : Roast where
  lanes := (sec 2).elim [] (fun x => x.body)
  ports := (sec 3).elim [] (fun x => x.body)
  parts := (sec 4).elim [] partsOf
  keys := (sec 5).elim [] (fun x => (keyRecs 16 x 0).map (fun k => (k.1, fld (x.w k.2.1) 16 9, keySels x k.2.1 k.2.2)))
  guardRegions := (sec 6).elim 0 (fun x => fld (x.w 0) 0 16)
  guardRanges := (sec 6).elim [] (fun x => (List.range (x.w 1).toNat).map (fun i => ((x.w (2 + 2 * i)).toNat, (x.w (3 + 2 * i)).toNat)))
  pins := (sec 7).elim [] (fun x => x.body)
  narrowed := narrowed

/-- The identity section fills the control engine's registers (R66). -/
def applyIdentity (s : State) (x : Section) : State :=
  let s := (s.wr .CTL_ETYPE 0 0 (x.w 0)).wr .CTL_DEV_MAC_HI 0 0 (x.w 1)
  let s := (s.wr .CTL_DEV_MAC_LO 0 0 (x.w 2)).wr .CTL_GUARD_CFG 0 0 (x.w 3)
  (List.range 8).foldl (fun s c =>
    ((s.wr .CTL_CTX_CFG c 0 (x.w (4 + 3 * c))).wr .CTL_CTX_MAC_HI c 0 (x.w (5 + 3 * c))).wr .CTL_CTX_MAC_LO c 0 (x.w (6 + 3 * c))) s

/-- A lane that the boot had up takes its Roast mode: one in mode 0x0 goes idle and never powers up; one whose mode changes
starts again (R67, R87, R143). -/
def laneApply (s : State) (l : Nat) : State :=
  if (s.lane l).st = .off then s
  else if !lanePresent s l then
    let s := if isStitch l then stitchDown s (laneLink l) else s
    { s with
      lanes := mdel s.lanes l
      hot := { s.hot with doms := mdel s.hot.doms (128 + l) } }
  else if laneMode s l = (if l < 40 then 0xB else 0x6) then s
  else
    let s := reportDown s l
    leaveCold (s.setLane l ((s.lane l).toCold s.hot.tick)) l

/-! ## Default power states (R74, R471) -/

/-- The 36 boot domains (R91): 16 Carafe banks, 16 table banks, 4 local-store banks. -/
def bootDomains : List Nat := (List.range 32).map (· + 186) ++ (List.range 4).map (· + 228)


/-- Step 2 of image application (R471): every domain takes its mode, and its wake or its sleep is queued. -/
def applyPower (s : State) (x : Section) : State :=
  let s := (List.range 15).foldl (fun s n => s.wr .HOT_DOM_MODE n 0 (x.w n)) s
  (List.range 236).foldl (fun s d =>
    if !domPresent s d then s
    else if bootDomains.contains d then (if domMode s d = 0 then queueSleep s d else s)
    else if heldAwake s d || domMode s d == 2 then wake s 4 d else s) s

/-- Domain 235 and the host-lane domains that R119 holds awake are awake, for which step 5 of R77 waits (R471). -/
def heldReady (s : State) : Bool :=
  [168, 169, 221, 222, 235].all (fun d => !heldAwake s d || !domPresent s d || domOn s d)

/-- Table banks without granules, and domains without a resource, are powered down at the end (R70, R74). -/
def absentDown (s : State) : State :=
  { s with hot := { s.hot with
    doms := s.hot.doms.filter (fun x => domPresent s x.1)
    queue := s.hot.queue.filter (fun r => domPresent s r.dom) } }

/-! ## Register and table records (R75, R76) -/

/-- A read-modify-write record (R34, R75). -/
def imageRmw (s : State) (addr : Nat) (mask value : Word) : State :=
  match regAt s addr with
  | none => s
  | some r =>
    let old := match windowAddr r.f with
      | some g =>
        -- the registers of a lane that is OFF are reached by the image, like those of every sleeping domain
        match (if r.f = .LN_IND_DATA then (laneWord (s.rn g)).filter (fun q => !laneFused s q.i) else none) with
        | some q => regValue s 0 q
        | none => ((windowRead s r.f (s.rn g)).map (·.1)).getD 0
      | none => regValue s 0 r
    imageWrite s addr ((old &&& ~~~mask) ||| (value &&& mask))

/-- One register record.  A burst names its window's address register and brings no start address: its words go where IND_ADDR
stands, to the register after the one named (DESIGN CHOICE, log entry 85). -/
def applyReg (s : State) (r : RegRec) : State :=
  match r.kind with
  | 0 => imageWrite s r.addr (r.ws.getD 0 0)
  | 1 => imageRmw s r.addr (r.ws.getD 0 0) (r.ws.getD 1 0)
  | _ => (r.ws.drop 1).foldl (fun s w => imageWrite s (r.addr + 4) w) s

/-- One entry of a table record: at its index, or by its hash in the FDB. -/
def applyEntry (s : State) (r i : Nat) (guard : Bool) (ws : List Word) : State :=
  let ws := if guard then setBit ws (gBit r) true else ws
  if r ≠ 0 then hostPut s r i ws
  else
    let key := entryKey 0 ws % keyMask s 0
    match (match (findKey s 0 key).1 with
      | some k => some k
      | none => freePlace s 0 key) with
    | some k => hostPut s 0 k ws
    | none => s

/-- One table record. -/
def applyTbl (s : State) (q : TblRec) : State :=
  (chunks q.count q.words q.ws).zipIdx.foldl (fun s e => applyEntry s q.region (q.index + e.2) q.guard e.1) s

/-! ## The whole application (R77) -/

/-- Image application ends: every bucket and credit is full, the strobe of all groups fires, guard shadows included, and the
device is in service (R77, R94, R198, R263). -/
def enterRunning (s : State) : State :=
  let full := (schFill (copyShadows s (fun _ => true))).schs
  let s := dripFill { s with schs := full }
  let s := absentDown s
  let s := { s with boot := { s.boot with st := .running, image := [], applied := false } }
  refreshDormant (strobe s 0xFFFF true s.now)

/-- Step 5 of R77 comes once steps 1 to 4 are done and the domains that Running needs are awake (R471). -/
def bootGo (s : State) : State := if s.boot.st = .apply ∧ s.boot.applied ∧ heldReady s then enterRunning s else s

/-- IMAGE_APPLY: the accepted image is applied section by section (R77). -/
def imageApply (s : State) : State :=
  if s.boot.st ≠ .apply ∨ s.boot.applied then s else
  let img := s.boot.image
  let h := imgHead img
  let ss := (sections h.sections ((img.take (h.len - 4)).drop 64) 64 (h.len - 4)).1
  let sec (t : Nat) : Option Section := secFor ss t (devNo s)
  let s := { s with roast := roastOf sec (s.boot.fuses.part == 0x9128 && h.part == 0x9064) }
  let s := (sec 1).elim s (applyIdentity s)
  let s := (List.range 10).foldl (fun s k => laneApply s (32 + k)) s
  let s := (sec 8).elim s (applyPower s)
  let s := (sec 9).elim s (fun x => (regRecs x.body.length x 0 x.body).1.foldl applyReg s)
  let s := (sec 10).elim s (fun x => (tblRecs x.body.length x 0 x.body).1.foldl applyTbl s)
  bootGo { s with boot := { s.boot with applied := true } }

/-! ## The outputs' reset state (R86, R87) -/

/-- Every output takes its reset state: the time outputs and the line channels are let go, the lanes are idle, the role claim is
released. -/
def outputsReset (s : State) : State :=
  let s := outputsCut s
  let s := (s.chans.filter (fun c => c.2.on)).foldl (fun s c => s.emit (.lineOff c.1)) s
  { s with
    lanes := [], macs := [], chans := [], links := [], twin := {}, schs := []
    hot := { s.hot with doms := [], queue := [], leads := [], txAsleep := [], txWaking := [], late := [], doze := [] } }

end Sys2Proof.Machine
end

