-- ==== Sys2Proof/Machine/Boot.lean ====
section
/-!
DEFINITION. Machine/Boot.lean: device resets, the boot sequencer, image sources and boot frames
(04_startup_reset.md R83 to R100; 03_roast_image.md R78, R79).
-/
namespace Sys2Proof.Machine

/-- A device reset (R101): everything returns to its reset value but what the table of R101 keeps.  The queue of
commands, the free-value counter and the record of what left the device are the model's own and stay. -/
def deviceReset (s : State) : State :=
  let e := Config.freeW s.freeCtr
  ({ State.reset with
    pending := s.pending
    freeCtr := s.freeCtr + 1
    out := (outputsReset s).out
    jtag := s.jtag }).wr .CTL_GUARD_EPOCH 0 0 e

/-- Power-on reset, held until VDD_HOT and XO_IN are good (R85, R94): the retention RAM is zeroed and the fuse load
starts.  The fuse shadow is reloaded by the load that follows. -/
def powerOnReset (s : State) : State :=
  let t := deviceReset s
  { t with boot := { t.boot with st := .fuse } }

/-- A RESET_N assertion acts (R84, R101): a full device reset that keeps the fuse shadow, the retention RAM, the
cause registers and HOT_TICK, and sets PIN.  One that falls in the fuse load ends it, and the boot that follows goes on from Rails
with the shadow as it is (R93; DESIGN CHOICE, log entry 86). -/
def resetNAssert (s : State) : State :=
  let t := deviceReset s
  let t := { t with
    boot := { t.boot with st := .reset, fuses := s.boot.fuses, fuseFail := s.boot.fuseFail }
    temp := s.temp
    hot := { t.hot with tick := s.hot.tick, ram := s.hot.ram, ramBad := s.hot.ramBad, clk := s.hot.clk % 8,
                        good0 := s.hot.good0, good1 := s.hot.good1 } }
  let t := t.wr .RST_CAUSE 0 0 (s.rw .RST_CAUSE)
  let t := ((t.wr .RST_BLOCK_CAUSE 0 0 (s.rw .RST_BLOCK_CAUSE 0)).wr .RST_BLOCK_CAUSE 1 0 (s.rw .RST_BLOCK_CAUSE 1)).wr
    .RST_BLOCK_CAUSE 2 0 (s.rw .RST_BLOCK_CAUSE 2)
  let t := (t.wr .RST_RAIL_FAULT 0 0 (s.rw .RST_RAIL_FAULT)).wr .RST_STRAPS 0 0 (s.rw .RST_STRAPS)
  t.setFlags .RST_CAUSE 0 0 2

/-- RESET_N has read high for 4 ticks (R84, R93): the boot begins at the Rails state, its ticks at 0. -/
def resetNRelease (s : State) : State :=
  if s.boot.st = .reset then { s with boot := { s.boot with st := .rails, ticks := 0 } } else s

/-- A supervised rail is lost (R86): 0 CORE, 1 SRAM, 2 SDA, 3 SDT, 4 IO.  After the Rails state the device enters
Rail-fault with every output in its reset state. -/
def railLoss (s : State) (rail : Nat) : State :=
  if rail > 4 then s else
  match s.boot.st with
  | .reset | .fuse | .rails => s
  | .railFault => s.setFlags .RST_RAIL_FAULT 0 0 (1 <<< rail)
  | .clocks | .load | .apply | .running | .bootFailed =>
    outputsReset ({ s with boot := { s.boot with st := .railFault } }.setFlags .RST_RAIL_FAULT 0 0 (1 <<< rail))

/-- The fuse load completes (R94, R95): the fuse shadow takes the fuses, or FUSE_FAIL is set. -/
def fuseLoadDone (s : State) (f : Fuses) (pass : Bool) : State :=
  if s.boot.st = .fuse then { s with boot := { s.boot with st := .rails, fuses := f, fuseFail := !pass } } else s

/-- RST_STRAPS (R96, R453). -/
def strapsWord (x : Straps) : Word := bitw 4 x.twinId ||| put 2 2 x.bsetId ||| put 0 2 x.bootSrc

/-- All five rails are good (R94): the straps are sampled. -/
def railsGood (s : State) (x : Straps) : State :=
  if s.boot.st = .rails then
    { s with boot := { s.boot with st := .clocks } }.wr .RST_STRAPS 0 0 (strapsWord x)
  else s

/-- A fault word: code and byte offset (DEV_ROAST_FAULT_A, _B). -/
def faultWord (code off : Nat) : Word := put 24 8 code ||| put 0 23 off

/-- Both fault registers read NOT_TRIED. -/
def notTried (s : State) : State :=
  (s.wr .DEV_ROAST_FAULT_A 0 0 (faultWord 0x0D 0)).wr .DEV_ROAST_FAULT_B 0 0 (faultWord 0x0D 0)

/-- The host lanes and their interfaces are woken (R95, R97). -/
def wakeHostLanes (s : State) : State := [168, 169, 221, 222].foldl (fun s d => wake s 4 d) s

/-- The lanes of S0 go back to their reset state (R100). -/
def stitchCut (s : State) : State :=
  let gone (d : Nat) : Bool := (160 ≤ d && d < 164) || d == 224
  { s with
    lanes := s.lanes.filter (fun x => decide (40 ≤ x.1))
    links := []
    hot := { s.hot with
      doms := s.hot.doms.filter (fun x => !gone x.1)
      queue := s.hot.queue.filter (fun r => !gone r.dom) } }

/-- Entry into Boot-failed (R100): only H0 and H1 stay alive. -/
def bootFailed (s : State) : State :=
  wakeHostLanes (stitchCut { s with boot := { s.boot with st := .bootFailed, rx := [], rxFrom := none } })

/-- The PLLs are locked and stable (R94): the boot domains are woken and the image load begins, or the device
enters Boot-failed after a failed fuse check (R95).  A host-link boot wakes the host lanes (R97), a stitch-link
boot lanes T0 to T3 (R99). -/
def bootClocksLocked (s : State) : State :=
  if s.boot.st ≠ .clocks then s else
  let s := notTried (setClk s (s.hot.clk ||| 0x18))
  let s := { s with time := { s.time with pllLost := false, begun := true } }
  if s.boot.fuseFail then bootFailed s
  else
    let s := bootDomains.foldl (fun s d => wake s 4 d) { s with boot := { s.boot with st := .load } }
    if bootSrc s = 1 then wakeHostLanes s
    else if bootSrc s = 2 then [160, 161, 162, 163, 224].foldl (fun s d => wake s 4 d) s else s

/-- The PLLs have not locked within 2 ms (R94). -/
def clockLockTimeout (s : State) : State :=
  if s.boot.st = .clocks then bootFailed (notTried s) else s

/-- DEV_ROAST_STATUS and the report registers of an accepted image (R80). -/
def reportImage (s : State) (img : Bytes) (src : Nat) (fallback : Bool) : State :=
  let h := imgHead img
  let nar := s.boot.fuses.part == 0x9128 && h.part == 0x9064
  let s := s.wr .DEV_ROAST_STATUS 0 0 (bitw 6 nar ||| bitw 5 fallback ||| bitw 4 h.signed ||| put 0 4 src)
  let s := (s.wr .DEV_ROAST_LENGTH 0 0 (wd h.len)).wr .DEV_ROAST_CRC 0 0 (wd (beAt img (h.len - 4) 4))
  (s.wr .DEV_ROAST_BUILD_HI 0 0 (wd (h.build / 2 ^ 32))).wr .DEV_ROAST_BUILD_LO 0 0 (wd h.build)

/-- The fault word of a verdict; an offset that the spec does not state is a free value (R80; log entry 9). -/
def verdictWord (s : State) (v : Verdict) : Word × State :=
  match v with
  | .accept => (0, s)
  | .fault c (some o) => (faultWord c o, s)
  | .fault c none => (faultWord c (Config.free s.freeCtr), { s with freeCtr := s.freeCtr + 1 })

/-- An image is accepted from source `src` (R94). -/
def acceptImage (s : State) (img : Bytes) (src : Nat) : State :=
  reportImage { s with boot := { s.boot with st := .apply, image := img, src := src, rx := [], rxFrom := none } }
    img src (src == 2)

/-- Bytes of an image under check are staged in the Carafe from byte `off` on (R78); which cells hold it is an implementation's
choice. -/
def stage : Nat → State → Nat → Bytes → State
  | 0, s, _, _ => s
  | n + 1, s, off, d =>
    if d = [] then s
    else
      let k := 128 - off % 128
      stage n (writeCell s (Config.stageCell (off / 128) % 524288) (off % 128) (d.take k)) (off + k) (d.drop k)

/-- An image source in flash has been read and its checks complete (R78, R79): slot A, then slot B for BOOT_SRC 0.
`image` is `none` where the flash does not answer. -/
def imageCheck (s : State) (image : Option Bytes) : State :=
  if s.boot.st ≠ .load ∨ bootSrc s = 1 ∨ bootSrc s = 2 then s else
  let v := match image with
    | none => .fault 0x01 (some 0)
    | some b => imageVerdict s.boot.fuses (devNo s) b
  let s := match image with
    | none => s
    | some b => stage (b.length + 1) s 0 b
  let w := verdictWord s v
  let s := w.2.wr (if w.2.boot.slotB then .DEV_ROAST_FAULT_B else .DEV_ROAST_FAULT_A) 0 0 w.1
  match v, image with
  | .accept, some b => acceptImage s b (if s.boot.slotB then 2 else 1)
  | _, _ =>
    if bootSrc s = 0 ∧ !s.boot.slotB then { s with boot := { s.boot with slotB := true } }
    else bootFailed s

/-- The address the device uses in boot frames (R95, R98). -/
def bootAddr (s : State) : Nat :=
  if s.boot.fuseFail then 0x021AFFFFFFF0 + devNo s else s.boot.fuses.bootMac

/-- A boot frame (R97): untagged, EtherType 0x88B5, padded, with its FCS. -/
def bootFrame (da sa : Nat) (payload : Bytes) : Bytes :=
  let b := beBytes 6 da ++ beBytes 6 sa ++ beBytes 2 0x88B5 ++ payload
  let b := b ++ List.replicate (60 - b.length) 0
  b ++ fcsBytes b

/-- The device passes boot frames: a host-link boot in Load, or Boot-failed (R97, R100). -/
def bootLink (s : State) : Bool := (s.boot.st == .load && bootSrc s == 1) || s.boot.st == .bootFailed

/-- Every 10 ms a BOOT_OFFER is sent on both host lanes (R97, R98, R95). -/
def bootOffer (s : State) : State :=
  if !bootLink s then s else
  let st := if s.boot.fuseFail then 2 else if s.boot.st = .load then 4 else 7
  let ws := [put 28 4 1 ||| put 24 4 6 ||| put 0 16 s.boot.offers, wd s.boot.rx.length, 0, devIdent s,
    s.rw .RST_STRAPS, s.rw .DEV_ROAST_FAULT_A, s.rw .DEV_ROAST_FAULT_B, wd st]
  let f := bootFrame 0xFFFFFFFFFFFF (bootAddr s) (wsBytes ws)
  let s := (s.emit (.frame 128 f)).emit (.frame 129 f)
  { s with boot := { s.boot with offers := (s.boot.offers + 1) % 65536 } }

/-- A BOOT_ACK to the source of a block (R97, R98). -/
def bootAck (s : State) (lane da seq off status code : Nat) : State :=
  s.emit (.frame (128 + lane) (bootFrame da (bootAddr s)
    (wsBytes [put 28 4 1 ||| put 24 4 5 ||| put 0 16 seq, wd off, put 0 8 status, put 24 8 code])))

/-- The header checks of R79 on the bytes received so far: a fault code at once where one fails. -/
def headFault (f : Fuses) (rx : Bytes) : Option Nat :=
  match imageVerdict f 0 (rx.take 64) with
  | .fault c _ => if 2 ≤ c ∧ c ≤ 7 then some c else none
  | .accept => none

/-- An image received over a link is rejected with a code (R94, R98, R100): the fault is recorded for the strapped
source, and the device enters Boot-failed. -/
def rejectLink (s : State) (w : Word) : State :=
  if s.boot.st = .load then bootFailed (s.wr .DEV_ROAST_FAULT_A 0 0 w)
  else { s with boot := { s.boot with rx := [], rxFrom := none } }

/-- A BOOT_BLOCK whose fields are `seq`, `off` and data `d` arrives from `sa` (R98). -/
def bootData (s : State) (lane sa seq off : Nat) (d : Bytes) : State :=
  let from_ := (lane, sa)
  match s.boot.rxFrom with
  | some q => if q = from_ then accept s from_ else s
  | none => accept s from_
where
  /-- The block is not from a stranger: it is accepted or refused by its OFFSET, and refused for a DATA_LEN out of range (DESIGN
  CHOICE, log entry 87). -/
  accept (s : State) (from_ : Nat × Nat) : State :=
    let rx := if off = 0 then [] else s.boot.rx
    let refuse := bootAck s lane sa seq s.boot.rx.length 1 0
    if off ≠ rx.length ∨ (off ≠ 0 ∧ s.boot.rxFrom = none) then refuse
    else if d.length < 4 ∨ d.length > 8192 ∨ d.length % 4 ≠ 0 then refuse
    else if rx.length ≥ 64 ∧ rx.length + d.length > imageTotal rx then refuse
    else
      let s := stage d.length s off d
      let rx := rx ++ d
      if rx.length < 64 then
        bootAck { s with boot := { s.boot with rx := rx, rxFrom := some from_ } } lane sa seq rx.length 0 0
      else match headFault s.boot.fuses rx with
        | some c => rejectLink (bootAck s lane sa seq 0 3 c) (faultWord c 0)
        | none =>
          if rx.length > imageTotal rx then refuse
          else if rx.length < imageTotal rx then
            bootAck { s with boot := { s.boot with rx := rx, rxFrom := some from_ } } lane sa seq rx.length 0 0
          else
            let v := imageVerdict s.boot.fuses (devNo s) rx
            match v with
            | .accept =>
              let s := if s.boot.st = .load then s.wr .DEV_ROAST_FAULT_A 0 0 0 else s
              acceptImage (bootAck s lane sa seq rx.length 2 0) rx 3
            | .fault c _ =>
              let w := verdictWord s v
              rejectLink (bootAck w.2 lane sa seq 0 3 c) w.1

/-- A frame arrives on a host lane during a host-link boot or in Boot-failed (R95, R97, R98).  One that ends before its DATA_LEN is
ignored (DESIGN CHOICE, log entry 87). -/
def bootBlock (s : State) (lane : Nat) (f : Bytes) : State :=
  let da := beAt f 0 6
  let sa := beAt f 6 6
  let n := beAt f 22 2
  if !bootLink s || lane > 1 || !fcsGood f || beAt f 12 2 ≠ 0x88B5 || beAt f 14 1 ≠ 0x14 ||
      (da ≠ bootAddr s && da ≠ 0xFFFFFFFFFFFF) || f.length < 34 + n then s
  else if s.boot.fuseFail then bootAck s lane sa (beAt f 16 2) 0 3 0x0E
  else bootData s lane sa (beAt f 16 2) (beAt f 18 4) (slice f 30 n)

end Sys2Proof.Machine
end

