-- ==== Sys2Proof/Machine/Control.lean ====
section
/-!
DEFINITION. Machine/Control.lean: Mbaina control frames, replay, the order of checks, execution of a request's
operations, and fences (02_control_frames.md R31 to R46, R53).
-/
namespace Sys2Proof.Machine

/-- One operation of a request, cut out of its words (R33). -/
structure Op where
  code : Nat
  w0 : Word
  args : List Word
  /-- The data words its response entry carries (R33, R37). -/
  resp : Nat
deriving DecidableEq, Repr

/-- The words after word 0 of an operation and of its response entry; `none` for a format error (R33, R39). -/
def opShape (w0 : Word) : Option (Nat × Nat) :=
  let c := fld w0 16 9
  match fld w0 28 4 with
  | 0x1 => some (1, 1)
  | 0x2 => some (2, 0)
  | 0x3 => some (3, 1)
  | 0x4 => if 1 ≤ c ∧ c ≤ 256 then some (2, c) else none
  | 0x5 => if 1 ≤ c ∧ c ≤ 256 then some (2 + c, 0) else none
  | 0x6 => if 1 ≤ c ∧ c ≤ 16 ∧ fld w0 8 8 ≤ 16 then some (c, fld w0 8 8) else none
  | 0x7 => some (0, 0)
  | 0x8 => some (if tst w0 16 then 3 else 0, 0)
  | 0x9 | 0xA => some (0, 0)
  | 0xB => some (2, 0)
  | _ => none

/-- `n` operations cut out of a request's words, and the words left over; `none` for a format error. -/
def cutOps : Nat → List Word → Option (List Op × List Word)
  | 0, ws => some ([], ws)
  | _ + 1, [] => none
  | n + 1, w0 :: t =>
    match opShape w0 with
    | none => none
    | some (k, r) =>
      if t.length < k then none
      else match cutOps n (t.drop k) with
        | none => none
        | some (ops, rest) => some (⟨fld w0 28 4, w0, t.take k, r⟩ :: ops, rest)

/-- The words of a response entry: head word with COUNT and STATUS, then exactly `n` data words (R37). -/
def entry (code count status n : Nat) (data : List Word) : List Word :=
  (put 28 4 code ||| put 16 9 count ||| put 0 8 status) ::
    (data.take n ++ List.replicate (n - data.length) 0)

/-- One operation executes: STATUS, response COUNT, data words, state, and whether a pulse of the own interface
waits for the response (R33 to R36, R106). -/
def runOp (s : State) (who : Who) (lane : Nat) (o : Op) : Nat × Nat × List Word × State × Bool :=
  let a (i : Nat) : Word := o.args.getD i 0
  match o.code with
  | 0x1 => let r := hostRead s who (a 0).toNat; (r.1, 1, [r.2.1], r.2.2, false)
  | 0x2 => let r := hostWrite s who (a 0).toNat (a 1); (r.1, 0, [], r.2, false)
  | 0x3 => let r := hostRmw s who (a 0).toNat (a 1) (a 2); (r.1, 1, [r.2.1], r.2.2, false)
  | 0x4 => let r := burstRead s who (a 0).toNat (a 1) (fld o.w0 16 9); (r.1, r.2.1.length, r.2.1, r.2.2, false)
  | 0x5 => let r := burstWrite s who (a 0).toNat (a 1) (o.args.drop 2); (r.1, r.2.1, [], r.2.2, false)
  | 0x6 => let r := tableOp s who o.args o.resp; (r.1, o.resp, r.2.1, r.2.2, false)
  | 0x8 =>
    let r := updateOp s who (tst o.w0 16) (tst o.w0 17) (fld o.w0 0 16) ((a 0).toNat * 2 ^ 32 + (a 1).toNat) (a 2).toNat
    (r.1, 0, [], r.2, false)
  | 0x9 => let r := eventClaim s who (fld o.w0 0 10); (r.1, 0, [], r.2, false)
  | 0xA => let r := eventComplete s who (fld o.w0 0 10); (r.1, 0, [], r.2, false)
  | 0xB =>
    let m := (a 0).toNat * 2 ^ 32 + (a 1).toNat
    match fld o.w0 0 2 with
    | 0 => let r := blockReset s who .pulse m (32 + lane); (r.1, 0, [], r.2.1, r.2.2)
    | 1 => let r := blockReset s who .hold m (32 + lane); (r.1, 0, [], r.2.1, r.2.2)
    | 2 => let r := blockReset s who .release m (32 + lane); (r.1, 0, [], r.2.1, r.2.2)
    | _ =>
      match guardJudge s who (tst (s.rw .CTL_GUARD_CFG) 9) with
      | some (st, s) => (st, 0, [], s, false)
      | none => if m.testBit 35 || m.testBit 36 then (stNotResettable, 0, [], s, false) else (stOk, 0, [], wildBlocks s m, false)
  | _ => (stOk, 0, [], s, false)

/-- A frame whose lookup has begun is still inside: it has not been discarded, or a copy of it or the Drip's is left. -/
def frameInside (s : State) (id : Nat) : Bool :=
  match s.frm id with
  | none => false
  | some f => f.looked && (!f.gone || !(copiesOf s id).isEmpty || f.drip.isSome)

/-- The frames a fence waits for: every frame whose lookup has begun and that is still inside (R53); frames the
endpoint holds for a launch time are not in the Carafe and are not waited for. -/
def fenceSet (s : State) : List Nat := (s.car.frames.map (fun f => f.1)).filter (frameInside s)

/-- Why the operations of a request stop: they have all executed, a fence waits (R38), or a table command waits for a bank (R118). -/
inductive Stop where
  | ended | fence | table
deriving DecidableEq, Repr

/-- The operations of a request from where it stands, at most `n` of them, and what stops them (R37, R38). -/
def runReq : Nat → Req → State → Req × State × Stop
  | 0, q, s => (q, s, .ended)
  | n + 1, q, s =>
    match cutOps 1 q.rest with
    | some ([o], rest) =>
      if q.halted then
        runReq n { q with
          rest := rest
          resp := q.resp ++ entry o.code (if o.code = 4 ∨ o.code = 5 then 0 else o.resp) stNotExecuted o.resp [] } s
      else if o.code = 7 then
        let q' := { q with rest := rest, done := q.done + 1, resp := q.resp ++ entry 7 0 stOk 0 [] }
        if fenceSet s = [] then runReq n q' s
        else ({ q' with left := n }, s, .fence)
      else if o.code = 6 && tableWaits s ⟨q.ctx, q.acting⟩ o.args then ({ q with left := n + 1 }, s, .table)
      else
        let r := runOp s ⟨q.ctx, q.acting⟩ q.lane o
        runReq n { q with
          rest := rest
          done := q.done + 1
          halted := q.halt && decide (r.1 ≥ 0x10)
          ownPulse := q.ownPulse || r.2.2.2.2
          resp := q.resp ++ entry o.code (if o.code = 4 ∨ o.code = 5 then r.2.1 else o.resp) r.1 o.resp r.2.2.1 } (levelRefresh r.2.2.2.1)
    | _ => (q, s, .ended)

/-- A response payload: the header of R32 and the entries. -/
def respPayload (opCount id status ctx done execNs : Nat) (ws : List Word) : Bytes :=
  wsBytes ([put 28 4 1 ||| put 24 4 2 ||| put 16 8 opCount ||| put 0 16 id,
    put 16 16 (16 + 4 * ws.length) ||| put 8 8 status, put 16 8 ctx ||| put 8 8 done, wd execNs] ++ ws)

/-- A response leaves on the lane of its request (R45), where the host port is up; register changes that wait for a response to
leave then take effect (R144).  A buffer that it holds returns when it has left, or at once where it cannot (R356). -/
def sendResp (s : State) (lane ctx da sa : Nat) (payload : Bytes) (buf : Option (Nat × Nat) := none) : State :=
  testFlush (if linkUp s (128 + lane) && !closed s (32 + lane) then sendMcf s lane ctx da sa payload buf
    else match buf with
      | some (o, b) => lbmGive s o b
      | none => s)

/-- The pool of the buffer that holds a response (R355). -/
def respPool (s : State) (ctx : Nat) (payload : Bytes) : Nat := poolFor ((mcfFrame s ctx 0 0 payload).length + 12)

/-- A response takes a buffer of the control engine, which never fails, and is formed there (R356, R357). -/
def respBuf (s : State) (ctx da sa : Nat) (payload : Bytes) : Nat × State :=
  let k := respPool s ctx payload
  let r := lbmHold (occ s 24 0x10 k) 0 k
  let f := mcfFrame s ctx da sa payload
  (r.1, bufPut r.2 r.1 16 (f.take (f.length - 4)))

/-- A response is cached against its REQUEST_ID (R42): it keeps its buffer, and the buffer of the one it replaces returns (R357). -/
def cacheResp (s : State) (ctx id da sa : Nat) (payload : Bytes) : State :=
  let r := respBuf s ctx da sa payload
  let s := match mfind r.2.ctl.caches ctx with
    | some c => lbmGive r.2 0 c.buf
    | none => r.2
  { s with ctl := { s.ctl with caches := mins s.ctl.caches ctx ⟨id, payload, r.1⟩ } }

/-- A request has run to its end: its response is cached against its REQUEST_ID and sent, and a pulse of its own
host interface is carried out after it (R42, R44, R106). -/
def finishReq (s : State) (q : Req) : State :=
  let p := respPayload q.opCount q.id (if q.halted then 2 else 0) q.ctx q.done q.execNs q.resp
  let s := sendResp (cacheResp (occ s 35 0x10 q.ctx) q.ctx q.id q.da q.sa p) q.lane q.ctx q.da q.sa p
  let m := s.mac (128 + q.lane)
  if !q.ownPulse then s
  else if m.ctlq = [] then pulseBlk (markCause s [32 + q.lane]) (32 + q.lane)
  else s.setMac (128 + q.lane) { m with ownPulse := true }

/-- The end of a frame at host port `p`, or of the wait behind low-power idle: the control engine's frames that waited for it leave
(R23, R169), and then what waited for them takes effect (R106, R144). -/
def ctlFlush (s : State) (p : Nat) : State :=
  let m := s.mac p
  if ctlBusy s p || m.ctlq = [] then s
  else
    let s := testFlush (m.ctlq.foldl (fun s f => ctlSend s p f) (s.setMac p { m with ctlq := [], ownPulse := false }))
    if m.ownPulse then pulseBlk (markCause s [p - 96]) (p - 96) else s

/-- A request executes until its end, or until a fence or a table command that waits. -/
def execReq (s : State) (q : Req) : State :=
  let r := runReq q.left q s
  match r.2.2 with
  | .fence => { r.2.1 with ctl := { r.2.1.ctl with fences := r.2.1.ctl.fences ++ [⟨q.ctx, fenceSet r.2.1, some r.1⟩] } }
  | .table => { r.2.1 with ctl := { r.2.1.ctl with tblWaits := r.2.1.ctl.tblWaits ++ [⟨q.ctx, q.acting, [], 0, some r.1⟩] } }
  | .ended => finishReq r.2.1 r.1

/-- B10 has a credit for a frame of context `ctx` (R24): of 32 credits, 2 are reserved for each valid context and
the rest are shared; `waiting` are the contexts of the frames that hold credits. -/
def b10Credit (s : State) (waiting : List Nat) (ctx : Nat) : Bool :=
  let valid := (List.range 8).filter (fun c => tst (s.rw .CTL_CTX_CFG c) 31)
  let held (c : Nat) : Nat := (waiting.filter (· == c)).length
  let shared := sumN ((List.range 8).map (fun c => held c - (if valid.contains c then 2 else 0)))
  decide (held ctx < 2 ∧ valid.contains ctx) || decide (shared < 32 - 2 * valid.length)

/-- A request refused at frame level is answered with the header alone, and neither cached nor recorded (R32, R42); the response
holds its buffer until it has left (R356). -/
def refuseReq (s : State) (lane ctx da sa id status : Nat) : State :=
  let p := respPayload 0 id status ctx 0 s.time.now.ns []
  let r := respBuf s ctx da sa p
  sendResp r.2 lane ctx da sa p (some (0, r.1))

/-- The format of a request whose payload is at `p` of `f` is good: VERSION, OP_COUNT, and LENGTH against the operations and the
frame (R32, R39); then its operations. -/
def reqOps (f : Bytes) (p : Nat) : Option (List Op) :=
  let w0 := wordAt (f.drop p) 0
  let w1 := wordAt (f.drop p) 1
  let len := fld w1 16 16
  if fld w0 28 4 ≠ 1 ∨ fld w0 16 8 > 64 ∨ len < 16 ∨ len % 4 ≠ 0 ∨ p + len + (if tst w1 15 then 8 else 0) > f.length then none
  else match cutOps (fld w0 16 8) (bytesWs (len / 4 - 4) (slice f (p + 16) (len - 16))) with
    | some (os, []) => some os
    | _ => none

/-- The checks of R44 from the format on, for a request that no cached response answers: `f` is its frame without the FCS, `p`
where its payload starts, `da` its source and `sa` the address to which it was sent. -/
def newRequest (s : State) (lane ctx da sa : Nat) (f : Bytes) (p : Nat) : State :=
  let w0 := wordAt (f.drop p) 0
  let w1 := wordAt (f.drop p) 1
  let id := fld w0 0 16
  let len := fld w1 16 16
  match reqOps f p with
  | none => refuseReq s lane ctx da sa id 0x10
  | some os =>
    let rlen := 16 + 4 * sumN (os.map (fun o => 1 + o.resp))
    let flen := max 64 (18 + rlen + (if tst (s.rw .CTL_CTX_CFG ctx) 29 then 4 else 0))
    if len > 10200 ∨ rlen > 10200 ∨ flen > macMaxLen s (128 + lane) then refuseReq s lane ctx da sa id 0x11 else
    let payload := slice f p len
    let gc := beAt payload 8 4
    let guard := decide (ctx = s.rf .CTL_GUARD_CFG 0 0 0 3)
    let tagged := guard && tst w1 15
    let good := cmac s.boot.fuses.guardKey (wBytes (s.rw .CTL_GUARD_EPOCH) ++ payload) / 2 ^ 64 == beAt f (p + len) 8
    if tagged && (!good || decide (gc ≤ s.rn .CTL_GUARD_COUNT)) then
      refuseReq ((s.bump .CTL_TAG_FAIL).setFlags .CTL_STATUS 0 0 4) lane ctx da sa id 0x12
    else
      let s := if tagged then s.wr .CTL_GUARD_COUNT 0 0 (wd gc) else s
      execReq s {
        lane := lane, ctx := ctx, acting := guard && (tst w1 15 || !tst (s.rw .CTL_GUARD_CFG) 8), id := id, opCount := os.length
        halt := tst w1 14, execNs := s.time.now.ns, rest := bytesWs (len / 4 - 4) (payload.drop 16), left := os.length
        done := 0, halted := false, resp := [], ownPulse := false, da := da, sa := sa }

/-- A request of context `ctx` is taken from B10 (R42, R44): answered from the cache, or checked and executed. -/
def requestTake (s : State) (lane ctx : Nat) (f : Bytes) : State :=
  let p := (etherHead f).2.2
  let da := beAt f 0 6
  let sa := beAt f 6 6
  match mfind s.ctl.caches ctx with
  | some c =>
    if c.id = fld (wordAt (f.drop p) 0) 0 16 then
      sendResp (occ (s.bump .CTL_REPLAYS) 35 0x11 ctx) lane ctx sa da (patch c.resp 6 [1])
    else newRequest s lane ctx sa da (f.take (f.length - 4)) p
  | none => newRequest s lane ctx sa da (f.take (f.length - 4)) p

/-- A request of context `ctx` waits in B10: behind a fence of its own context, or behind a table command that waits, whatever its
context, since the engine executes one request at a time and FENCE is the only exception (R38, R118). -/
def fenced (s : State) (ctx : Nat) : Bool :=
  s.ctl.fences.any (fun w => w.ctx == ctx) || s.ctl.tblWaits != []

/-- A frame for `da` addresses the control engine (R44, R423): it names the control address, or the management address where that
is answered. -/
def addressed (s : State) (da : Nat) : Bool := da == controlMac s || (mgmtOn s && da == mgmtMac s)

/-- The management address that is answered equals the control address: the control traffic for it is free (R437; log entry 6). -/
def mgmtClash (s : State) (da : Nat) : Bool := mgmtOn s && mgmtMac s == controlMac s && da == controlMac s

/-- A good frame with the control EtherType on host lane `lane`, the frames of contexts `waiting` being held in B10 beside those
that a fence holds there: the decisions of R44 up to the context, and B10's credit. -/
def controlTake (s : State) (lane : Nat) (waiting : List Nat) (f : Bytes) : State :=
  let h := etherHead f
  let da := beAt f 0 6
  let ours := addressed s da && !(mgmtClash s da && Nat.testBit s.free 0)
  let s := if mgmtClash s da then s.drawn else s
  match (if ours && fld (wordAt (f.drop h.2.2) 0) 24 4 == 1 then ctxMatch s lane (beAt f 6 6) (h.1.map (· % 4096)) else none) with
  | none => (s.bump .CTL_RX_UNKNOWN).setFlags .CTL_STATUS 0 0 2
  | some ctx =>
    if !b10Credit s (waiting ++ s.ctl.held.map (·.1)) ctx then (s.bump .CTL_RX_DISCARD).setFlags .CTL_STATUS 0 0 1
    else if fenced s ctx then { s with ctl := { s.ctl with held := s.ctl.held ++ [(ctx, lane, f)] } }
    else requestTake s lane ctx f

/-- The requests held in B10 that nothing holds any more execute in the order they entered it, at most `n` of them (R38). -/
def heldRun : Nat → State → State
  | 0, s => s
  | n + 1, s =>
    match s.ctl.held.find? (fun x => !fenced s x.1) with
    | none => s
    | some x => heldRun n (requestTake { s with ctl := { s.ctl with held := s.ctl.held.erase x } } x.2.1 x.1 x.2.2)

/-- A frame with the control EtherType arrives on host lane `lane` (0 for H0, 1 for H1) of a device in service (R44, R97). -/
def controlFrame (s : State) (lane : Nat) (waiting : List Nat) (f : Bytes) : State :=
  let p := 128 + lane
  if lane < 2 && portPresent s p && closed s (portBlock p) then isoDiscard s (portBlock p) else
  if !isRunning s || lane > 1 || !rxReady s p || (etherHead f).2.1 ≠ s.rf .CTL_ETYPE 0 0 0 16 then s else
  match rxError { bytes := f, maxLen := macMaxLen s p } false false with
  | some c => countRxBad s p f.length c
  | none =>
    let s := countRxGood s p f
    -- a control engine without its clock takes nothing (R115)
    if closed s 35 then s else controlTake s lane waiting f

/-- The result of a single operation is set down in the model's own field (log entry 5). -/
def setRes (s : State) (status count : Nat) (data : List Word) : State :=
  { s with opRes := ⟨status, count, data⟩ }

/-- A single FENCE operation (R53): it completes at once when no frame is inside, and waits otherwise. -/
def fenceOp (s : State) (who : Who) : State :=
  if fenceSet s = [] then setRes s stOk 0 []
  else { s with ctl := { s.ctl with fences := s.ctl.fences ++ [⟨who.ctx, fenceSet s, none⟩] } }

/-- A single TABLE operation: its result is set down, or it waits for a sleeping bank (R118). -/
def tableSingle (s : State) (who : Who) (words : List Word) (nres : Nat) : State :=
  if tableWaits s who words then
    { s with ctl := { s.ctl with tblWaits := s.ctl.tblWaits ++ [⟨who.ctx, who.acting, words, nres, none⟩] } }
  else
    let r := tableOp s who words nres
    testFlush (setRes r.2.2 r.1 nres r.2.1)

/-- The engine comes to a table command or request that waits: behind one that still waits it goes on waiting. -/
def tblNext (s : State) (w : TblWait) : State :=
  match w.req with
  | some q => if s.ctl.tblWaits = [] then execReq s q else { s with ctl := { s.ctl with tblWaits := s.ctl.tblWaits ++ [w] } }
  | none => tableSingle s ⟨w.ctx, w.acting⟩ w.words w.nres

/-- A bank has woken, or the wrapper of the table command engine has closed and answers what waits with an error (R104, R118): the
table commands that waited execute in order, up to one whose bank still sleeps, and then the requests that waited behind them. -/
def tblResume (s : State) : State :=
  if s.ctl.tblWaits = [] then s
  else
    let t := s.ctl.tblWaits.foldl tblNext { s with ctl := { s.ctl with tblWaits := [] } }
    heldRun t.ctl.held.length t

/-- The first fence of context `ctx` whose frames have all left or been discarded completes (R53): the rest of its request resumes
where no table command waits, and then the requests that waited behind it execute (R38). -/
def fenceComplete (s : State) (ctx : Nat) : State :=
  match s.ctl.fences.find? (fun w => w.ctx == ctx && w.waits.all (fun i => !frameInside s i)) with
  | none => s
  | some w =>
    let s := { s with ctl := { s.ctl with fences := s.ctl.fences.erase w } }
    let s := match w.req with
      | none => setRes s stOk 0 []
      | some q => tblNext s ⟨q.ctx, q.acting, [], 0, some q⟩
    heldRun s.ctl.held.length s

end Sys2Proof.Machine
end

