-- ==== Sys2Proof/Machine/Effect.lean ====
section
/-!
DEFINITION. Machine/Effect.lean: what the meanings share: the answer of a command, and single control operations outside a control
frame (02_control_frames.md R33, R38, R44; log entry 5).
-/
namespace Sys2Proof.Machine

/-- The answer of a command whose effect leaves `s`: level sources follow their conditions (R381, R468), and the block goes on. -/
def commit (s : State) : Host.Outcome State Fault Refusal := .next (levelRefresh s)

/-- The issuer of a single operation is served (R44, R94, R115): the device is in service, the control engine has its clock, the context is valid, and only the guard
context acts as such. -/
def served (s : State) (who : Who) : Bool :=
  isRunning s && !closed s 35 && ctxValid s who.ctx && (!who.acting || who.ctx == s.rf .CTL_GUARD_CFG 0 0 0 3)

/-- A single operation of a served issuer: STATUS, COUNT and data words of its response are set down (log entry 5), and register
changes that wait for a response to leave take effect (R144). -/
def hostOp (s : State) (who : Who) (f : State → Nat × Nat × List Word × State) : State :=
  if served s who then
    let r := f s
    testFlush (setRes r.2.2.2 r.1 r.2.1 r.2.2.1)
  else s

/-- The response of an operation that brings one data word (R37). -/
def readRes (r : Nat × Word × State) : Nat × Nat × List Word × State := (r.1, 1, [r.2.1], r.2.2)

/-- The response of an operation that brings none (R37). -/
def doneRes (r : Nat × State) : Nat × Nat × List Word × State := (r.1, 0, [], r.2)

/-- A WRITE of the register at an address (R33). -/
def writeOp (s : State) (who : Who) (addr : Nat) (w : Word) : State := hostOp s who (fun s => doneRes (hostWrite s who addr w))

/-- A write of a register of lane `l` through the lane window, by a BURST_WRITE of one word (R52, R148). -/
def laneOp (s : State) (who : Who) (f : Fam) (l : Nat) (w : Word) : State :=
  hostOp s who (fun s =>
    let r := burstWrite s who (Reg.key ⟨.LN_IND_ADDR, 0, 0⟩) (wd (Reg.key ⟨f, l, 0⟩ - laneSpace)) [w]
    (r.1, r.2.1, [], r.2.2))

/-- A single table command: its argument words, its command word, and the result words that it returns.  More than 16 words either
way refuse the request that carries it (R33, R39). -/
def tableRow (s : State) (who : Who) (op region index : Nat) (args : List Word) (nres : Nat) : State :=
  if args.length ≤ 15 ∧ nres ≤ 16 ∧ served s who then tableSingle s who (args ++ [tblWord op region index]) nres else s

/-- A single BLOCK_RESET: a pulse of the issuer's own host interface is carried out after the response (R106). -/
def blkResetOp (s : State) (who : Who) (act : BlkAct) (mask : Nat) : State :=
  if served s who then
    let own := 32 + ctxLane s who.ctx
    let r := blockReset s who act mask own
    let t := setRes r.2.1 r.1 0 []
    if r.2.2 then pulseBlk (markCause t [own]) own else t
  else s

/-- A write of TK_CMD with a step command, and the tick at which the step acts (R331). -/
def stepRow (s : State) (who : Who) (w : Word) : State :=
  if served s who then timekeeperTick (writeOp s who (Reg.key ⟨.TK_CMD, 0, 0⟩) w) else s

/-- Isolation of block `b` completes, where it is being isolated (R104). -/
def isolationDone_ (s : State) (b : Nat) : State :=
  if (s.blk b).st = .isolating ∧ !(s.blk b).inReset then isolationDone s b else s

end Sys2Proof.Machine
end

