-- ==== Sys2Proof/Machine/BootCmds.lean ====
section
/-!
DEFINITION. Machine/BootCmds.lean: the meanings of the commands of boot and reset commands (04_startup_reset.md R84 to R98; 03_roast_image.md R77, R79).
-/
namespace Sys2Proof.Machine

/-- POWER_ON_RESET: A power-on reset is a full device reset (R85, R101). -/
def execPowerOnReset (s : State) : Host.Outcome State Fault Refusal :=
  commit (powerOnReset s)

/-- RESET_N_ASSERT: A RESET_N assertion acts (R84, R101). -/
def execResetNAssert (s : State) : Host.Outcome State Fault Refusal :=
  commit (resetNAssert s)

/-- RESET_N_RELEASE: RESET_N has read high for 4 ticks (R84, R93). -/
def execResetNRelease (s : State) : Host.Outcome State Fault Refusal :=
  commit (resetNRelease s)

/-- RAIL_LOSS: Rail `rail` is lost (R86): 0 CORE, 1 SRAM, 2 SDA, 3 SDT, 4 IO. -/
def execRailLoss (rail : Nat) (s : State) : Host.Outcome State Fault Refusal :=
  commit (railLoss s rail)

/-- FUSE_LOAD_DONE: The fuse load completes with `fuses`; `pass` is its check (R94, R95). -/
def execFuseLoadDone (fuses : Fuses) (pass : Bool) (s : State) : Host.Outcome State Fault Refusal :=
  commit (fuseLoadDone s fuses pass)

/-- RAILS_GOOD: The rails are good and the straps read `straps` (R94, R96). -/
def execRailsGood (straps : Straps) (s : State) : Host.Outcome State Fault Refusal :=
  commit (railsGood s straps)

/-- BOOT_CLOCKS_LOCKED: The PLLs are locked and stable (R94). -/
def execBootClocksLocked (s : State) : Host.Outcome State Fault Refusal :=
  commit (bootClocksLocked s)

/-- CLOCK_LOCK_TIMEOUT: The PLLs have not locked within 2 ms (R94). -/
def execClockLockTimeout (s : State) : Host.Outcome State Fault Refusal :=
  commit (clockLockTimeout s)

/-- IMAGE_CHECK: A flash image source has been read: `image`, or `none` where the flash does not answer (R78, R79). -/
def execImageCheck (image : Option Bytes) (s : State) : Host.Outcome State Fault Refusal :=
  commit (imageCheck s image)

/-- IMAGE_APPLY: The accepted image is applied (R77, R94, R471). -/
def execImageApply (s : State) : Host.Outcome State Fault Refusal :=
  commit (imageApply s)

/-- BOOT_OFFER: A 10 ms offer period ends (R97, R98). -/
def execBootOffer (s : State) : Host.Outcome State Fault Refusal :=
  commit (bootOffer s)

/-- BOOT_BLOCK: A boot frame arrives on host lane `lane` (R95, R97, R98). -/
def execBootBlock (lane : Nat) (frame : Bytes) (s : State) : Host.Outcome State Fault Refusal :=
  commit (bootBlock s lane frame)

end Sys2Proof.Machine
end

