-- ==== Sys2Proof/Machine/ControlCmds.lean ====
section
/-!
DEFINITION. Machine/ControlCmds.lean: the meanings of the commands of control frames and their operations (02_control_frames.md R33 to R58).
-/
namespace Sys2Proof.Machine

/-- CONTROL_FRAME: A frame with the control EtherType arrives on host lane `lane`, the frames of contexts `waiting` being held in B10 (R44). -/
def execControlFrame (lane : Nat) (waiting : List Nat) (frame : Bytes) (s : State) : Host.Outcome State Fault Refusal :=
  commit (controlFrame s lane waiting frame)

/-- READ: READ (R33, R41, R47). -/
def execRead (who : Who) (addr : Word) (s : State) : Host.Outcome State Fault Refusal :=
  commit (hostOp s who (fun s => readRes (hostRead s who addr.toNat)))

/-- WRITE: WRITE (R33, R41, R47). -/
def execWrite (who : Who) (addr data : Word) (s : State) : Host.Outcome State Fault Refusal :=
  commit (writeOp s who addr.toNat data)

/-- RMW: RMW (R34). -/
def execRmw (who : Who) (addr mask value : Word) (s : State) : Host.Outcome State Fault Refusal :=
  commit (hostOp s who (fun s => readRes (hostRmw s who addr.toNat mask value)))

/-- BURST_READ: BURST_READ (R37, R52); a COUNT out of range refuses the request that carries it (R39). -/
def execBurstRead (who : Who) (window start : Word) (count : Nat) (s : State) : Host.Outcome State Fault Refusal :=
  commit (if 1 ≤ count ∧ count ≤ 256 then
      hostOp s who (fun s =>
        let r := burstRead s who window.toNat start count
        (r.1, r.2.1.length, r.2.1, r.2.2))
    else s)

/-- BURST_WRITE: BURST_WRITE (R52); a COUNT out of range refuses the request that carries it (R39). -/
def execBurstWrite (who : Who) (window start : Word) (data : List Word) (s : State) : Host.Outcome State Fault Refusal :=
  commit (if 1 ≤ data.length ∧ data.length ≤ 256 then
      hostOp s who (fun s =>
        let r := burstWrite s who window.toNat start data
        (r.1, r.2.1, [], r.2.2))
    else s)

/-- FENCE: FENCE (R38, R53). -/
def execFence (who : Who) (s : State) : Host.Outcome State Fault Refusal :=
  commit (if served s who then fenceOp s who else s)

/-- FENCE_COMPLETE: The frames that the first fence of context `ctx` waits for are gone (R53). -/
def execFenceComplete (ctx : Nat) (s : State) : Host.Outcome State Fault Refusal :=
  commit (fenceComplete s ctx)

/-- UPDATE_IMMEDIATE: UPDATE without TIMED (R48, R50, R57). -/
def execUpdateImmediate (who : Who) (groups : Nat) (s : State) : Host.Outcome State Fault Refusal :=
  commit (hostOp s who (fun s => doneRes (updateOp s who false false groups 0 0)))

/-- UPDATE_TIMED: UPDATE with TIMED (R49, R50, R57). -/
def execUpdateTimed (who : Who) (groups : Nat) (sec ns : Nat) (s : State) : Host.Outcome State Fault Refusal :=
  commit (hostOp s who (fun s => doneRes (updateOp s who true false groups sec ns)))

/-- UPDATE_CANCEL: UPDATE with CANCEL (R50). -/
def execUpdateCancel (who : Who) (groups : Nat) (s : State) : Host.Outcome State Fault Refusal :=
  commit (hostOp s who (fun s => doneRes (updateOp s who false true groups 0 0)))

/-- TIMED_STROBE_FIRE: The armed strobe of group `group` fires when its time has come (R49). -/
def execTimedStrobeFire (group : Nat) (s : State) : Host.Outcome State Fault Refusal :=
  commit (timedFire s group)

/-- EVENT_CLAIM: EVENT_CLAIM (R384). -/
def execEventClaim (who : Who) (source : Nat) (s : State) : Host.Outcome State Fault Refusal :=
  commit (hostOp s who (fun s => doneRes (eventClaim s who source)))

/-- EVENT_COMPLETE: EVENT_COMPLETE (R385). -/
def execEventComplete (who : Who) (source : Nat) (s : State) : Host.Outcome State Fault Refusal :=
  commit (hostOp s who (fun s => doneRes (eventComplete s who source)))

/-- SEQUENCE_CLEAR: A WRITE to the sequence-clear register at `addr` (R51). -/
def execSequenceClear (who : Who) (addr data : Word) (s : State) : Host.Outcome State Fault Refusal :=
  commit (writeOp s who addr.toNat data)

/-- IND_DATA_ACCESS: A READ or a WRITE of an IND_DATA register (R52).  A read through CAR_IND_DATA that takes place meets the
new error `ecc` in its cell, an uncorrectable one where it holds `true` (R230). -/
def execIndDataAccess (who : Who) (addr : Word) (write : Option Word) (s : State) (ecc : Option Bool := none) :
    Host.Outcome State Fault Refusal :=
  commit (match write with
    | some w => writeOp s who addr.toNat w
    | none => hostOp s who (fun s => readRes (hostRead (windowMeets s addr.toNat ecc) who addr.toNat)))

/-- GUARD_SEAL: A WRITE to CTL_GUARD_SEAL (R58). -/
def execGuardSeal (who : Who) (data : Word) (s : State) : Host.Outcome State Fault Refusal :=
  commit (writeOp s who (Reg.key ⟨.CTL_GUARD_SEAL, 0, 0⟩) data)

/-- TIME_LATCH_READ: A READ of TK_TIME_SEC_HI or TIO_PPS_IN_SEC_HI, which latches the time for the reading context (R309). -/
def execTimeLatchRead (who : Who) (addr : Word) (s : State) : Host.Outcome State Fault Refusal :=
  commit (hostOp s who (fun s => readRes (hostRead s who addr.toNat)))

end Sys2Proof.Machine
end

