-- ==== Sys2Proof/Machine/CounterCmds.lean ====
section
/-!
DEFINITION. Machine/CounterCmds.lean: the meanings of the commands of performance counters and telemetry (17_counters.md R398 to R409).
-/
namespace Sys2Proof.Machine

/-- COUNTER_SWEEP_SLOT: A sweep slot (R403). -/
def execCounterSweepSlot (s : State) : Host.Outcome State Fault Refusal :=
  commit (sweepSlot s)

/-- COUNTER_LATCH_READ: A READ of PCT_VAL_HI_b_i, which latches the counter (R405). -/
def execCounterLatchRead (who : Who) (addr : Word) (s : State) : Host.Outcome State Fault Refusal :=
  commit (hostOp s who (fun s => readRes (hostRead s who addr.toNat)))

/-- CLEAR_COUNTERS: A write of PCT_CMD with action 0b01 (R401). -/
def execClearCounters (who : Who) (data : Word) (s : State) : Host.Outcome State Fault Refusal :=
  commit (writeOp s who (Reg.key ⟨.PCT_CMD, 0, 0⟩) data)

/-- CLEAR_PEAKS: A write of PCT_CMD with action 0b10 (R406). -/
def execClearPeaks (who : Who) (data : Word) (s : State) : Host.Outcome State Fault Refusal :=
  commit (writeOp s who (Reg.key ⟨.PCT_CMD, 0, 0⟩) data)

/-- BANDWIDTH_WINDOW_END: A bandwidth window ends (R406). -/
def execBandwidthWindowEnd (s : State) : Host.Outcome State Fault Refusal :=
  commit (leftMaybe s 227 (fun s => windowEnd s))

/-- TELEMETRY_EXPORT: A telemetry period ends; `busy` where the last export is still being sent (R407). -/
def execTelemetryExport (busy : Bool) (s : State) : Host.Outcome State Fault Refusal :=
  commit (leftMaybe s 227 (fun s => telemetryExport s busy))

end Sys2Proof.Machine
end

