-- ==== Sys2Proof/Machine/EndpointCmds.lean ====
section
/-!
DEFINITION. Machine/EndpointCmds.lean: the meanings of the commands of the endpoint (14_endpoint.md R339 to R359).
-/
namespace Sys2Proof.Machine

/-- ENDPOINT_FRAME: A frame with EtherType 0x88B6 arrives on host lane `lane` (R339, R345). -/
def execEndpointFrame (lane : Nat) (frame : Bytes) (s : State) : Host.Outcome State Fault Refusal :=
  commit (endpointFrame s lane frame)

/-- LAUNCH_HANDOFF: T − LEAD of the first launch has come (R346, R347). -/
def execLaunchHandoff (s : State) : Host.Outcome State Fault Refusal :=
  commit (leftMaybe s 234 (fun s => launchHandoff s))

/-- LAUNCH_LATE: A launch copy has not begun by T + LATE_TOL (R349). -/
def execLaunchLate (port queue pos : Nat) (s : State) : Host.Outcome State Fault Refusal :=
  commit (leftMaybe s 234 (fun s => launchLate s port queue pos))

end Sys2Proof.Machine
end

