-- ==== Sys2Proof/Machine/EventCmds.lean ====
section
/-!
DEFINITION. Machine/EventCmds.lean: the meanings of the commands of events and their delivery (16_events.md R381 to R395).
-/
namespace Sys2Proof.Machine

/-- OFFER_SEND: An offer frame is formed for context `ctx` (R391, R393). -/
def execOfferSend (ctx : Nat) (s : State) : Host.Outcome State Fault Refusal :=
  commit (offerSend s ctx)

/-- OFFER_TIMEOUT: An outstanding offer times out (R392). -/
def execOfferTimeout (source : Nat) (s : State) : Host.Outcome State Fault Refusal :=
  commit (offerTimeout s source)

/-- OFFER_NOBUF_RETRY: Formation of an offer frame is retried (R394). -/
def execOfferNobufRetry (ctx : Nat) (s : State) : Host.Outcome State Fault Refusal :=
  commit (offerRetry s ctx)

/-- SET_DORMANT_HOST: A write of EVT_CTX_CMD with action 0b01 (R388). -/
def execSetDormantHost (who : Who) (data : Word) (s : State) : Host.Outcome State Fault Refusal :=
  commit (writeOp s who (Reg.key ⟨.EVT_CTX_CMD, 0, 0⟩) data)

/-- CLEAR_DORMANT_HOST: A write of EVT_CTX_CMD with action 0b10 (R388, R389). -/
def execClearDormantHost (who : Who) (data : Word) (s : State) : Host.Outcome State Fault Refusal :=
  commit (writeOp s who (Reg.key ⟨.EVT_CTX_CMD, 0, 0⟩) data)

/-- TARGET_WRITE: A write of EVT_TGT_n (R386, R387). -/
def execTargetWrite (who : Who) (addr data : Word) (s : State) : Host.Outcome State Fault Refusal :=
  commit (writeOp s who addr.toNat data)

/-- DELIVER_EN_WRITE: A write of EVT_CFG (R390). -/
def execDeliverEnWrite (who : Who) (data : Word) (s : State) : Host.Outcome State Fault Refusal :=
  commit (writeOp s who (Reg.key ⟨.EVT_CFG, 0, 0⟩) data)

end Sys2Proof.Machine
end

