-- ==== Sys2Proof/Machine/FrameCmds.lean ====
section
/-!
DEFINITION. Machine/FrameCmds.lean: the meanings of the commands of the way of a frame through the device (07_mac.md, 08_classification.md, 10_carafe.md, 11_scheduling.md).
-/
namespace Sys2Proof.Machine

/-- FRAME_START: The first byte of a frame arrives at port `port` (R24, R150, R165). -/
def execFrameStart (port half : Nat) (fifoErr : Bool) (s : State) : Host.Outcome State Fault Refusal :=
  commit (frameStart s port half fifoErr)

/-- FRAGMENT_RX: A preemption fragment is received at port `port` (R161, R163). -/
def execFragmentRx (port half smd frag : Nat) (data : Bytes) (final mcrcOk : Bool) (s : State) : Host.Outcome State Fault Refusal :=
  commit (fragmentRx s port half smd frag data final mcrcOk)

/-- LOOKUP_START: The lookup of the next frame of port `port` begins (R193); `bytes` are those received since the last command. -/
def execLookupStart (port : Nat) (bytes : Bytes) (s : State) : Host.Outcome State Fault Refusal :=
  commit (lookupStart s port bytes)

/-- ADMISSION: Admission decides on the frame of port `port` (R242). -/
def execAdmission (port : Nat) (s : State) : Host.Outcome State Fault Refusal :=
  commit (admission s port)

/-- FCS_VERDICT: The frame in reception at port `port` ends with the bytes `tail` (R151, R245). -/
def execFcsVerdict (port : Nat) (pre : Bool) (tail : Bytes) (err : Nat) (s : State) : Host.Outcome State Fault Refusal :=
  commit (fcsVerdict s port pre tail err)

/-- CARAFE_SLOT: A Carafe slot (R232 to R237): the bytes received at each port, and the read errors of the drains. -/
def execCarafeSlot (rx : List (Nat × Bytes)) (ecc : List (Nat × Bool)) (s : State) : Host.Outcome State Fault Refusal :=
  commit (carafeSlot s rx ecc)

/-- SCRUB_READ: The scrubber reads (R231). -/
def execScrubRead (errs : List (Nat × Bool)) (s : State) : Host.Outcome State Fault Refusal :=
  commit (scrubRead s errs)

/-- COPY_AGED: The copy at place `pos` of a queue has waited MAX_RES (R253). -/
def execCopyAged (port queue pos : Nat) (s : State) : Host.Outcome State Fault Refusal :=
  commit (copyAged s port queue pos)

/-- SCHEDULER_SELECT: The scheduler of port `port` selects (R257, R261 to R263). -/
def execSchedulerSelect (port : Nat) (s : State) : Host.Outcome State Fault Refusal :=
  commit (schedulerSelect s port)

/-- TRANSMIT_START: Port `port` starts or resumes a copy (R156, R160, R257). -/
def execTransmitStart (port half : Nat) (s : State) : Host.Outcome State Fault Refusal :=
  commit (transmitStart s port half)

/-- TRANSMIT_END: The copy in transmission at port `port` ends after `sent` bytes (R263). -/
def execTransmitEnd (port sent : Nat) (s : State) : Host.Outcome State Fault Refusal :=
  commit (ctlFlush (transmitEnd s port sent) port)

/-- DRIP_BURST_WRITE: A write of DRIP_BURST_c (R198). -/
def execDripBurstWrite (who : Who) (ctx : Nat) (data : Word) (s : State) : Host.Outcome State Fault Refusal :=
  commit (writeOp s who (Reg.key ⟨.DRIP_BURST, ctx, 0⟩) data)

end Sys2Proof.Machine
end

