-- ==== Sys2Proof/Machine/Holds.lean ====
section
/-!
DEFINITION. Machine/Holds.lean: the blocks that hold at an output boundary for lack of credit (02 R24, R25; 17_counters.md R402, event
0x03).
-/
namespace Sys2Proof.Machine

/-- Block `b` holds at one of its output boundaries for lack of credit (R24): an ingress pipeline at B3, B4 or B5, the Carafe's drains
at B8, the scheduler at B7, a stitch engine at B9. -/
def blkHolds (s : State) (b : Nat) : Bool :=
  let pipe (k : Nat) : Bool := domOn s (pipeDom k) && (pipeHold s k).isSome
  if closed s b then false
  else if b < 8 then pipe b
  else if b = 16 then pipe 8
  else if b = 17 then s.car.copies.any (fun c => c.issued != 0 && !b8Room s c &&
    (match s.frm c.frame with
      | some f => (mfind f.cells (c.read / 128)).isSome && decide (c.read < written f)
      | none => false))
  else if b = 18 then s.car.copies.any (fun c => c.issued == 0 && c.elig && !c.held && drainFull s c.port)
  else if 29 ≤ b ∧ b < 32 then (s.link (b - 29)).up && dataCredit s (b - 29) == 0 && s.car.copies.any (fun c => c.port == b + 101 && handed c)
  else false

/-- The cycles of one Hotplate tick in which a block holds are counted (R402, event 0x03): those of a block that holds at the tick (log
entry 18). -/
def countHolds (s : State) : State :=
  (s.regs.filter (fun x => decide (0x51000 ≤ x.1) && decide (x.1 < 0x52400) && x.1 % 16 == 0)).foldl (fun t x =>
    let c := (x.1 - 0x51000) / 16
    let b := c / 8
    if fld x.2 24 8 = 3 && !pctOdd s c && countersAwake s b && blkHolds s b then pctAdd t c (tickCycles s b) else t) s

end Sys2Proof.Machine
end

