-- ==== Sys2Proof/Machine/HotCmds.lean ====
section
/-!
DEFINITION. Machine/HotCmds.lean: the meanings of the commands of the Hotplate, the power domains and the temperature sensor (05_hotplate_power.md R112 to R128; 19_electrical.md R459).
-/
namespace Sys2Proof.Machine

/-- HOTPLATE_TICK: A 320 ns tick (R112, R122), which counts cycles (R402); `peerHigh` is the level of PEER_CLAIM_N (R414). -/
def execHotplateTick (peerHigh : Bool) (s : State) : Host.Outcome State Fault Refusal :=
  commit (hotplateTick (countHolds s) peerHigh)

/-- DOMAIN_READY: Domain `domain` completes its wake (R117); what waited for it goes on (R25, R118, R471). -/
def execDomainReady (domain : Nat) (s : State) : Host.Outcome State Fault Refusal :=
  commit (bootGo (pipesGo (tblResume (domainReady s domain))))

/-- DOMAIN_IDLE_SLEEP: The sleep conditions of an AUTO domain have held for HOT_IDLE_TIME (R119). -/
def execDomainIdleSleep (domain : Nat) (s : State) : Host.Outcome State Fault Refusal :=
  commit (domainIdleSleep s domain)

/-- DOMAIN_SHUTDOWN_DONE: The drain and sleep of domain `domain` end (R121). -/
def execDomainShutdownDone (domain : Nat) (s : State) : Host.Outcome State Fault Refusal :=
  commit (domainShutdownDone s domain)

/-- DOMAIN_WAKE_CMD: A write of HOT_DOM_CMD with action wake (R119). -/
def execDomainWakeCmd (who : Who) (data : Word) (s : State) : Host.Outcome State Fault Refusal :=
  commit (writeOp s who (Reg.key ⟨.HOT_DOM_CMD, 0, 0⟩) data)

/-- DOMAIN_SLEEP_CMD: A write of HOT_DOM_CMD with action sleep (R119, R121). -/
def execDomainSleepCmd (who : Who) (data : Word) (s : State) : Host.Outcome State Fault Refusal :=
  commit (writeOp s who (Reg.key ⟨.HOT_DOM_CMD, 0, 0⟩) data)

/-- DOM_MODE_WRITE: A write of HOT_DOM_MODE_n (R119). -/
def execDomModeWrite (who : Who) (addr data : Word) (s : State) : Host.Outcome State Fault Refusal :=
  commit (writeOp s who addr.toNat data)

/-- DOZE_ENTRY: Port `port` enters Doze (R124). -/
def execDozeEntry (port : Nat) (s : State) : Host.Outcome State Fault Refusal :=
  commit (dozeEntry s port)

/-- RX_WAKE_SIGNAL: Receive wake signalling on a dozing port (R119). -/
def execRxWakeSignal (port : Nat) (s : State) : Host.Outcome State Fault Refusal :=
  commit (dozeWake s port)

/-- TRANSMIT_PATH_SLEEP: The transmit path of port `port` goes to sleep (R125). -/
def execTransmitPathSleep (port : Nat) (s : State) : Host.Outcome State Fault Refusal :=
  commit (transmitPathSleep s port)

/-- GATE_LEAD_WAKE: LEAD ticks before the next gate opening of port `port` (R125). -/
def execGateLeadWake (port : Nat) (s : State) : Host.Outcome State Fault Refusal :=
  commit (gateLeadWake s port)

/-- XO_LOST: XO_IN is lost (R114, R115). -/
def execXoLost (s : State) : Host.Outcome State Fault Refusal :=
  commit (tblResume (xoLost s))

/-- XO_RETURN: XO_IN returns (R115). -/
def execXoReturn (s : State) : Host.Outcome State Fault Refusal :=
  commit (xoReturn s)

/-- SREF_WINDOW: A count window of reference `ref` ends with `count` edges (R114, R116). -/
def execSrefWindow (ref count : Nat) (s : State) : Host.Outcome State Fault Refusal :=
  commit (srefWindow s ref count)

/-- TEMP_SAMPLE: The sensor reads `degrees` (R459). -/
def execTempSample (degrees : Int) (s : State) : Host.Outcome State Fault Refusal :=
  commit (tempSample s degrees)

end Sys2Proof.Machine
end

