-- ==== Sys2Proof/Machine/LaneCmds.lean ====
section
/-!
DEFINITION. Machine/LaneCmds.lean: the meanings of the commands of the serial lanes (06_lanes.md R129 to R148).
-/
namespace Sys2Proof.Machine

/-- LANE_PLL_GOOD: The PLL of lane `lane` becomes good (R143). -/
def execLanePllGood (lane : Nat) (s : State) : Host.Outcome State Fault Refusal :=
  commit (lanePllGood s lane)

/-- TAP_UPDATE_REQUEST: The far receiver asks to move transmitter tap `tap` (R133). -/
def execTapUpdateRequest (lane tap : Nat) (up : Bool) (s : State) : Host.Outcome State Fault Refusal :=
  commit (tapRequest s lane tap up)

/-- TRAINING_COMPLETE: Both receivers are ready (R134). -/
def execTrainingComplete (lane : Nat) (s : State) : Host.Outcome State Fault Refusal :=
  commit (trainingComplete s lane)

/-- TRAINING_TIMEOUT: Training has not ended after 500 ms (R134). -/
def execTrainingTimeout (lane : Nat) (s : State) : Host.Outcome State Fault Refusal :=
  commit (trainingTimeout s lane)

/-- LANE_SYNC_GAINED: Lane `lane` gains sync (R143). -/
def execLaneSyncGained (lane : Nat) (s : State) : Host.Outcome State Fault Refusal :=
  commit (laneSyncGained s lane)

/-- LANE_SYNC_LOST: Lane `lane` loses sync or CDR lock (R143). -/
def execLaneSyncLost (lane : Nat) (s : State) : Host.Outcome State Fault Refusal :=
  commit (laneSyncLost s lane)

/-- LANE_WAKE_TIMEOUT: A lane woken from IDLE has not reached UP within 10 µs (R143). -/
def execLaneWakeTimeout (lane : Nat) (s : State) : Host.Outcome State Fault Refusal :=
  commit (laneWakeTimeout s lane)

/-- ALIGNMENT_MARKER: A marker arrives on stitch lane `lane` at block `pos`, `bip` being the parity counted since the last (R140). -/
def execAlignmentMarker (lane pos : Nat) (w0 w1 : Word) (bip : Nat) (s : State) : Host.Outcome State Fault Refusal :=
  commit (alignmentMarker s lane pos w0 w1 bip)

/-- RATE_MATCH_DELETE: A gap of `gap` units at a receive FIFO that holds `fill` (R137). -/
def execRateMatchDelete (lane sub fill : Nat) (s : State) (gap : Nat := 2) : Host.Outcome State Fault Refusal :=
  commit (rateDelete s lane sub fill gap)

/-- RATE_MATCH_INSERT: A gap at a receive FIFO that holds `fill` (R137). -/
def execRateMatchInsert (lane sub fill : Nat) (s : State) : Host.Outcome State Fault Refusal :=
  commit (rateInsert s lane sub fill)

/-- LANE_TEST_WRITE: A write of LN_TEST (R144). -/
def execLaneTestWrite (who : Who) (lane : Nat) (data : Word) (s : State) : Host.Outcome State Fault Refusal :=
  commit (laneOp s who .LN_TEST lane data)

/-- PRBS_CLEAR: A write of LN_TEST with CLR set (R144). -/
def execPrbsClear (who : Who) (lane : Nat) (data : Word) (s : State) : Host.Outcome State Fault Refusal :=
  commit (laneOp s who .LN_TEST lane data)

/-- TX_TAPS_WRITE: A write of LN_TX_TAPS (R135). -/
def execTxTapsWrite (who : Who) (lane : Nat) (data : Word) (s : State) : Host.Outcome State Fault Refusal :=
  commit (laneOp s who .LN_TX_TAPS lane data)

/-- EYE_SCAN_START: A write of LN_EYE_CMD with START set (R145). -/
def execEyeScanStart (who : Who) (lane : Nat) (data : Word) (s : State) : Host.Outcome State Fault Refusal :=
  commit (laneOp s who .LN_EYE_CMD lane data)

/-- EYE_SCAN_DONE: An eye scan ends with `counts` (R145). -/
def execEyeScanDone (lane : Nat) (counts : List Word) (s : State) : Host.Outcome State Fault Refusal :=
  commit (eyeDone s lane counts)

end Sys2Proof.Machine
end

