-- ==== Sys2Proof/Machine/LineCmds.lean ====
section
/-!
DEFINITION. Machine/LineCmds.lean: the meanings of the commands of the line channels (15_line_channels.md R361 to R380).
-/
namespace Sys2Proof.Machine

/-- LINE_FRAME_TX: A frame instant of LC_TX (R362, R376). -/
def execLineFrameTx (chan : Nat) (s : State) : Host.Outcome State Fault Refusal :=
  commit (leftMaybe s (218 + chan / 8) (fun s => lineFrameTx s chan))

/-- LINE_FRAME_RX: A received C37.94 frame, with `cands` candidate framings (R366). -/
def execLineFrameRx (chan cands : Nat) (hdrErr : Bool) (n : Nat) (rdi : Bool) (data : Bytes) (s : State) : Host.Outcome State Fault Refusal :=
  commit (leftMaybe s (218 + chan / 8) (fun s => lineFrameRx s chan cands hdrErr n rdi data))

/-- DEFECT_SAMPLE: The raw conditions are sampled (R368). -/
def execDefectSample (chan : Nat) (los ais : Bool) (s : State) : Host.Outcome State Fault Refusal :=
  commit (leftMaybe s (218 + chan / 8) (fun s => defectSample s chan los ais))

/-- CE_PACKET_FORM: A circuit-emulation packet is formed (R370). -/
def execCePacketForm (chan : Nat) (s : State) : Host.Outcome State Fault Refusal :=
  commit (leftMaybe s (218 + chan / 8) (fun s => packetForm s chan))

/-- CE_PACKET_RX: A circuit-emulation packet from ingress port `port` reaches a channel (R371 to R375). -/
def execCePacketRx (frame : Bytes) (s : State) (port : Nat := 130) : Host.Outcome State Fault Refusal :=
  commit (leftMaybe s 223 (fun s => cePacketRx s port frame))

/-- CHANNEL_BUFFER_RETRY: A failed ring-buffer request is retried (R377). -/
def execChannelBufferRetry (chan : Nat) (s : State) : Host.Outcome State Fault Refusal :=
  commit (leftMaybe s (218 + chan / 8) (fun s => chanRetry s chan))

/-- CHANNEL_DISABLE: A channel's disable completes (R377). -/
def execChannelDisable (chan : Nat) (s : State) : Host.Outcome State Fault Refusal :=
  commit (chanDisable s chan)

/-- LOS_RAW: LC_RX has had no transition for 32 bit periods (R366). -/
def execLosRaw (chan : Nat) (s : State) : Host.Outcome State Fault Refusal :=
  commit (leftMaybe s (218 + chan / 8) (fun s => losRaw s chan))

end Sys2Proof.Machine
end

