-- ==== Sys2Proof/Machine/MacCmds.lean ====
section
/-!
DEFINITION. Machine/MacCmds.lean: the meanings of the commands of the port MACs (07_mac.md R149 to R177).
-/
namespace Sys2Proof.Machine

/-- PREEMPT: The preemptable frame of port `port` is cut after `sent` bytes (R162). -/
def execPreempt (port sent : Nat) (s : State) : Host.Outcome State Fault Refusal :=
  commit (preempt s port sent)

/-- PORT_ENABLE: A write of MAC_CFG_p with PORT_EN 1 (R171). -/
def execPortEnable (who : Who) (port : Nat) (data : Word) (s : State) : Host.Outcome State Fault Refusal :=
  commit (writeOp s who (Reg.key ⟨.MAC_CFG, port, 0⟩) data)

/-- PORT_DISABLE: A write of MAC_CFG_p with PORT_EN 0 (R172). -/
def execPortDisable (who : Who) (port : Nat) (data : Word) (s : State) : Host.Outcome State Fault Refusal :=
  commit (writeOp s who (Reg.key ⟨.MAC_CFG, port, 0⟩) data)

/-- DISABLE_DRAIN_LIMIT: DRAIN_LIMIT expires (R172). -/
def execDisableDrainLimit (port : Nat) (s : State) : Host.Outcome State Fault Refusal :=
  commit (drainLimit s port)

/-- DISABLE_END: The disable of port `port` ends (R172). -/
def execDisableEnd (port : Nat) (s : State) : Host.Outcome State Fault Refusal :=
  commit (disableEnd s port)

/-- LINK_UP: The link of port `port` comes up at speed code `speed` (R171). -/
def execLinkUp (port speed : Nat) (s : State) : Host.Outcome State Fault Refusal :=
  commit (linkUpFx s port speed)

/-- LINK_DOWN: The link of port `port` goes down (R174). -/
def execLinkDown (port : Nat) (s : State) : Host.Outcome State Fault Refusal :=
  commit (linkDownFx s port)

/-- REMOTE_FAULT_RX: Remote fault is received (R155). -/
def execRemoteFaultRx (port : Nat) (s : State) : Host.Outcome State Fault Refusal :=
  commit (remoteFault s port)

/-- LOCAL_FAULT_RX: Local fault is received (R155). -/
def execLocalFaultRx (port : Nat) (s : State) : Host.Outcome State Fault Refusal :=
  commit (localFault s port)

/-- VERIFY_MPACKET_RX: A verify mPacket is received (R159). -/
def execVerifyMpacketRx (port : Nat) (s : State) : Host.Outcome State Fault Refusal :=
  commit (verifyRx s port)

/-- RESPOND_MPACKET_RX: A respond mPacket is received (R159). -/
def execRespondMpacketRx (port : Nat) (s : State) : Host.Outcome State Fault Refusal :=
  commit (respondRx s port)

/-- VERIFY_TIMEOUT: VERIFY_TIME passes (R159). -/
def execVerifyTimeout (port : Nat) (s : State) : Host.Outcome State Fault Refusal :=
  commit (verifyTimeout s port)

/-- TX_LPI_ENTRY: The transmit queues have been empty for IDLE µs (R169). -/
def execTxLpiEntry (port : Nat) (s : State) : Host.Outcome State Fault Refusal :=
  commit (txLpiEntry s port)

/-- TX_LPI_EXIT: A frame reaches a port in transmit low-power idle (R169). -/
def execTxLpiExit (port : Nat) (s : State) : Host.Outcome State Fault Refusal :=
  commit (ctlFlush (txLpiExit s port) port)

/-- RX_LPI_CHANGE: The partner enters or leaves low-power idle (R169). -/
def execRxLpiChange (port : Nat) (lpi : Bool) (s : State) : Host.Outcome State Fault Refusal :=
  commit (rxLpiChange s port lpi)

end Sys2Proof.Machine
end

