-- ==== Sys2Proof/Machine/ResetCmds.lean ====
section
/-!
DEFINITION. Machine/ResetCmds.lean: the meanings of the commands of block resets behind their wrappers (04_startup_reset.md R36, R101 to R110).
-/
namespace Sys2Proof.Machine

/-- BLOCK_RESET_PULSE: A BLOCK_RESET pulse (R36, R103, R106). -/
def execBlockResetPulse (who : Who) (mask : Nat) (s : State) : Host.Outcome State Fault Refusal :=
  commit (tblResume (blkResetOp s who .pulse mask))

/-- BLOCK_RESET_HOLD: A BLOCK_RESET hold (R36, R103, R106). -/
def execBlockResetHold (who : Who) (mask : Nat) (s : State) : Host.Outcome State Fault Refusal :=
  commit (tblResume (blkResetOp s who .hold mask))

/-- BLOCK_RESET_RELEASE: A BLOCK_RESET release (R103, R109). -/
def execBlockResetRelease (who : Who) (mask : Nat) (s : State) : Host.Outcome State Fault Refusal :=
  commit (blkResetOp s who .release mask)

/-- ISOLATION_COMPLETE: Isolation of block `block` completes (R104). -/
def execIsolationComplete (block : Nat) (s : State) : Host.Outcome State Fault Refusal :=
  commit (isolationDone_ s block)

/-- RESET_PULSE_END: The 64-cycle reset of block `block` ends (R103). -/
def execResetPulseEnd (block : Nat) (s : State) : Host.Outcome State Fault Refusal :=
  commit (resetPulseEnd s block)

/-- BLOCK_RELEASE: The clock of block `block` is good and it is released (R108). -/
def execBlockRelease (block : Nat) (s : State) : Host.Outcome State Fault Refusal :=
  commit (blockReleased s block)

/-- CLOCK_FAIL: The release of block `block` is abandoned (R108). -/
def execClockFail (block : Nat) (s : State) : Host.Outcome State Fault Refusal :=
  commit (blockClockFail s block)

/-- FREE_LIST_REBUILD_DONE: The free lists of the Carafe are rebuilt (R105). -/
def execFreeListRebuildDone (s : State) : Host.Outcome State Fault Refusal :=
  commit (rebuildDone s)

end Sys2Proof.Machine
end

