-- ==== Sys2Proof/Machine/ScanCmds.lean ====
section
/-!
DEFINITION. Machine/ScanCmds.lean: the meanings of the commands of the test access port (19_electrical.md R457).
-/
namespace Sys2Proof.Machine

/-- TCK_EDGE: An edge on TCK, with TMS, TDI and TRST_N as they stand (R457). -/
def execTckEdge (rising tms tdi trst : Bool) (s : State) : Host.Outcome State Fault Refusal :=
  commit (tckEdge s rising tms tdi trst)

end Sys2Proof.Machine
end

