-- ==== Sys2Proof/Machine/SchedCmds.lean ====
section
/-!
DEFINITION. Machine/SchedCmds.lean: the meanings of the commands of gate lists, and the sweeps of the redundancy functions (11_scheduling.md R266 to R273; 12_redundancy_audit.md R298).
-/
namespace Sys2Proof.Machine

/-- GATE_ENTRY_START: An entry of the operating gate list of port `port` starts (R266). -/
def execGateEntryStart (port : Nat) (s : State) : Host.Outcome State Fault Refusal :=
  commit (gateEntryStart s port)

/-- HOLD_ADVANCE: HOLD_ADVANCE before a Set-And-Hold-MAC entry (R268). -/
def execHoldAdvance (port : Nat) (s : State) : Host.Outcome State Fault Refusal :=
  commit (holdAdvance s port)

/-- CONFIG_CHANGE: CHANGE_TIME of port `port` has come (R271). -/
def execConfigChange (port : Nat) (s : State) : Host.Outcome State Fault Refusal :=
  commit (configChange s port)

/-- NODE_RESET_SWEEP: The node reset sweep visits an entry (R298). -/
def execNodeResetSweep (s : State) : Host.Outcome State Fault Refusal :=
  commit (nodeReset s)

/-- RECORD_RESET_SWEEP: The record reset sweep visits an entry (R298). -/
def execRecordResetSweep (s : State) : Host.Outcome State Fault Refusal :=
  commit (recordReset s)

/-- NODE_FORGET_SWEEP: The node forget sweep visits an entry (R298). -/
def execNodeForgetSweep (s : State) : Host.Outcome State Fault Refusal :=
  commit (nodeForget s)

/-- LATENT_ERROR_SWEEP: The latent-error sweep visits an entry (R298). -/
def execLatentErrorSweep (s : State) : Host.Outcome State Fault Refusal :=
  commit (latentSweep s)

end Sys2Proof.Machine
end

