-- ==== Sys2Proof/Machine/StitchRx.lean ====
section
/-!
DEFINITION. Machine/StitchRx.lean: segments and messages that arrive over a stitch link, and the image that one brings
(18_twins.md R426, R427, R430, R431, R434; 04_startup_reset.md R99).
-/
namespace Sys2Proof.Machine

/-! ## Image passing, the receiver's side (R434) -/

/-- An IMAGE_ACK: the next byte expected, STATUS and fault code. -/
def imageAck (s : State) (next status code : Nat) : State :=
  msgQueue { s with twin := { s.twin with blocks := 0 } } 0 0 6 (wd next) (put 24 8 code ||| put 0 8 status) []

/-- The bytes accepted so far become `rx`: the image is complete, or wrong already, or goes on. -/
def imageTake (s : State) (rx : Bytes) : State :=
  let n := s.twin.blocks + 1
  let more := { s with
    boot := { s.boot with rx := rx }
    twin := { s.twin with blocks := n } }
  let more := if n % 16 = 0 then imageAck more rx.length 0 0 else more
  if rx.length < 64 then more
  else match headFault s.boot.fuses rx with
    | some c => rejectLink (imageAck s 0 3 c) (faultWord c 0)
    | none =>
      if rx.length > imageTotal rx then imageAck s s.boot.rx.length 1 0
      else if rx.length < imageTotal rx then more
      else
        match imageVerdict s.boot.fuses (devNo s) rx with
        | .accept => acceptImage (imageAck (s.wr .DEV_ROAST_FAULT_A 0 0 0) rx.length 2 0) rx 4
        | .fault c o =>
          let w := verdictWord s (.fault c o)
          rejectLink (imageAck w.2 0 3 c) w.1

/-- A received IMAGE_BLOCK (R434): of effect only in a stitch-link boot. -/
def imageBlockRx (s : State) (off : Nat) (d : Bytes) : State :=
  if s.boot.st ≠ .load ∨ bootSrc s ≠ 2 then s else
  let s := { s with twin := { s.twin with blocksCame := true } }
  let rx := if off = 0 then [] else s.boot.rx
  if off ≠ rx.length then imageAck s s.boot.rx.length 1 0 else imageTake (stage d.length s off d) (rx ++ d)

/-! ## Messages (R430, R431) -/

/-- The check of a received message: its length, HCRC, CRC-32 and KIND, with the KINDs that S0 alone carries (R430). -/
def msgGood (l : Nat) (m : Bytes) : Bool :=
  let k := fld (wordAt m 0) 28 4
  decide (20 ≤ m.length) && m.length % 4 == 0 && crc16 0xFFFF (m.take 14) == beAt m 14 2 &&
  crc32 (m.take (m.length - 4)) == beAt m (m.length - 4) 4 && decide (2 ≤ k) && decide (k ≤ 8) &&
  (l == 0 || k == 3 || k == 4)

/-- A message arrives whole on link `l`, its SEG block `half` half nanoseconds after the last tick. -/
def msgRx (s : State) (l half : Nat) (m : Bytes) : State :=
  if !msgGood l m then s.bump .TWN_MSG_ERR l else
  let w := wordAt m
  let n := m.length / 4 - 5
  let body := (List.range n).map (fun i => w (4 + i))
  match fld (w 0) 28 4 with
  | 2 => heartbeatRx s (w 1)
  | 3 => timeRx s l (s.stamp half) (fld (w 0) 0 16) body
  | 4 => learnRx s l (w 1) body
  | 5 => imageBlockRx s (w 1).toNat (slice m 16 (4 * n))
  | 6 => imageAckRx s (w 1) (w 2)
  | 7 => snapshotRx s (w 1) (w 2) body
  | _ => healthRx s body

/-! ## Segments (R426, R427) -/

/-- A SEG block with its data blocks arrives on link `l`; where the link's FIFO fails within it, FIFO_ERR is set at the link's first
lane, which keeps that FIFO, and the frame will end with a code error (R138).  A word of an unknown TYPE is counted; filler and the TYPE of a CREDIT
block are no segment and change nothing here (R426).  The closed wrapper of the link's block discards it, and counts a frame or
message by its first segment (R27, R104). -/
def segRx (s : State) (l half : Nat) (w0 : Word) (data : Bytes) (fifoErr : Bool := false) : State :=
  if l < 3 && closed s (29 + l) then (if fld w0 24 8 = 0x78 ∧ tst w0 19 then isoDiscard s (29 + l) else s)
  else if !(s.link l).up then s else
  leftMaybe s (224 + l) fun s =>
  let s := occ s (29 + l) 0x11 0 (1 + ceilDiv (fld w0 8 8) 8)
  if fld w0 24 8 = 0xB4 ∨ fld w0 24 8 = 0x1E then s
  else if fld w0 24 8 ≠ 0x78 then s.bump .TWN_SEG_ERR l
  else if fld w0 20 4 < 15 then
    if fifoErr then dataSeg (s.setFlags .LN_STATUS ((linkLanes l).headD 32) 0 2) l (fld w0 20 4) w0 data true
    else dataSeg s l (fld w0 20 4) w0 data
  else
    let s := s.setLink l { (s.link l) with msgGot := ((s.link l).msgGot + 1) % 256 }
    if !tst w0 19 || !tst w0 18 then s.bump .TWN_SEG_ERR l else msgRx s l half (slice data 0 (fld w0 8 8))

/-- A message of KIND `kind` arrives in its one segment (R427). -/
def msgRow (s : State) (l half kind : Nat) (m : Bytes) : State :=
  if fld (wordAt m 0) 28 4 = kind then segRx s l half (segWord 15 true true false m.length) m else s

end Sys2Proof.Machine
end

