-- ==== Sys2Proof/Machine/StitchCmds.lean ====
section
/-!
DEFINITION. Machine/StitchCmds.lean: the meanings of the commands of the stitch links and their messages (18_twins.md R426 to R434).
-/
namespace Sys2Proof.Machine

/-- HEARTBEAT: A HEARTBEAT message arrives (R412, R413, R430). -/
def execHeartbeat (link half : Nat) (msg : Bytes) (s : State) : Host.Outcome State Fault Refusal :=
  commit (msgRow s link half 2 msg)

/-- SNAPSHOT: A SNAPSHOT message arrives (R417, R430). -/
def execSnapshot (link half : Nat) (msg : Bytes) (s : State) : Host.Outcome State Fault Refusal :=
  commit (msgRow s link half 7 msg)

/-- HEALTH: A HEALTH message arrives (R425, R430). -/
def execHealth (link half : Nat) (msg : Bytes) (s : State) : Host.Outcome State Fault Refusal :=
  commit (msgRow s link half 8 msg)

/-- SEG: A segment arrives (R426, R427, R431); `fifoErr` says that the link's receive FIFO overflows or underruns within it (R138). -/
def execSeg (link half : Nat) (w0 : Word) (data : Bytes) (s : State) (fifoErr : Bool := false) : Host.Outcome State Fault Refusal :=
  commit (segRx s link half w0 data fifoErr)

/-- CREDIT: A CREDIT block arrives (R428, R431). -/
def execCredit (link : Nat) (w0 : Word) (s : State) : Host.Outcome State Fault Refusal :=
  commit (leftMaybe s (224 + link) (fun s => creditRx s link w0))

/-- CREDIT_DUE: A CREDIT block is due (R427). -/
def execCreditDue (link : Nat) (s : State) : Host.Outcome State Fault Refusal :=
  commit (leftMaybe s (224 + link) (fun s => creditDue s link))

/-- STITCH_LINK_TIMEOUT: No CREDIT block has arrived for 10 µs (R431). -/
def execStitchLinkTimeout (link : Nat) (s : State) : Host.Outcome State Fault Refusal :=
  commit (stitchTimeout s link)

/-- TIME_SEND: A whole millisecond on link `link` (R432). -/
def execTimeSend (link half : Nat) (s : State) : Host.Outcome State Fault Refusal :=
  commit (leftMaybe s (224 + link) (fun s => timeSend s link half))

/-- TIME: A TIME message arrives (R430, R432). -/
def execTime (link half : Nat) (msg : Bytes) (s : State) : Host.Outcome State Fault Refusal :=
  commit (msgRow s link half 3 msg)

/-- LEARN: A LEARN message arrives (R224, R430). -/
def execLearn (link half : Nat) (msg : Bytes) (s : State) : Host.Outcome State Fault Refusal :=
  commit (msgRow s link half 4 msg)

/-- IMAGE_BLOCK: An IMAGE_BLOCK message arrives (R430, R434). -/
def execImageBlock (link half : Nat) (msg : Bytes) (s : State) : Host.Outcome State Fault Refusal :=
  commit (msgRow s link half 5 msg)

/-- IMAGE_ACK: An IMAGE_ACK message arrives (R430, R434). -/
def execImageAck (link half : Nat) (msg : Bytes) (s : State) : Host.Outcome State Fault Refusal :=
  commit (msgRow s link half 6 msg)

/-- IMAGE_ACK_DUE: The 10 ms period of IMAGE_ACK (R434). -/
def execImageAckDue (s : State) : Host.Outcome State Fault Refusal :=
  commit (imageAckDue s)

/-- LEARN_MESSAGE_DUE: Eight notices have gathered or 1 µs has passed (R433). -/
def execLearnMessageDue (link : Nat) (s : State) : Host.Outcome State Fault Refusal :=
  commit (leftMaybe s (224 + link) (fun s => learnMessageDue s link))

end Sys2Proof.Machine
end

