-- ==== Sys2Proof/Machine/TableCmds.lean ====
section
/-!
DEFINITION. Machine/TableCmds.lean: the meanings of the commands of table commands and the sweeps of the forwarding database (09_fdb_learning.md R210 to R228).
-/
namespace Sys2Proof.Machine

/-- TABLE_READ: The table command READ (R210). -/
def execTableRead (who : Who) (region index : Nat) (args : List Word) (s : State) : Host.Outcome State Fault Refusal :=
  commit (tableRow s who 1 region index args 16)

/-- TABLE_WRITE: The table command WRITE (R210, R213). -/
def execTableWrite (who : Who) (region index : Nat) (args : List Word) (s : State) : Host.Outcome State Fault Refusal :=
  commit (tableRow s who 2 region index args 16)

/-- TABLE_INSERT: The table command INSERT (R210, R213). -/
def execTableInsert (who : Who) (region : Nat) (args : List Word) (s : State) : Host.Outcome State Fault Refusal :=
  commit (tableRow s who 3 region 0 args 16)

/-- TABLE_LOOKUP: The table command LOOKUP (R210). -/
def execTableLookup (who : Who) (region : Nat) (args : List Word) (s : State) : Host.Outcome State Fault Refusal :=
  commit (tableRow s who 4 region 0 args 16)

/-- TABLE_DELETE: The table command DELETE (R210, R213). -/
def execTableDelete (who : Who) (region : Nat) (args : List Word) (s : State) : Host.Outcome State Fault Refusal :=
  commit (tableRow s who 5 region 0 args 16)

/-- TABLE_NEXT: The table command NEXT (R210). -/
def execTableNext (who : Who) (region index : Nat) (args : List Word) (s : State) : Host.Outcome State Fault Refusal :=
  commit (tableRow s who 6 region index args 16)

/-- TABLE_FLUSH: The table command FLUSH (R210, R222). -/
def execTableFlush (who : Who) (args : List Word) (s : State) : Host.Outcome State Fault Refusal :=
  commit (tableRow s who 7 0 0 args 16)

/-- TABLE_LOAD: The table command LOAD (R210). -/
def execTableLoad (who : Who) (offset : Nat) (args : List Word) (s : State) : Host.Outcome State Fault Refusal :=
  commit (tableRow s who 8 0 offset args 16)

/-- TABLE_FETCH: The table command FETCH (R210). -/
def execTableFetch (who : Who) (offset count : Nat) (s : State) : Host.Outcome State Fault Refusal :=
  commit (tableRow s who 9 0 offset [] count)

/-- LEARN_COMMIT: The learning engine takes a request (R215). -/
def execLearnCommit (s : State) : Host.Outcome State Fault Refusal :=
  commit (learnCommit s)

/-- AGING_SWEEP: The aging sweep visits an index (R221). -/
def execAgingSweep (s : State) : Host.Outcome State Fault Refusal :=
  commit (agingSweep s)

/-- FLUSH_SWEEP: The flush sweep visits a bucket (R222). -/
def execFlushSweep (s : State) : Host.Outcome State Fault Refusal :=
  commit (flushSweep s)

end Sys2Proof.Machine
end

