-- ==== Sys2Proof/Machine/TimeCmds.lean ====
section
/-!
DEFINITION. Machine/TimeCmds.lean: the meanings of the commands of the Timekeeper, the PTP engine and the time pins (13_time.md R305 to R337; 14_endpoint.md R357).
-/
namespace Sys2Proof.Machine

/-- TIMEKEEPER_TICK: A 4 ns tick of the time PLL (R306, R331); a control engine's frame whose wait for TW_TX it ends leaves (R169). -/
def execTimekeeperTick (s : State) : Host.Outcome State Fault Refusal :=
  commit (ctlFlush (ctlFlush (timekeeperTick s) 128) 129)

/-- TIME_PLL_RELOCK: The time PLL locks again (R310). -/
def execTimePllRelock (s : State) : Host.Outcome State Fault Refusal :=
  commit (let t := pllRelock s; if s.time.pllLost && !t.time.pllLost then timePllBack t else t)

/-- SET: TK_CMD SET, and the tick at which it acts (R331). -/
def execSet (who : Who) (data : Word) (s : State) : Host.Outcome State Fault Refusal :=
  commit (stepRow s who data)

/-- ADD: TK_CMD ADD, and the tick at which it acts (R331). -/
def execAdd (who : Who) (data : Word) (s : State) : Host.Outcome State Fault Refusal :=
  commit (stepRow s who data)

/-- SUBTRACT: TK_CMD SUBTRACT, and the tick at which it acts (R331). -/
def execSubtract (who : Who) (data : Word) (s : State) : Host.Outcome State Fault Refusal :=
  commit (stepRow s who data)

/-- ARM_AUTO: TK_CMD ARM_AUTO (R328). -/
def execArmAuto (who : Who) (data : Word) (s : State) : Host.Outcome State Fault Refusal :=
  commit (writeOp s who (Reg.key ⟨.TK_CMD, 0, 0⟩) data)

/-- DISARM_AUTO: TK_CMD DISARM_AUTO (R328). -/
def execDisarmAuto (who : Who) (data : Word) (s : State) : Host.Outcome State Fault Refusal :=
  commit (writeOp s who (Reg.key ⟨.TK_CMD, 0, 0⟩) data)

/-- SYNC_RX: A Sync reaches the engine from port `port`, received at `t` (R324, R325). -/
def execSyncRx (port : Nat) (frame : Bytes) (t : Nat) (s : State) : Host.Outcome State Fault Refusal :=
  commit (leftMaybe s 220 (fun s => syncRx s port frame t))

/-- FOLLOW_UP_RX: A Follow_Up reaches the engine (R324). -/
def execFollowUpRx (port : Nat) (frame : Bytes) (s : State) : Host.Outcome State Fault Refusal :=
  commit (leftMaybe s 220 (fun s => followUpRx s port frame))

/-- ANNOUNCE_RX: An Announce reaches the engine (R324). -/
def execAnnounceRx (port : Nat) (frame : Bytes) (s : State) : Host.Outcome State Fault Refusal :=
  commit (leftMaybe s 220 (fun s => announceRx s port frame))

/-- DELAY_REQ_RX: A Delay_Req reaches the engine (R321). -/
def execDelayReqRx (port : Nat) (frame : Bytes) (t : Nat) (s : State) : Host.Outcome State Fault Refusal :=
  commit (leftMaybe s 220 (fun s => delayReqRx s port frame t))

/-- DELAY_RESP_RX: A Delay_Resp reaches the engine (R321). -/
def execDelayRespRx (port : Nat) (frame : Bytes) (s : State) : Host.Outcome State Fault Refusal :=
  commit (leftMaybe s 220 (fun s => delayRespRx s port frame))

/-- PDELAY_REQ_RX: A Pdelay_Req reaches the engine (R319). -/
def execPdelayReqRx (port : Nat) (frame : Bytes) (t : Nat) (s : State) : Host.Outcome State Fault Refusal :=
  commit (leftMaybe s 220 (fun s => pdelayReqRx s port frame t))

/-- PDELAY_RESP_RX: A Pdelay_Resp reaches the engine (R320). -/
def execPdelayRespRx (port : Nat) (frame : Bytes) (t : Nat) (s : State) : Host.Outcome State Fault Refusal :=
  commit (leftMaybe s 220 (fun s => pdelayRespRx s port frame t))

/-- PDELAY_RESP_FOLLOW_UP_RX: A Pdelay_Resp_Follow_Up reaches the engine (R320). -/
def execPdelayRespFollowUpRx (port : Nat) (frame : Bytes) (s : State) : Host.Outcome State Fault Refusal :=
  commit (leftMaybe s 220 (fun s => pdelayFollowRx s port frame))

/-- FOLLOW_UP_SEND: A Follow_Up whose t1 is known is sent (R322). -/
def execFollowUpSend (s : State) : Host.Outcome State Fault Refusal :=
  commit (leftMaybe s 220 (fun s => followUpSend s))

/-- PDELAY_RESP_FOLLOW_UP_SEND: A Pdelay_Resp_Follow_Up whose t3 is known is sent (R319). -/
def execPdelayRespFollowUpSend (s : State) : Host.Outcome State Fault Refusal :=
  commit (leftMaybe s 220 (fun s => pdelayFollowSend s))

/-- SYNC_DUE: The Sync interval of domain `dom` ends (R322). -/
def execSyncDue (dom : Nat) (s : State) : Host.Outcome State Fault Refusal :=
  commit (leftMaybe s 220 (fun s => syncDue s dom))

/-- ANNOUNCE_DUE: The Announce interval of domain `dom` ends (R322). -/
def execAnnounceDue (dom : Nat) (s : State) : Host.Outcome State Fault Refusal :=
  commit (leftMaybe s 220 (fun s => announceDue s dom))

/-- PDELAY_REQ_DUE: The Pdelay_Req interval of port `port` ends (R320). -/
def execPdelayReqDue (port : Nat) (s : State) : Host.Outcome State Fault Refusal :=
  commit (leftMaybe s 220 (fun s => pdelayReqDue s port))

/-- DELAY_REQ_DUE: The Delay_Req interval of domain `dom` ends (R321). -/
def execDelayReqDue (dom : Nat) (s : State) : Host.Outcome State Fault Refusal :=
  commit (leftMaybe s 220 (fun s => delayReqDue s dom))

/-- SYNC_LOST: No Sync has arrived for 3 intervals (R324). -/
def execSyncLost (dom : Nat) (s : State) : Host.Outcome State Fault Refusal :=
  commit (leftMaybe s 220 (fun s => syncLost s dom))

/-- ANN_LOST: No Announce has arrived for ANN_TIMEOUT intervals (R324). -/
def execAnnLost (dom : Nat) (s : State) : Host.Outcome State Fault Refusal :=
  commit (leftMaybe s 220 (fun s => annLost s dom))

/-- PPS_IN_EDGE: A PPS_IN edge, `half` half nanoseconds after the last tick (R332). -/
def execPpsInEdge (half : Nat) (s : State) : Host.Outcome State Fault Refusal :=
  commit (leftMaybe s 234 (fun s => ppsInEdge s half))

/-- PPS_IN_LOST: No accepted PPS_IN edge for 1.5 s (R332). -/
def execPpsInLost (s : State) : Host.Outcome State Fault Refusal :=
  commit (leftMaybe s 234 (fun s => ppsInLost s))

/-- PPS_OUT_EDGE: An edge of PPS_OUT `output` falls due (R333, R420). -/
def execPpsOutEdge (output : Nat) (s : State) : Host.Outcome State Fault Refusal :=
  commit (leftMaybe s 234 (fun s => ppsOutEdge s output))

/-- IRIG_FRAME: An IRIG-B frame starts (R335). -/
def execIrigFrame (s : State) : Host.Outcome State Fault Refusal :=
  commit (leftMaybe s 234 (fun s => irigFrame s))

/-- PTP_ENGINE_RETRY: The PTP engine retries its local-store requests (R357). -/
def execPtpEngineRetry (s : State) : Host.Outcome State Fault Refusal :=
  commit (leftMaybe s 220 (fun s => ptpRetry s))

end Sys2Proof.Machine
end

