-- ==== Sys2Proof/Machine/TwinCmds.lean ====
section
/-!
DEFINITION. Machine/TwinCmds.lean: the meanings of the commands of roles, heartbeats, snapshots, the self-test and the flash (18_twins.md R411 to R425).
-/
namespace Sys2Proof.Machine

/-- PIN_HEARTBEAT: The 250 µs grid of HB_OUT (R412). -/
def execPinHeartbeat (s : State) : Host.Outcome State Fault Refusal :=
  commit (pinHeartbeat s)

/-- HEARTBEAT_SEND: The 100 µs period of HEARTBEAT (R412). -/
def execHeartbeatSend (s : State) : Host.Outcome State Fault Refusal :=
  commit (heartbeatSend s)

/-- HB_IN_EDGE: An edge on HB_IN (R412). -/
def execHbInEdge (s : State) : Host.Outcome State Fault Refusal :=
  commit (hbInEdge s)

/-- PATH_SILENT: A heartbeat path has had no event for FAIL_TIME (R413). -/
def execPathSilent (pin : Bool) (s : State) : Host.Outcome State Fault Refusal :=
  commit (pathSilent s pin)

/-- ROLE_CLAIM: A claim trigger holds and PEER_CLAIM_N has read high for 157 ticks (R414, R415). -/
def execRoleClaim (s : State) : Host.Outcome State Fault Refusal :=
  commit (roleClaim s)

/-- CLAIM_RESOLVE: 63 ticks after a claim (R414, R415). -/
def execClaimResolve (s : State) : Host.Outcome State Fault Refusal :=
  commit (claimResolve s)

/-- FLASH_POLL: The shared flash reports its status (R421). -/
def execFlashPoll (ready : Bool) (s : State) : Host.Outcome State Fault Refusal :=
  commit (flashPoll s ready)

/-- FLASH_RESET_TIMEOUT: The shared flash is still busy 8 ms after takeover (R421). -/
def execFlashResetTimeout (s : State) : Host.Outcome State Fault Refusal :=
  commit (flashResetTimeout s)

/-- HANDOVER: TWN_CMD HANDOVER (R414). -/
def execHandover (who : Who) (data : Word) (s : State) : Host.Outcome State Fault Refusal :=
  commit (writeOp s who (Reg.key ⟨.TWN_CMD, 0, 0⟩) data)

/-- ROLE_RELEASE: RELEASING ends (R414). -/
def execRoleRelease (s : State) : Host.Outcome State Fault Refusal :=
  commit (roleRelease s)

/-- SNAPSHOT_DUE: SNAP_PERIOD ends (R417). -/
def execSnapshotDue (s : State) : Host.Outcome State Fault Refusal :=
  commit (snapshotTake s)

/-- SNAP_NOW: TWN_CMD SNAP_NOW (R417). -/
def execSnapNow (who : Who) (data : Word) (s : State) : Host.Outcome State Fault Refusal :=
  commit (writeOp s who (Reg.key ⟨.TWN_CMD, 0, 0⟩) data)

/-- SELFTEST_DUE: ST_PERIOD ends; `meas` is what the round measures (R425). -/
def execSelftestDue (meas : Measured) (s : State) : Host.Outcome State Fault Refusal :=
  commit (selftest s meas)

/-- SELFTEST_NOW: TWN_CMD SELFTEST_NOW; `meas` is what the round measures (R425). -/
def execSelftestNow (who : Who) (data : Word) (meas : Measured) (s : State) : Host.Outcome State Fault Refusal :=
  commit (hostOp s who (fun s => (stOk, 0, [], twnCmd (occ s 39 0x06 0) data meas)))

/-- FLASH_READ: TWN_FLASH_CMD READ (R424). -/
def execFlashRead (who : Who) (data : Word) (s : State) : Host.Outcome State Fault Refusal :=
  commit (writeOp s who (Reg.key ⟨.TWN_FLASH_CMD, 0, 0⟩) data)

/-- FLASH_PROGRAM: TWN_FLASH_CMD PROGRAM (R424). -/
def execFlashProgram (who : Who) (data : Word) (s : State) : Host.Outcome State Fault Refusal :=
  commit (writeOp s who (Reg.key ⟨.TWN_FLASH_CMD, 0, 0⟩) data)

/-- FLASH_ERASE_4K: TWN_FLASH_CMD ERASE_4K (R424). -/
def execFlashErase4k (who : Who) (data : Word) (s : State) : Host.Outcome State Fault Refusal :=
  commit (writeOp s who (Reg.key ⟨.TWN_FLASH_CMD, 0, 0⟩) data)

/-- FLASH_ERASE_64K: TWN_FLASH_CMD ERASE_64K (R424). -/
def execFlashErase64k (who : Who) (data : Word) (s : State) : Host.Outcome State Fault Refusal :=
  commit (writeOp s who (Reg.key ⟨.TWN_FLASH_CMD, 0, 0⟩) data)

/-- FLASH_OP_DONE: A flash operation completes (R424). -/
def execFlashOpDone (timeout : Bool) (data : Bytes) (s : State) : Host.Outcome State Fault Refusal :=
  commit (flashOpDone s timeout data)

end Sys2Proof.Machine
end

