-- ==== Sys2Proof/Machine/Dispatch.lean ====
section
/-!
DEFINITION. Machine/Dispatch.lean: which meaning a command has, one arm for each row of opcode_table.json.
-/
namespace Sys2Proof.Machine

/-- The effect of command `i` on everything but the queue of waiting commands. -/
def exec (i : Instr) (s : State) : Host.Outcome State Fault Refusal :=
  match i with
  | .powerOnReset => Sys2Proof.Machine.execPowerOnReset s
  | .resetNAssert => Sys2Proof.Machine.execResetNAssert s
  | .resetNRelease => Sys2Proof.Machine.execResetNRelease s
  | .railLoss rail => Sys2Proof.Machine.execRailLoss rail s
  | .fuseLoadDone fuses pass => Sys2Proof.Machine.execFuseLoadDone fuses pass s
  | .railsGood straps => Sys2Proof.Machine.execRailsGood straps s
  | .bootClocksLocked => Sys2Proof.Machine.execBootClocksLocked s
  | .clockLockTimeout => Sys2Proof.Machine.execClockLockTimeout s
  | .imageCheck image => Sys2Proof.Machine.execImageCheck image s
  | .imageApply => Sys2Proof.Machine.execImageApply s
  | .bootOffer => Sys2Proof.Machine.execBootOffer s
  | .bootBlock lane frame => Sys2Proof.Machine.execBootBlock lane frame s
  | .controlFrame lane waiting frame => Sys2Proof.Machine.execControlFrame lane waiting frame s
  | .read who addr => Sys2Proof.Machine.execRead who addr s
  | .write who addr data => Sys2Proof.Machine.execWrite who addr data s
  | .rmw who addr mask value => Sys2Proof.Machine.execRmw who addr mask value s
  | .burstRead who window start count => Sys2Proof.Machine.execBurstRead who window start count s
  | .burstWrite who window start data => Sys2Proof.Machine.execBurstWrite who window start data s
  | .fence who => Sys2Proof.Machine.execFence who s
  | .fenceComplete ctx => Sys2Proof.Machine.execFenceComplete ctx s
  | .updateImmediate who groups => Sys2Proof.Machine.execUpdateImmediate who groups s
  | .updateTimed who groups sec ns => Sys2Proof.Machine.execUpdateTimed who groups sec ns s
  | .updateCancel who groups => Sys2Proof.Machine.execUpdateCancel who groups s
  | .timedStrobeFire group => Sys2Proof.Machine.execTimedStrobeFire group s
  | .eventClaim who source => Sys2Proof.Machine.execEventClaim who source s
  | .eventComplete who source => Sys2Proof.Machine.execEventComplete who source s
  | .blockResetPulse who mask => Sys2Proof.Machine.execBlockResetPulse who mask s
  | .blockResetHold who mask => Sys2Proof.Machine.execBlockResetHold who mask s
  | .blockResetRelease who mask => Sys2Proof.Machine.execBlockResetRelease who mask s
  | .isolationComplete block => Sys2Proof.Machine.execIsolationComplete block s
  | .resetPulseEnd block => Sys2Proof.Machine.execResetPulseEnd block s
  | .blockRelease block => Sys2Proof.Machine.execBlockRelease block s
  | .clockFail block => Sys2Proof.Machine.execClockFail block s
  | .freeListRebuildDone => Sys2Proof.Machine.execFreeListRebuildDone s
  | .sequenceClear who addr data => Sys2Proof.Machine.execSequenceClear who addr data s
  | .indDataAccess who addr write ecc => Sys2Proof.Machine.execIndDataAccess who addr write s ecc
  | .guardSeal who data => Sys2Proof.Machine.execGuardSeal who data s
  | .timeLatchRead who addr => Sys2Proof.Machine.execTimeLatchRead who addr s
  | .hotplateTick peerHigh => Sys2Proof.Machine.execHotplateTick peerHigh s
  | .domainReady domain => Sys2Proof.Machine.execDomainReady domain s
  | .domainIdleSleep domain => Sys2Proof.Machine.execDomainIdleSleep domain s
  | .domainShutdownDone domain => Sys2Proof.Machine.execDomainShutdownDone domain s
  | .domainWakeCmd who data => Sys2Proof.Machine.execDomainWakeCmd who data s
  | .domainSleepCmd who data => Sys2Proof.Machine.execDomainSleepCmd who data s
  | .domModeWrite who addr data => Sys2Proof.Machine.execDomModeWrite who addr data s
  | .dozeEntry port => Sys2Proof.Machine.execDozeEntry port s
  | .rxWakeSignal port => Sys2Proof.Machine.execRxWakeSignal port s
  | .transmitPathSleep port => Sys2Proof.Machine.execTransmitPathSleep port s
  | .gateLeadWake port => Sys2Proof.Machine.execGateLeadWake port s
  | .xoLost => Sys2Proof.Machine.execXoLost s
  | .xoReturn => Sys2Proof.Machine.execXoReturn s
  | .srefWindow ref count => Sys2Proof.Machine.execSrefWindow ref count s
  | .tempSample degrees => Sys2Proof.Machine.execTempSample degrees s
  | .lanePllGood lane => Sys2Proof.Machine.execLanePllGood lane s
  | .tapUpdateRequest lane tap up => Sys2Proof.Machine.execTapUpdateRequest lane tap up s
  | .trainingComplete lane => Sys2Proof.Machine.execTrainingComplete lane s
  | .trainingTimeout lane => Sys2Proof.Machine.execTrainingTimeout lane s
  | .laneSyncGained lane => Sys2Proof.Machine.execLaneSyncGained lane s
  | .laneSyncLost lane => Sys2Proof.Machine.execLaneSyncLost lane s
  | .laneWakeTimeout lane => Sys2Proof.Machine.execLaneWakeTimeout lane s
  | .alignmentMarker lane pos w0 w1 bip => Sys2Proof.Machine.execAlignmentMarker lane pos w0 w1 bip s
  | .rateMatchDelete lane sub fill gap => Sys2Proof.Machine.execRateMatchDelete lane sub fill s gap
  | .rateMatchInsert lane sub fill => Sys2Proof.Machine.execRateMatchInsert lane sub fill s
  | .laneTestWrite who lane data => Sys2Proof.Machine.execLaneTestWrite who lane data s
  | .prbsClear who lane data => Sys2Proof.Machine.execPrbsClear who lane data s
  | .txTapsWrite who lane data => Sys2Proof.Machine.execTxTapsWrite who lane data s
  | .eyeScanStart who lane data => Sys2Proof.Machine.execEyeScanStart who lane data s
  | .eyeScanDone lane counts => Sys2Proof.Machine.execEyeScanDone lane counts s
  | .frameStart port half fifoErr => Sys2Proof.Machine.execFrameStart port half fifoErr s
  | .fragmentRx port half smd frag data final mcrcOk => Sys2Proof.Machine.execFragmentRx port half smd frag data final mcrcOk s
  | .lookupStart port bytes => Sys2Proof.Machine.execLookupStart port bytes s
  | .admission port => Sys2Proof.Machine.execAdmission port s
  | .fcsVerdict port pre tail err => Sys2Proof.Machine.execFcsVerdict port pre tail err s
  | .carafeSlot rx ecc => Sys2Proof.Machine.execCarafeSlot rx ecc s
  | .scrubRead errs => Sys2Proof.Machine.execScrubRead errs s
  | .copyAged port queue pos => Sys2Proof.Machine.execCopyAged port queue pos s
  | .schedulerSelect port => Sys2Proof.Machine.execSchedulerSelect port s
  | .transmitStart port half => Sys2Proof.Machine.execTransmitStart port half s
  | .preempt port sent => Sys2Proof.Machine.execPreempt port sent s
  | .transmitEnd port sent => Sys2Proof.Machine.execTransmitEnd port sent s
  | .portEnable who port data => Sys2Proof.Machine.execPortEnable who port data s
  | .portDisable who port data => Sys2Proof.Machine.execPortDisable who port data s
  | .disableDrainLimit port => Sys2Proof.Machine.execDisableDrainLimit port s
  | .disableEnd port => Sys2Proof.Machine.execDisableEnd port s
  | .linkUp port speed => Sys2Proof.Machine.execLinkUp port speed s
  | .linkDown port => Sys2Proof.Machine.execLinkDown port s
  | .remoteFaultRx port => Sys2Proof.Machine.execRemoteFaultRx port s
  | .localFaultRx port => Sys2Proof.Machine.execLocalFaultRx port s
  | .verifyMpacketRx port => Sys2Proof.Machine.execVerifyMpacketRx port s
  | .respondMpacketRx port => Sys2Proof.Machine.execRespondMpacketRx port s
  | .verifyTimeout port => Sys2Proof.Machine.execVerifyTimeout port s
  | .txLpiEntry port => Sys2Proof.Machine.execTxLpiEntry port s
  | .txLpiExit port => Sys2Proof.Machine.execTxLpiExit port s
  | .rxLpiChange port lpi => Sys2Proof.Machine.execRxLpiChange port lpi s
  | .dripBurstWrite who ctx data => Sys2Proof.Machine.execDripBurstWrite who ctx data s
  | .tableRead who region index args => Sys2Proof.Machine.execTableRead who region index args s
  | .tableWrite who region index args => Sys2Proof.Machine.execTableWrite who region index args s
  | .tableInsert who region args => Sys2Proof.Machine.execTableInsert who region args s
  | .tableLookup who region args => Sys2Proof.Machine.execTableLookup who region args s
  | .tableDelete who region args => Sys2Proof.Machine.execTableDelete who region args s
  | .tableNext who region index args => Sys2Proof.Machine.execTableNext who region index args s
  | .tableFlush who args => Sys2Proof.Machine.execTableFlush who args s
  | .tableLoad who offset args => Sys2Proof.Machine.execTableLoad who offset args s
  | .tableFetch who offset count => Sys2Proof.Machine.execTableFetch who offset count s
  | .learnCommit => Sys2Proof.Machine.execLearnCommit s
  | .agingSweep => Sys2Proof.Machine.execAgingSweep s
  | .flushSweep => Sys2Proof.Machine.execFlushSweep s
  | .gateEntryStart port => Sys2Proof.Machine.execGateEntryStart port s
  | .holdAdvance port => Sys2Proof.Machine.execHoldAdvance port s
  | .configChange port => Sys2Proof.Machine.execConfigChange port s
  | .nodeResetSweep => Sys2Proof.Machine.execNodeResetSweep s
  | .recordResetSweep => Sys2Proof.Machine.execRecordResetSweep s
  | .nodeForgetSweep => Sys2Proof.Machine.execNodeForgetSweep s
  | .latentErrorSweep => Sys2Proof.Machine.execLatentErrorSweep s
  | .timekeeperTick => Sys2Proof.Machine.execTimekeeperTick s
  | .timePllRelock => Sys2Proof.Machine.execTimePllRelock s
  | .set who data => Sys2Proof.Machine.execSet who data s
  | .add who data => Sys2Proof.Machine.execAdd who data s
  | .subtract who data => Sys2Proof.Machine.execSubtract who data s
  | .armAuto who data => Sys2Proof.Machine.execArmAuto who data s
  | .disarmAuto who data => Sys2Proof.Machine.execDisarmAuto who data s
  | .syncRx port frame t => Sys2Proof.Machine.execSyncRx port frame t s
  | .followUpRx port frame => Sys2Proof.Machine.execFollowUpRx port frame s
  | .announceRx port frame => Sys2Proof.Machine.execAnnounceRx port frame s
  | .delayReqRx port frame t => Sys2Proof.Machine.execDelayReqRx port frame t s
  | .delayRespRx port frame => Sys2Proof.Machine.execDelayRespRx port frame s
  | .pdelayReqRx port frame t => Sys2Proof.Machine.execPdelayReqRx port frame t s
  | .pdelayRespRx port frame t => Sys2Proof.Machine.execPdelayRespRx port frame t s
  | .pdelayRespFollowUpRx port frame => Sys2Proof.Machine.execPdelayRespFollowUpRx port frame s
  | .followUpSend => Sys2Proof.Machine.execFollowUpSend s
  | .pdelayRespFollowUpSend => Sys2Proof.Machine.execPdelayRespFollowUpSend s
  | .syncDue dom => Sys2Proof.Machine.execSyncDue dom s
  | .announceDue dom => Sys2Proof.Machine.execAnnounceDue dom s
  | .pdelayReqDue port => Sys2Proof.Machine.execPdelayReqDue port s
  | .delayReqDue dom => Sys2Proof.Machine.execDelayReqDue dom s
  | .syncLost dom => Sys2Proof.Machine.execSyncLost dom s
  | .annLost dom => Sys2Proof.Machine.execAnnLost dom s
  | .ppsInEdge half => Sys2Proof.Machine.execPpsInEdge half s
  | .ppsInLost => Sys2Proof.Machine.execPpsInLost s
  | .ppsOutEdge output => Sys2Proof.Machine.execPpsOutEdge output s
  | .irigFrame => Sys2Proof.Machine.execIrigFrame s
  | .endpointFrame lane frame => Sys2Proof.Machine.execEndpointFrame lane frame s
  | .launchHandoff => Sys2Proof.Machine.execLaunchHandoff s
  | .launchLate port queue pos => Sys2Proof.Machine.execLaunchLate port queue pos s
  | .lineFrameTx chan => Sys2Proof.Machine.execLineFrameTx chan s
  | .lineFrameRx chan cands hdrErr n rdi data => Sys2Proof.Machine.execLineFrameRx chan cands hdrErr n rdi data s
  | .defectSample chan los ais => Sys2Proof.Machine.execDefectSample chan los ais s
  | .cePacketForm chan => Sys2Proof.Machine.execCePacketForm chan s
  | .cePacketRx frame port => Sys2Proof.Machine.execCePacketRx frame s port
  | .channelBufferRetry chan => Sys2Proof.Machine.execChannelBufferRetry chan s
  | .channelDisable chan => Sys2Proof.Machine.execChannelDisable chan s
  | .offerSend ctx => Sys2Proof.Machine.execOfferSend ctx s
  | .offerTimeout source => Sys2Proof.Machine.execOfferTimeout source s
  | .offerNobufRetry ctx => Sys2Proof.Machine.execOfferNobufRetry ctx s
  | .setDormantHost who data => Sys2Proof.Machine.execSetDormantHost who data s
  | .clearDormantHost who data => Sys2Proof.Machine.execClearDormantHost who data s
  | .targetWrite who addr data => Sys2Proof.Machine.execTargetWrite who addr data s
  | .deliverEnWrite who data => Sys2Proof.Machine.execDeliverEnWrite who data s
  | .counterSweepSlot => Sys2Proof.Machine.execCounterSweepSlot s
  | .counterLatchRead who addr => Sys2Proof.Machine.execCounterLatchRead who addr s
  | .clearCounters who data => Sys2Proof.Machine.execClearCounters who data s
  | .clearPeaks who data => Sys2Proof.Machine.execClearPeaks who data s
  | .bandwidthWindowEnd => Sys2Proof.Machine.execBandwidthWindowEnd s
  | .telemetryExport busy => Sys2Proof.Machine.execTelemetryExport busy s
  | .pinHeartbeat => Sys2Proof.Machine.execPinHeartbeat s
  | .heartbeatSend => Sys2Proof.Machine.execHeartbeatSend s
  | .hbInEdge => Sys2Proof.Machine.execHbInEdge s
  | .heartbeat link half msg => Sys2Proof.Machine.execHeartbeat link half msg s
  | .pathSilent pin => Sys2Proof.Machine.execPathSilent pin s
  | .roleClaim => Sys2Proof.Machine.execRoleClaim s
  | .claimResolve => Sys2Proof.Machine.execClaimResolve s
  | .flashPoll ready => Sys2Proof.Machine.execFlashPoll ready s
  | .flashResetTimeout => Sys2Proof.Machine.execFlashResetTimeout s
  | .handover who data => Sys2Proof.Machine.execHandover who data s
  | .roleRelease => Sys2Proof.Machine.execRoleRelease s
  | .snapshotDue => Sys2Proof.Machine.execSnapshotDue s
  | .snapNow who data => Sys2Proof.Machine.execSnapNow who data s
  | .snapshot link half msg => Sys2Proof.Machine.execSnapshot link half msg s
  | .selftestDue meas => Sys2Proof.Machine.execSelftestDue meas s
  | .selftestNow who data meas => Sys2Proof.Machine.execSelftestNow who data meas s
  | .health link half msg => Sys2Proof.Machine.execHealth link half msg s
  | .seg link half w0 data fifoErr => Sys2Proof.Machine.execSeg link half w0 data s fifoErr
  | .credit link w0 => Sys2Proof.Machine.execCredit link w0 s
  | .creditDue link => Sys2Proof.Machine.execCreditDue link s
  | .stitchLinkTimeout link => Sys2Proof.Machine.execStitchLinkTimeout link s
  | .timeSend link half => Sys2Proof.Machine.execTimeSend link half s
  | .time link half msg => Sys2Proof.Machine.execTime link half msg s
  | .learn link half msg => Sys2Proof.Machine.execLearn link half msg s
  | .imageBlock link half msg => Sys2Proof.Machine.execImageBlock link half msg s
  | .imageAck link half msg => Sys2Proof.Machine.execImageAck link half msg s
  | .imageAckDue => Sys2Proof.Machine.execImageAckDue s
  | .flashRead who data => Sys2Proof.Machine.execFlashRead who data s
  | .flashProgram who data => Sys2Proof.Machine.execFlashProgram who data s
  | .flashErase4k who data => Sys2Proof.Machine.execFlashErase4k who data s
  | .flashErase64k who data => Sys2Proof.Machine.execFlashErase64k who data s
  | .flashOpDone timeout data => Sys2Proof.Machine.execFlashOpDone timeout data s
  | .ptpEngineRetry => Sys2Proof.Machine.execPtpEngineRetry s
  | .learnMessageDue link => Sys2Proof.Machine.execLearnMessageDue link s
  | .losRaw chan => Sys2Proof.Machine.execLosRaw chan s
  | .tckEdge rising tms tdi trst => Sys2Proof.Machine.execTckEdge rising tms tdi trst s

end Sys2Proof.Machine
end

