-- ==== Sys2Proof/Safety.lean ====
section
/-!
DEFINITION. Safety.lean: the properties that claims about runs of the block use.
-/
namespace Sys2Proof.Machine

/-- Every memory of the block is in its canonical form: the retention RAM (R113), the table memory (R472), the contexts' entry
buffers (R210): keys strictly rising, and no entry that reads as an unlisted word does. -/
def Memory.wf (s : State) : Bool := mwf 0 s.hot.ram && mwf 0 s.tbl.mem && mwf 0 s.tbl.buf

/-- A level source is where R382 puts it: not Idle while its condition is asserted, not Pending while it is not. -/
def levelSettled (s : State) (n : Nat) : Bool :=
  if levelCond s n then (s.src n).st != .idle else (s.src n).st != .pending

/-- Every level source that the running part has follows its condition, unless block 27 is held (R381, R382, R395, R468). -/
def LevelInv (s : State) : Prop := closed s 27 = false → ∀ n ∈ levelSources, srcPresent s n = true → levelSettled s n = true

/-- The form of the shadow map: addresses strictly rising, each the key of the register that it decodes to. -/
def ShadowForm (s : State) : Prop :=
  s.shadows.Pairwise (fun a b => a.1 < b.1) ∧ ∀ x ∈ s.shadows, ∃ r, decodeAddr x.1 = some r ∧ r.key = x.1

/-- Register `r` can be reached by an operation of `who` (R40, R41, R44, R104): the issuer is served, the running part has the
register, its wrapper is open and its domain or lane is awake. -/
def Reached (s : State) (who : Who) (r : Reg) : Prop :=
  served s who = true ∧ regAt s r.key = some r ∧ regClosed s r = false ∧ regAsleep s r = false

/-- `who` may write register `r` (R55, R58): it is no guard register, or the acting guard context writes before the seal. -/
def MayWrite (s : State) (who : Who) (r : Reg) : Prop :=
  isGuardReg s r = false ∨ (who.acting = true ∧ guardSealed s = false)

/-- The state that a single write answered OK leaves: `f` is what the write does once the operation has reached its block (R402),
its result is set down, and test words that waited for a response act (R144). -/
def wrote (s : State) (r : Reg) (f : State → State) : State :=
  levelRefresh (testFlush (setRes (f (touched s r)) stOk 0 []))

/-- The state in which a table command is carried out (R210): counted at block 20, its words in TBL_REQ, and its argument words in the
entry buffer of the issuer's context. -/
def tableBegun (s : State) (who : Who) (op region index : Nat) (args : List Word) : State :=
  loadArgs (setReq (occ (occ s 20 0x06 0) 20 0x10 0) who.ctx 0 (args ++ [tblWord op region index])) who.ctx op index args

/-- The state that an answered table command leaves (R210, R211): CODE and INDEX and the buffer's words from `off` in TBL_RES, STATUS
OK or TABLE_ERROR, the error counted, and the first `nres` words returned. -/
def tableAnswered (s : State) (who : Who) (code index off nres : Nat) : State :=
  let res := (put 28 4 code ||| put 0 19 index) :: (List.range 15).map (fun i => bufW s who.ctx (off + i))
  let t := setResW s who.ctx 0 res
  levelRefresh (testFlush (setRes (if code = 0 then t else t.bump .TBL_ERRORS) (if code = 0 then stOk else stTableError) nres (res.take nres)))

end Sys2Proof.Machine
end

