-- ==== Sys2Proof/Certificates/Slice0/Obligations.lean ====
section
/-!
DEFINITION. Certificates/Slice0/Obligations.lean: the statements about the block that are to be proved.
-/
open Sys2Proof Sys2Proof.Machine

/-- A step takes the command at the front of the queue and runs it with the queue's rest. For every command and every state, a
step of the state with that command at the front of its queue answers what the command's effect answers on the same state with the
rest of the queue; with an empty queue the step leaves the state as it is. The queue is the model's own (log entry 3): the spec's
commands arrive from outside. (00_scope.md, notes/assumptions/3.md) -/
def Obligations.StepRunsFrontCommand : Prop :=
  (∀ (c : Instr) (l : List Instr) (s : State), step { s with pending := c :: l } = exec c { s with pending := l }) ∧
  ∀ s : State, s.pending = [] → step s = .next s

/-- Every command answers a next state, in which every level source follows its condition. No command of the table ends in a fault
or a refusal, whatever its operands and the state; and after every command each level source that the running part has is Pending
or Claimed while its condition is asserted and Idle or Claimed while it is not, unless block 27 is held. (R381, R468, 00_scope.md)
-/
def Obligations.EveryCommandAnswers : Prop :=
  ∀ (i : Instr) (s : State), ∃ t, exec i s = .next t ∧ LevelInv t

/-- Level sources follow their conditions right after reset. In the state right after reset every level source is where its
condition puts it. (R382, R468, R101) -/
def Obligations.LevelInvariantAtReset : Prop :=
  LevelInv State.reset

/-- Every step keeps the level sources where their conditions put them. From every state in which each level source of the running
part follows its condition (Pending or Claimed while asserted, Idle or Claimed while not, block 27 being released), every step
that answers a next state leaves such a state, whatever command is at the front of the queue. (R381, R382, R395, R468) -/
def Obligations.LevelInvariantKept : Prop :=
  ∀ s t : State, LevelInv s → step s = .next t → LevelInv t

/-- What following the level conditions changes: level sources and EVT_WITHDRAWN only. The step that every command ends with
leaves every part of the state but event sources and registers as it was, every register but EVT_WITHDRAWN, and every source that
is not a level source; a Claimed level source stays as it was; and nothing at all changes while block 27 is held. (R381, R382,
R395, R468) -/
def Obligations.LevelRefreshFrame : Prop :=
  ∀ s : State, levelRefresh s = { s with regs := (levelRefresh s).regs, evt := (levelRefresh s).evt } ∧
    (∀ r : Reg, r.key ≠ Reg.key ⟨.EVT_WITHDRAWN, 0, 0⟩ → (levelRefresh s).reg r = s.reg r) ∧
    (∀ n, n ∉ levelSources → (levelRefresh s).src n = s.src n) ∧
    (∀ n, (s.src n).st = .claimed → (levelRefresh s).src n = s.src n) ∧
    (closed s 27 = true → levelRefresh s = s)

/-- The block right after reset: the fuse load about to complete, registers at their reset values, nothing listed. Right after
reset the boot sequencer is in Fuse, no command waits, no memory word is listed, every register but the twelve reserved-count
registers LBM_RES of R358 stores the reset value of its block summary, and those twelve store R358's counts. The fuses of the
reset state are the model's choice (log entry 7) and no clause rests on them. (R94, R101, R358, notes/assumptions/7.md) -/
def Obligations.ResetState : Prop :=
  State.reset.boot.st = .fuse ∧ State.reset.pending = [] ∧ Memory.wf State.reset = true ∧ State.reset.tbl.mem = [] ∧
  State.reset.hot.ram = [] ∧ State.reset.shadows = [] ∧
  (∀ r : Reg, (∀ x ∈ lbmReset, r.key ≠ Reg.key ⟨.LBM_RES, x.1, x.2.1⟩) → State.reset.reg r = r.f.row.rst) ∧
  ∀ x ∈ lbmReset, State.reset.rn .LBM_RES x.1 x.2.1 = x.2.2

/-- Sequence-clear registers: SEQ counts setting cycles modulo 256, a write with the current SEQ clears, one with another SEQ does
nothing. SEQ of an SQ register is its field [31:24] and its flags are [23:0]. An event that sets flags advances SEQ by 1 modulo
256 and ORs the flags in. A write clears each flag written as 1 only if the written SEQ is the current one, keeping SEQ and the
other flags, and otherwise leaves the word. A write applied before an event of the same cycle leaves the event's flags set and SEQ
advanced. A write with the SEQ read before exactly 256 events clears the flags written as 1. (R51) -/
def Obligations.SequenceClearRegisters : Prop :=
  (∀ (w : Word) (m : Nat), m < 2 ^ 24 →
    fld (sqSet w m) 24 8 = (fld w 24 8 + 1) % 256 ∧ fld (sqSet w m) 0 24 = fld w 0 24 ||| m) ∧
  (∀ w v : Word, fld v 24 8 = fld w 24 8 →
    fld (sqClear w v) 24 8 = fld w 24 8 ∧ ∀ b < 24, nbit (fld (sqClear w v) 0 24) b = (nbit (fld w 0 24) b && !nbit (fld v 0 24) b)) ∧
  (∀ w v : Word, fld v 24 8 ≠ fld w 24 8 → sqClear w v = w) ∧
  (∀ (w v : Word) (m : Nat), m < 2 ^ 24 →
    fld (sqSet (sqClear w v) m) 24 8 = (fld w 24 8 + 1) % 256 ∧ fld (sqSet (sqClear w v) m) 0 24 &&& m = m) ∧
  (∀ (w v : Word) (ms : List Nat), ms.length = 256 → (∀ m ∈ ms, m < 2 ^ 24) → fld v 24 8 = fld w 24 8 →
    ∀ b < 24, nbit (fld v 0 24) b = true → nbit (fld (sqClear (ms.foldl sqSet w) v) 0 24) b = false)

/-- Setting flags writes one SQ register and gives each flag's source one edge, and changes nothing else. Setting a non-empty set
of flags puts sqSet of the register's word into that register, leaves every other register and every part of the state but event
sources, and leaves every source that is none of those flags' sources. An edge of an Idle source that the part has makes it
Pending with EDGES 1 and the present nanoseconds; an edge of a Pending source adds 1 to EDGES up to 65,535; an edge of a Claimed
source is remembered; while block 27 is held an edge is lost. (R51, R381, R382, R395, R467) -/
def Obligations.FlagsAndEdges : Prop :=
  (∀ (s : State) (f : Fam) (i j m : Nat), m ≠ 0 →
    s.setFlags f i j m = { s with regs := (s.wr f i j (sqSet (s.rw f i j) m)).regs, evt := (s.setFlags f i j m).evt } ∧
    (s.setFlags f i j m).rw f i j = sqSet (s.rw f i j) m ∧
    (∀ r : Reg, r.key ≠ Reg.key ⟨f, i, j⟩ → (s.setFlags f i j m).reg r = s.reg r) ∧
    ∀ n, (∀ b ∈ onesOf 24 m, flagSource f i b ≠ some n) → (s.setFlags f i j m).src n = s.src n) ∧
  (∀ (s : State) (n : Nat), srcPresent s n = true → closed s 27 = false →
    ((s.src n).st = .idle → (raiseEdge s n).src n = { st := .pending, edges := 1, pendNs := s.time.now.ns, need := some 0 }) ∧
    ((s.src n).st = .pending → (raiseEdge s n).src n = { s.src n with edges := min 65535 ((s.src n).edges + 1) }) ∧
    ((s.src n).st = .claimed → (raiseEdge s n).src n = { s.src n with again := true })) ∧
  ∀ (s : State) (n : Nat), closed s 27 = true → raiseEdge s n = s

/-- An occurrence adds to the counters of its block that select it, and touches nothing but counters and their overflow flags.
Occurrences of an event of one of the 40 counter blocks leave every register but PCT_STATUS and PCT_OVF_n, and every part of the
state but registers, event sources and counters. An addition of n to a counter leaves it at its old value plus n modulo 2^48, and
where that does not wrap nothing else changes. A counter of the block that does not select the event, and no chained neighbour of
which wraps, keeps its value where no counter of the block selects the event. (R399, R400, R402) -/
def Obligations.CounterOccurrences : Prop :=
  (∀ (s : State) (b ev sub n : Nat), b < 40 →
    occ s b ev sub n = { s with regs := (occ s b ev sub n).regs, evt := (occ s b ev sub n).evt, pct := (occ s b ev sub n).pct } ∧
    (∀ r : Reg, r.key ≠ Reg.key ⟨.PCT_STATUS, 0, 0⟩ → (∀ k < 14, r.key ≠ Reg.key ⟨.PCT_OVF, k, 0⟩) →
      (occ s b ev sub n).reg r = s.reg r) ∧
    ((∀ i < 8, fld (pctCfg s b i) 24 8 ≠ ev) → occ s b ev sub n = s)) ∧
  (∀ (s : State) (c n : Nat), mget 0 (pctAdd s c n).pct.cnt c = (mget 0 s.pct.cnt c + n) % 2 ^ 48) ∧
  ∀ (s : State) (c n : Nat), mget 0 s.pct.cnt c + n < 2 ^ 48 →
    pctAdd s c n = { s with pct := { s.pct with cnt := mput 0 s.pct.cnt c (mget 0 s.pct.cnt c + n) } }

/-- Table memory and retention RAM: a read gives what was last written there, other words stay, and the canonical form is kept.
After a write of a word of the table memory or of the retention RAM, reading that word gives the value written and reading any
other word gives what it gave before; and every such write keeps the memories' canonical form. (R113, R472) -/
def Obligations.WordMemories : Prop :=
  (∀ (s : State) (k j : Nat) (w : Word), (s.setTw k w).tw j = if j = k then w else s.tw j) ∧
  (∀ (s : State) (k j : Nat) (w : Word), (s.setRamW k w).ramW j = if j = k then w else s.ramW j) ∧
  (∀ (s : State) (k : Nat) (ws : List Word), Memory.wf s = true → Memory.wf (s.setTws k ws) = true) ∧
  (∀ (s : State) (k : Nat) (w : Word), Memory.wf s = true → Memory.wf (s.setRamW k w) = true) ∧
  ∀ (s : State) (k j : Nat) (ws : List Word), j < ws.length → (s.setTws k ws).tw (k + j) = ws.getD j 0

/-- A power-on reset returns every register and every memory to its reset state. POWER_ON_RESET leaves the state after reset:
every register but the guard epoch at its reset value, the retention RAM and the table memory empty, no cached response, no armed
strobe, the boot sequencer in Fuse. Only the waiting commands, the free-value counter (one free value, the new epoch), what has
left the device and the test access port are carried over; the fuses, which the fuse load that follows brings, are those of the
reset state (log entry 7). (R85, R101, 04_startup_reset.md) -/
def Obligations.PowerOnResetState : Prop :=
  ∀ s : State, ∃ t, exec .powerOnReset s = .next t ∧
    t = { State.reset with pending := s.pending, freeCtr := s.freeCtr + 1, out := t.out, jtag := s.jtag, regs := t.regs } ∧
    ∀ r : Reg, r.key ≠ Reg.key ⟨.CTL_GUARD_EPOCH, 0, 0⟩ → t.reg r = State.reset.reg r

/-- RESET_N: a full device reset that keeps fuses, retention RAM, Hotplate clock, causes, rail faults and straps; the release
enters Rails. RESET_N_ASSERT leaves the state after reset except that the fuse shadow, the retention RAM, HOT_TICK, the reference
counts, the temperature, the test access port and the cause, rail-fault and strap registers are kept, PIN is set in RST_CAUSE, and
the guard epoch is a new free value; the sequencer is in Reset. RESET_N_RELEASE then takes it to Rails with the boot ticks at 0
and changes nothing else. (R84, R93, R94, R101) -/
def Obligations.ResetPinState : Prop :=
  (∀ s : State, ∃ t, exec .resetNAssert s = .next t ∧
    t = { State.reset with
      pending := s.pending, freeCtr := s.freeCtr + 1, out := t.out, jtag := s.jtag, regs := t.regs, temp := s.temp, evt := t.evt
      boot := { State.reset.boot with st := .reset, fuses := s.boot.fuses, fuseFail := s.boot.fuseFail }
      hot := { State.reset.hot with
        tick := s.hot.tick, ram := s.hot.ram, ramBad := s.hot.ramBad, clk := s.hot.clk % 8, good0 := s.hot.good0, good1 := s.hot.good1 } } ∧
    t.rw .RST_CAUSE = sqSet (s.rw .RST_CAUSE) 2 ∧ t.rw .RST_RAIL_FAULT = s.rw .RST_RAIL_FAULT ∧ t.rw .RST_STRAPS = s.rw .RST_STRAPS ∧
    (∀ k < 3, t.rw .RST_BLOCK_CAUSE k = s.rw .RST_BLOCK_CAUSE k) ∧
    ∀ r : Reg, r.key ∉ [Reg.key ⟨.RST_CAUSE, 0, 0⟩, Reg.key ⟨.RST_BLOCK_CAUSE, 0, 0⟩, Reg.key ⟨.RST_BLOCK_CAUSE, 1, 0⟩,
      Reg.key ⟨.RST_BLOCK_CAUSE, 2, 0⟩, Reg.key ⟨.RST_RAIL_FAULT, 0, 0⟩, Reg.key ⟨.RST_STRAPS, 0, 0⟩, Reg.key ⟨.CTL_GUARD_EPOCH, 0, 0⟩,
      Reg.key ⟨.EVT_WITHDRAWN, 0, 0⟩] → t.reg r = State.reset.reg r) ∧
  ∀ s : State, s.boot.st = .reset →
    exec .resetNRelease s = .next (levelRefresh { s with boot := { s.boot with st := .rails, ticks := 0 } })

/-- Rails, fuses and clocks at startup. FUSE_LOAD_DONE in Fuse takes the fuses into the shadow and enters Rails, FUSE_FAIL set
where the check failed. RAILS_GOOD in Rails samples the straps into RST_STRAPS and enters Clocks. RAIL_LOSS of a supervised rail
after Rails sets the rail's bit in RST_RAIL_FAULT, enters Rail-fault and takes every output to its reset state: no lane, MAC,
link, channel or scheduler is left running, no power domain is left awake and no wake waits, and the twin's role is dropped; in Rail-fault a further loss only sets its bit; before
Clocks it changes nothing. BOOT_CLOCKS_LOCKED in Clocks after a good fuse check enters Load with both fault registers reading
NOT_TRIED and HOT_CLK_GOOD showing both PLLs; each of the 36 boot domains that sleeps is in the wake queue. After a failed fuse
check, and at CLOCK_LOCK_TIMEOUT, the device enters Boot-failed with nothing of an image kept and no stitch link, lane T0 to T3 or
wake of theirs left. (R86, R94, R95, R96, R453, R91, R97, R99, R100) -/
def Obligations.RailsFusesAndClocks : Prop :=
  ((∀ (s : State) (f : Fuses) (pass : Bool), s.boot.st = .fuse →
      exec (.fuseLoadDone f pass) s = .next (levelRefresh { s with boot := { s.boot with st := .rails, fuses := f, fuseFail := !pass } })) ∧
    (∀ (s : State) (x : Straps), s.boot.st = .rails → exec (.railsGood x) s = .next (levelRefresh
      ({ s with boot := { s.boot with st := .clocks } }.wr .RST_STRAPS 0 0 (bitw 4 x.twinId ||| put 2 2 x.bsetId ||| put 0 2 x.bootSrc)))) ∧
    (∀ (s : State) (rail : Nat), rail ≤ 4 → s.boot.st ∈ [.clocks, .load, .apply, .running, .bootFailed] →
      ∃ t, exec (.railLoss rail) s = .next t ∧ t.boot = { s.boot with st := .railFault } ∧
        t.rw .RST_RAIL_FAULT = sqSet (s.rw .RST_RAIL_FAULT) (1 <<< rail) ∧ t.lanes = [] ∧ t.macs = [] ∧ t.links = [] ∧ t.chans = [] ∧
        t.schs = [] ∧ t.twin = {} ∧ t.tbl = s.tbl ∧ t.ctl = s.ctl ∧ t.shadows = s.shadows ∧
        t.hot = { s.hot with doms := [], queue := [], leads := [], txAsleep := [], txWaking := [], late := [], doze := [] }) ∧
    (∀ (s : State) (rail : Nat), rail ≤ 4 → s.boot.st = .railFault →
      exec (.railLoss rail) s = .next (levelRefresh (s.setFlags .RST_RAIL_FAULT 0 0 (1 <<< rail)))) ∧
    ∀ (s : State) (rail : Nat), s.boot.st ∈ [.reset, .fuse, .rails] → exec (.railLoss rail) s = .next (levelRefresh s)) ∧
  ((∀ s : State, s.boot.st = .clocks → s.boot.fuseFail = false → ∃ t, exec .bootClocksLocked s = .next t ∧
      t.boot = { s.boot with st := .load } ∧ t.rw .DEV_ROAST_FAULT_A = faultWord 0x0D 0 ∧ t.rw .DEV_ROAST_FAULT_B = faultWord 0x0D 0 ∧
      t.hot.clk = (s.hot.clk ||| 0x18) % 32 ∧ t.time.pllLost = false ∧
      ∀ d ∈ bootDomains, domPresent s d = true → (s.dom d).st = .off → ∃ q ∈ t.hot.queue, q.dom = d) ∧
    (∀ s : State, s.boot.st = .clocks → s.boot.fuseFail = true → ∃ t, exec .bootClocksLocked s = .next t ∧
      t.boot = { s.boot with st := .bootFailed, rx := [], rxFrom := none } ∧ t.links = []) ∧
    ∀ s : State, s.boot.st = .clocks → ∃ t, exec .clockLockTimeout s = .next t ∧
      t.boot = { s.boot with st := .bootFailed, rx := [], rxFrom := none } ∧ t.rw .DEV_ROAST_FAULT_A = faultWord 0x0D 0 ∧
      t.rw .DEV_ROAST_FAULT_B = faultWord 0x0D 0 ∧ t.links = [] ∧ (∀ l, 32 ≤ l → l < 40 → t.lane l = {}) ∧
      t.out = s.out ∧ t.tbl = s.tbl ∧ t.roast = s.roast)

/-- The flash image: its checks and its application. In Load with a flash source, IMAGE_CHECK of an image that passes every check
stores it as the accepted image, records its source (1 for slot A, 2 for slot B), clears its slot's fault register and enters
Apply. A flash that does not answer is recorded as code 0x01 at offset 0 in its slot's fault register; with BOOT_SRC 0 the first
rejection makes slot B the next source, and a rejection of slot B, or of the only slot, enters Boot-failed. In Apply, whatever the
image holds, IMAGE_APPLY ends in Running with the image no longer held; in every other state of the boot sequencer it changes
nothing. (R78, R79, R80, R94, R77, R471) -/
def Obligations.FlashImageAndApplication : Prop :=
  ((∀ (s : State) (b : Bytes), s.boot.st = .load → bootSrc s ≠ 1 → bootSrc s ≠ 2 → imageVerdict s.boot.fuses (devNo s) b = .accept →
      ∃ t, exec (.imageCheck (some b)) s = .next t ∧
        t.boot = { s.boot with st := .apply, image := b, src := if s.boot.slotB then 2 else 1, rx := [], rxFrom := none } ∧
        t.rw (if s.boot.slotB then .DEV_ROAST_FAULT_B else .DEV_ROAST_FAULT_A) = 0 ∧
        t.rw .DEV_ROAST_LENGTH = wd (imgHead b).len ∧ fld (t.rw .DEV_ROAST_STATUS) 0 4 = (if s.boot.slotB then 2 else 1) ∧
        t = { s with boot := t.boot, regs := t.regs, evt := t.evt, car := { s.car with mem := t.car.mem, bad := t.car.bad } }) ∧
    (∀ s : State, s.boot.st = .load → bootSrc s = 0 → s.boot.slotB = false →
      exec (.imageCheck none) s = .next (levelRefresh
        { s.wr .DEV_ROAST_FAULT_A 0 0 (faultWord 1 0) with boot := { s.boot with slotB := true } })) ∧
    ∀ s : State, s.boot.st = .load → bootSrc s ≠ 1 → bootSrc s ≠ 2 → (bootSrc s ≠ 0 ∨ s.boot.slotB = true) →
      ∃ t, exec (.imageCheck none) s = .next t ∧ t.boot = { s.boot with st := .bootFailed, rx := [], rxFrom := none } ∧
        t.rw (if s.boot.slotB then .DEV_ROAST_FAULT_B else .DEV_ROAST_FAULT_A) = faultWord 1 0 ∧ t.links = []) ∧
  ((∀ s : State, s.boot.st = .apply → s.boot.applied = false → ∃ t, exec .imageApply s = .next t ∧
      ((t.boot.st = .running ∧ t.boot.image = [] ∧ t.boot.applied = false) ∨
        (heldReady t = false ∧ t.boot = { s.boot with applied := true }))) ∧
    (∀ s : State, (s.boot.st ≠ .apply ∨ s.boot.applied = true) → exec .imageApply s = .next (levelRefresh s)) ∧
    ∀ (s : State) (d : Nat), s.boot.st = .apply → s.boot.applied = true → s.ctl.tblWaits = [] → heldReady (domainReady s d) = true →
      ∃ t, exec (.domainReady d) s = .next t ∧ t.boot = { s.boot with st := .running, image := [], applied := false })

/-- BOOT_OFFER goes out on both host lanes and counts periods; a BOOT_BLOCK in place is appended and acknowledged. While boot
frames pass (a host-link boot in Load, or Boot-failed), BOOT_OFFER sends one frame of EtherType 0x88B5 to the broadcast address on
each host lane and adds 1 to the offer count modulo 65,536, and otherwise changes nothing but the device's record of what it sent.
There too a good BOOT_BLOCK to the device's boot address at OFFSET 0 with 4 to 60 bytes of data, a multiple of 4, starts the image
with those bytes and its sender, and is acknowledged with status 0 and the bytes so far, where no other sender's image is in
progress. (R95, R97, R98, R100) -/
def Obligations.BootFrames : Prop :=
  (∀ s : State, bootLink s = true → ∃ f t, exec .bootOffer s = .next t ∧ beAt f 0 6 = 0xFFFFFFFFFFFF ∧ beAt f 12 2 = 0x88B5 ∧
    t = levelRefresh { s with
      out := s.out ++ [.frame 128 f, .frame 129 f], boot := { s.boot with offers := (s.boot.offers + 1) % 65536 } }) ∧
  ∀ (s : State) (lane : Nat) (f : Bytes), bootLink s = true → s.boot.fuseFail = false → lane ≤ 1 → fcsGood f = true →
    beAt f 12 2 = 0x88B5 → beAt f 14 1 = 0x14 → beAt f 0 6 = bootAddr s → f.length ≥ 34 + beAt f 22 2 →
    beAt f 18 4 = 0 → 4 ≤ beAt f 22 2 → beAt f 22 2 ≤ 60 → beAt f 22 2 % 4 = 0 →
    (s.boot.rxFrom = none ∨ s.boot.rxFrom = some (lane, beAt f 6 6)) →
    let d := slice f 30 (beAt f 22 2)
    let u := stage d.length s 0 d
    exec (.bootBlock lane f) s = .next (levelRefresh { u with
      boot := { s.boot with rx := d, rxFrom := some (lane, beAt f 6 6) }
      out := s.out ++ [.frame (128 + lane) (bootFrame (beAt f 6 6) (bootAddr s)
        (wsBytes [put 28 4 1 ||| put 24 4 5 ||| put 0 16 (beAt f 16 2), wd (beAt f 22 2), 0]))] })

/-- READ answers the register's value, zero at an unassigned address, and DOMAIN_OFF behind a closed wrapper or a sleeping domain.
A READ of a register that is reached and is no window's data register answers OK with one word, the register's value after what
the read latches, counts the access, and writes nothing else. A READ of an address to which the running part has no register
answers OK with zero and changes nothing but the result. A READ whose block's wrapper is closed answers DOMAIN_OFF with zero and
is counted by the wrapper; one whose domain or lane sleeps answers DOMAIN_OFF with zero. (R33, R40, R41, R47, R48, R104) -/
def Obligations.HostRead : Prop :=
  (∀ (s : State) (who : Who) (r : Reg) (a : Word), Reached s who r → windowAddr r.f = none → a.toNat = r.key →
    exec (.read who a) s = .next (levelRefresh (testFlush (setRes (readLatch (touched s r) who.ctx r) stOk 1
      [regValue (readLatch (touched s r) who.ctx r) who.ctx r])))) ∧
  (∀ (s : State) (who : Who) (a : Word), served s who = true → regAt s a.toNat = none →
    exec (.read who a) s = .next (levelRefresh (testFlush (setRes s stOk 1 [0])))) ∧
  (∀ (s : State) (who : Who) (r : Reg) (b : Nat) (a : Word), served s who = true → regAt s a.toNat = some r → regBlk r = some b →
    closed s b = true →
    exec (.read who a) s = .next (levelRefresh (testFlush (setRes (isoError (touched s r) b) stDomainOff 1 [0])))) ∧
  ∀ (s : State) (who : Who) (r : Reg) (a : Word), served s who = true → regAt s a.toNat = some r → regClosed s r = false →
    regAsleep s r = true →
    exec (.read who a) s = .next (levelRefresh (testFlush (setRes (touched s r) stDomainOff 1 [0])))

/-- WRITE acts by the register's access type: RO nothing, RWU its shadow, SQ its flags, RW its word; nowhere at an unassigned
address. A permitted WRITE of a register that is reached and is no window's data register answers OK, and: an RO register is left;
an SQ register takes R51's clearing; an RWU register with no reserved encoding in the word has its shadow set to the word's
unreserved bits and its active value left; an RW register of one of the 20 families whose write sets nothing else off stores the
word's unreserved bits. A WRITE of an address without a register answers OK and changes nothing but the result. (R33, R40, R41,
R47, R48, R51, R464) -/
def Obligations.HostWrite : Prop :=
  (∀ (s : State) (who : Who) (r : Reg) (a w : Word), Reached s who r → MayWrite s who r → windowAddr r.f = none → a.toNat = r.key →
    (r.f.row.acc = .ro → exec (.write who a w) s = .next (wrote s r id)) ∧
    (r.f.row.acc = .sq → exec (.write who a w) s = .next (wrote s r (fun s => s.setReg r (sqClear (s.reg r) w)))) ∧
    (r.f.row.acc = .rwu → reservedEnc r w = false → r.f ≠ .MAC_MM_CFG → ¬ (r.f = .RED_RTAG_PORTS ∧ r.i = 4 ∧ fld w 6 2 ≠ 0) →
      exec (.write who a w) s = .next (wrote s r (fun s => s.setShadow r (w &&& writeMask s r)))) ∧
    (r.f = .MAC_MM_CFG → exec (.write who a w) s = .next (wrote s r (fun s =>
      let t := s.setShadow r (w &&& writeMask s r)
      t.setMac r.i { t.mac r.i with mmWr := true }))) ∧
    (r.f ∈ [.DEV_TEMP_LIMIT, .HOT_IDLE_TIME, .HOT_IND_ADDR, .EVT_OFFER_TIMEOUT, .TK_FREQ_MANUAL, .TK_STEP, .TWN_FLASH_ADDR,
        .TWN_FLASH_BUF, .LBM_DRIP_CAP, .DRIP_TGT, .MAC_EEE_TW, .MAC_TS_ADJ, .MAC_DRAIN_LIMIT, .LN_IND_ADDR, .CAR_CFG,
        .CAR_MAX_RES, .CAR_IND_ADDR, .TBL_IND_ADDR, .FDB_CFG, .FDB_MOVE_CFG] →
      exec (.write who a w) s = .next (wrote s r (fun s => s.setReg r (w &&& writeMask s r))))) ∧
  (∀ (s : State) (who : Who) (a w : Word), served s who = true → regAt s a.toNat = none →
    exec (.write who a w) s = .next (levelRefresh (testFlush (setRes s stOk 0 [])))) ∧
  ∀ (s : State) (r : Reg) (w : Word), (s.setShadow r w).shadow r = w ∧ (s.setShadow r w).reg r = s.reg r

/-- RMW writes (old AND NOT mask) OR (value AND mask) in one access and answers the old value. A permitted RMW of a register that
is reached and is no window's data register is one command: it writes, by the register's access type, the old value with the
masked bits taken from the value, where the old value is what a read at that moment gives; it answers OK with that old value, and
nothing else happens between the read and the write. (R34) -/
def Obligations.ReadModifyWrite : Prop :=
  ∀ (s : State) (who : Who) (r : Reg) (a mask value : Word), Reached s who r → MayWrite s who r → windowAddr r.f = none →
    a.toNat = r.key →
    let u := readLatch (touched s r) who.ctx r
    let old := regValue u who.ctx r
    exec (.rmw who a mask value) s = .next (levelRefresh (testFlush (setRes
      (regWrite u who.ctx r ((old &&& ~~~mask) ||| (value &&& mask)) false) stOk 1 [old])))

/-- A guard operation by another context is denied, and after the seal by every context; sealing discards the guard shadows. WRITE
and RMW of a guard register by an issuer that does not act as the guard context answer GUARD_DENIED, or GUARD_SEALED once sealed,
even where the register sleeps or its wrapper is closed; the refusal is counted in CTL_GUARD_REFUSED, sets GUARD_REFUSED and event
0x12 of pipeline block 35, and changes nothing else. GUARD_SEAL with bit 0 by the acting guard context before the seal sets the
seal and discards exactly the guard shadows; with bit 0 clear it has no effect. (R55, R58, R44) -/
def Obligations.GuardRefusals : Prop :=
  (∀ (s : State) (who : Who) (r : Reg) (a w : Word), served s who = true → regAt s a.toNat = some r → isGuardReg s r = true →
    (guardSealed (touched s r) = true ∨ who.acting = false) →
    exec (.write who a w) s = .next (levelRefresh (testFlush (setRes
      (occ (((touched s r).bump .CTL_GUARD_REFUSED).setFlags .CTL_STATUS 0 0 8) 35 0x12 who.ctx)
      (if guardSealed (touched s r) = true then stGuardSealed else stGuardDenied) 0 [])))) ∧
  (∀ (s : State) (who : Who) (r : Reg) (a mask w : Word), served s who = true → regAt s a.toNat = some r → isGuardReg s r = true →
    r.f.row.acc ≠ .ro → (guardSealed (touched s r) = true ∨ who.acting = false) →
    exec (.rmw who a mask w) s = .next (levelRefresh (testFlush (setRes
      (occ (((touched s r).bump .CTL_GUARD_REFUSED).setFlags .CTL_STATUS 0 0 8) 35 0x12 who.ctx)
      (if guardSealed (touched s r) = true then stGuardSealed else stGuardDenied) 1 [0])))) ∧
  (∀ (s : State) (who : Who) (w : Word), served s who = true → who.acting = true → guardSealed s = false →
    let r : Reg := ⟨.CTL_GUARD_SEAL, 0, 0⟩
    (tst w 0 = true → exec (.guardSeal who w) s = .next (wrote s r (fun s => { s.wr .CTL_GUARD_SEAL 0 0 1 with
      shadows := s.shadows.filter (fun x => match decodeAddr x.1 with
        | some r => !isGuardReg s r
        | none => true) }))) ∧
    (tst w 0 = false → exec (.guardSeal who w) s = .next (wrote s r id)))

/-- The retention RAM window: bursts and single accesses read and write the host area, advance IND_ADDR, and leave the snapshot
area. BURST_READ of the Hotplate window from word START for COUNT words within the RAM answers OK with those words where none of
them carries a double-bit error, and leaves IND_ADDR at START + COUNT and the RAM as it was. BURST_WRITE of words 32,768 and up
within the RAM stores its data there and leaves every other word; within the snapshot area it answers OK, changes no word, and
still advances IND_ADDR. A single access to IND_DATA reads or writes the word at IND_ADDR and adds 1 to IND_ADDR. Test words that
waited for a response then act (R144). (R52, R113) -/
def Obligations.RetentionWindow : Prop :=
  (∀ (s : State) (who : Who) (start : Word) (n : Nat), served s who = true → 1 ≤ n → n ≤ 256 → start.toNat + n ≤ 65536 →
    (∀ k < n, s.hot.ramBad.contains (start.toNat + k) = false) →
    ∃ t, exec (.burstRead who (wd 0x20100) start n) s = .next (levelRefresh (testFlush t)) ∧
      t.opRes = ⟨stOk, n, (List.range n).map (fun k => s.ramW (start.toNat + k))⟩ ∧ t.rw .HOT_IND_ADDR = start + wd n ∧ t.hot = s.hot) ∧
  (∀ (s : State) (who : Who) (start : Word) (ws : List Word), served s who = true → 1 ≤ ws.length → ws.length ≤ 256 →
    start.toNat + ws.length ≤ 65536 → isGuardReg s ⟨.HOT_IND_ADDR, 0, 0⟩ = false → isGuardReg s ⟨.HOT_IND_DATA, 0, 0⟩ = false →
    ∃ t, exec (.burstWrite who (wd 0x20100) start ws) s = .next (levelRefresh (testFlush t)) ∧ t.opRes = ⟨stOk, ws.length, []⟩ ∧
      t.rw .HOT_IND_ADDR = start + wd ws.length ∧
      (32768 ≤ start.toNat → ∀ k, t.ramW k =
        if start.toNat ≤ k ∧ k < start.toNat + ws.length then ws.getD (k - start.toNat) 0 else s.ramW k) ∧
      (start.toNat + ws.length ≤ 32768 → ∀ k, t.ramW k = s.ramW k)) ∧
  (∀ (s : State) (who : Who) (ecc : Option Bool), served s who = true → (s.rn .HOT_IND_ADDR) < 65536 →
    s.hot.ramBad.contains (s.rn .HOT_IND_ADDR) = false →
    ∃ t, exec (.indDataAccess who (wd 0x20104) none ecc) s = .next (levelRefresh (testFlush t)) ∧ t.opRes = ⟨stOk, 1, [s.ramW (s.rn .HOT_IND_ADDR)]⟩ ∧
      t.rw .HOT_IND_ADDR = s.rw .HOT_IND_ADDR + 1 ∧ t.hot = s.hot) ∧
  ∀ (s : State) (who : Who) (w : Word) (ecc : Option Bool), served s who = true → isGuardReg s ⟨.HOT_IND_DATA, 0, 0⟩ = false →
    32768 ≤ s.rn .HOT_IND_ADDR → s.rn .HOT_IND_ADDR < 65536 →
    ∃ t, exec (.indDataAccess who (wd 0x20104) (some w) ecc) s = .next (levelRefresh (testFlush t)) ∧ t.opRes = ⟨stOk, 0, []⟩ ∧
      t.rw .HOT_IND_ADDR = s.rw .HOT_IND_ADDR + 1 ∧ ∀ k, t.ramW k = if k = s.rn .HOT_IND_ADDR then w else s.ramW k

/-- Latched reads of the time and of counters, and fences. A read of TK_TIME word 0 latches the four words of the present time for
the issuing context and answers the first of them; a read of PCT_VAL_HI latches the counter for the context and answers bits
[47:32] of what it latched. A clearing write of an SQ register that is reached acts by R51 with the register's word at that
moment. A single FENCE of a served issuer answers OK at once and changes nothing else where no frame whose lookup began is inside;
otherwise it waits, remembered with exactly those frames. FENCE_COMPLETE of a context whose first waiting fence waits only for
frames that are gone, with no request of the context held behind it, removes that fence and answers OK for a single operation; where every fence of the context still waits for a
frame inside, it changes nothing. (R309, R405, R407, R38, R53) -/
def Obligations.LatchedReadsAndFences : Prop :=
  ((∀ (s : State) (who : Who), Reached s who ⟨.TK_TIME, 0, 0⟩ →
      exec (.timeLatchRead who (wd (Reg.key ⟨.TK_TIME, 0, 0⟩))) s = .next (levelRefresh (testFlush (setRes
        { touched s ⟨.TK_TIME, 0, 0⟩ with time := { s.time with latch := mins s.time.latch who.ctx s.time.now.words } }
        stOk 1 [s.time.now.words.getD 0 0])))) ∧
    (∀ (s : State) (who : Who) (b i : Nat) (a : Word), Reached s who ⟨.PCT_VAL_HI, b, i⟩ → a.toNat = Reg.key ⟨.PCT_VAL_HI, b, i⟩ →
      exec (.counterLatchRead who a) s = .next (levelRefresh (testFlush (setRes (pctLatch (touched s ⟨.PCT_VAL_HI, b, i⟩) who.ctx (8 * b + i))
        stOk 1 [put 0 16 (nfld (pctHeld (pctLatch (touched s ⟨.PCT_VAL_HI, b, i⟩) who.ctx (8 * b + i)) who.ctx (8 * b + i)) 32 16)])))) ∧
    ∀ (s : State) (who : Who) (r : Reg) (a w : Word), Reached s who r → r.f.row.acc = .sq → a.toNat = r.key →
      isGuardReg s r = false → exec (.sequenceClear who a w) s = .next (wrote s r (fun s => s.setReg r (sqClear (s.reg r) w)))) ∧
  ((∀ (s : State) (who : Who), served s who = true → fenceSet s = [] →
      exec (.fence who) s = .next (levelRefresh { s with opRes := ⟨stOk, 0, []⟩ })) ∧
    (∀ (s : State) (who : Who), served s who = true → fenceSet s ≠ [] →
      exec (.fence who) s = .next (levelRefresh { s with ctl := { s.ctl with fences := s.ctl.fences ++ [⟨who.ctx, fenceSet s, none⟩] } })) ∧
    (∀ (s : State) (c : Nat) (w : Fence) (l : List Fence), s.ctl.fences = w :: l → w.ctx = c → w.req = none →
      (∀ i ∈ w.waits, frameInside s i = false) → (∀ x ∈ s.ctl.held, x.1 ≠ c) →
      exec (.fenceComplete c) s = .next (levelRefresh { s with ctl := { s.ctl with fences := l }, opRes := ⟨stOk, 0, []⟩ })) ∧
    (∀ (s : State) (c : Nat), (∀ w ∈ s.ctl.fences, w.ctx = c → ∃ i ∈ w.waits, frameInside s i = true) →
      exec (.fenceComplete c) s = .next (levelRefresh s)) ∧
    ∀ (s : State) (i : Nat), i ∈ fenceSet s ↔ frameInside s i = true ∧ i ∈ s.car.frames.map (fun f => f.1))

/-- UPDATE operations, timed strobes, and what a strobe applies. An UPDATE that names a group armed by another context, or names
an armed group without CANCEL, answers UPDATE_ARMED and changes nothing else; after the seal one that would strobe guard shadows is
refused and counted. Otherwise: an immediate UPDATE strobes the named
groups at once; a TIMED one whose time lies ahead arms the strobe for each named group with that time and the issuer, and one
whose time has passed is counted, flagged, strobes at once and answers UPDATE_LATE; CANCEL disarms exactly the named groups.
TIMED_STROBE_FIRE at or after an armed time strobes every group armed with that strobe and disarms them; before its time it
changes nothing. For groups without effects beyond the copy (11, 14, 15), with the shadow map in its form (ShadowFormKept) and the
groups' power domains awake: every register of a named group that is no guard register, or that is one where the strobe carries
the guard's shadows before the seal, takes its shadow value, and every other register keeps its active value. A register in
neither case keeps its shadow as well. (R48, R49, R50, R57, R58, R466) -/
def Obligations.UpdatesAndStrobes : Prop :=
  ((∀ (s : State) (who : Who) (gm : Nat), served s who = true → guardSealed s = true → guardUpdate s who gm = true →
      exec (.updateImmediate who gm) s = .next (levelRefresh (testFlush (setRes (guardRefused s who) stGuardSealed 0 []))) ∧
      ∀ sec ns, exec (.updateTimed who gm sec ns) s = .next (levelRefresh (testFlush (setRes (guardRefused s who) stGuardSealed 0 [])))) ∧
    (∀ (s : State) (who : Who) (gm : Nat), served s who = true → (∀ g ∈ onesOf 16 gm, armedOf s g = none) →
      (guardSealed s && guardUpdate s who gm) = false → exec (.updateImmediate who gm) s = .next (levelRefresh (testFlush (setRes (strobe s gm who.acting s.now) stOk 0 [])))) ∧
    (∀ (s : State) (who : Who) (gm sec ns : Nat), served s who = true → (∀ g ∈ onesOf 16 gm, armedOf s g = none) → ns < 1000000000 →
      (guardSealed s && guardUpdate s who gm) = false →
      (s.now < sec * 1000000000 + ns ∨ (s.now = sec * 1000000000 + ns ∧ s.time.now.frac = 0)) →
      exec (.updateTimed who gm sec ns) s = .next (levelRefresh (testFlush (setRes { s with ctl := { s.ctl with
        armed := (onesOf 16 gm).foldl (fun m g => mins m g { ctx := who.ctx, acting := who.acting, sec := sec, ns := ns }) s.ctl.armed } }
        stOk 0 [])))) ∧
    (∀ (s : State) (who : Who) (gm sec ns : Nat), served s who = true → (∀ g ∈ onesOf 16 gm, armedOf s g = none) → ns < 1000000000 →
      (guardSealed s && guardUpdate s who gm) = false →
      (sec * 1000000000 + ns < s.now ∨ (s.now = sec * 1000000000 + ns ∧ s.time.now.frac ≠ 0)) →
      exec (.updateTimed who gm sec ns) s = .next (levelRefresh (testFlush (setRes
        (strobe ((s.bump .CTL_UPD_LATE).setFlags .CTL_STATUS 0 0 16) gm who.acting s.now) stUpdateLate 0 [])))) ∧
    (∀ (s : State) (who : Who) (gm : Nat), served s who = true → (∀ g ∈ onesOf 16 gm, ∀ a, armedOf s g = some a → a.ctx = who.ctx) →
      exec (.updateCancel who gm) s = .next (levelRefresh (testFlush (setRes { s with ctl := { s.ctl with
        armed := s.ctl.armed.filter (fun x => !(onesOf 16 gm).contains x.1) } } stOk 0 [])))) ∧
    (∀ (s : State) (who : Who) (gm g : Nat) (a : Armed), served s who = true → g ∈ onesOf 16 gm → armedOf s g = some a →
      (guardSealed s && guardUpdate s who gm) = false → exec (.updateImmediate who gm) s = .next (levelRefresh (testFlush (setRes s stUpdateArmed 0 []))) ∧
      (a.ctx ≠ who.ctx → exec (.updateCancel who gm) s = .next (levelRefresh (testFlush (setRes s stUpdateArmed 0 []))))) ∧
    (∀ (s : State) (g : Nat) (a : Armed), armedOf s g = some a → a.wild = false → a.sec * 1000000000 + a.ns ≤ s.now →
      exec (.timedStrobeFire g) s = .next (levelRefresh (strobe { s with ctl := { s.ctl with armed := s.ctl.armed.filter (fun x => x.2 != a) } }
        (sumN (((s.ctl.armed.filter (fun x => x.2 == a)).map (·.1)).map (fun k => 1 <<< k))) a.acting
        (if s.now - (a.sec * 1000000000 + a.ns) < 4 then a.sec * 1000000000 + a.ns else s.now)))) ∧
    ∀ (s : State) (g : Nat) (a : Armed), armedOf s g = some a → s.now < a.sec * 1000000000 + a.ns →
      exec (.timedStrobeFire g) s = .next (levelRefresh s)) ∧
  (∀ (s : State) (gm : Nat) (guard : Bool) (tref : Nat), (∀ g ∈ onesOf 16 gm, g = 11 ∨ g = 14 ∨ g = 15) →
      ShadowForm s → domOn s 233 = true → domOn s 234 = true →
      (∀ r : Reg, decodeAddr r.key = some r → strobeTakes s gm guard r = true → (strobe s gm guard tref).reg r = s.shadow r) ∧
      (∀ r : Reg, decodeAddr r.key = some r → strobeTakes s gm guard r = false →
        (strobe s gm guard tref).reg r = s.reg r ∧ (strobe s gm guard tref).shadow r = s.shadow r) ∧
      strobe s gm guard tref = { s with regs := (strobe s gm guard tref).regs, shadows := (strobe s gm guard tref).shadows })

/-- The shadow map keeps its form: addresses strictly rising, each the address of a register. After reset, and after any write of
a register's shadow, any change by the device of a register with its shadow, any copy of shadows into active registers, and the
discarding of guard shadows at the seal, the listed shadows stand at strictly rising addresses, each the key of the register that
it decodes to, where they did before. (R48) -/
def Obligations.ShadowFormKept : Prop :=
  ShadowForm State.reset ∧
  (∀ (s : State) (r : Reg) (w : Word), decodeAddr r.key = some r → ShadowForm s → ShadowForm (s.setShadow r w)) ∧
  (∀ (s : State) (f : Fam) (i j : Nat) (w : Word), ShadowForm s → ShadowForm (s.hw f i j w)) ∧
  (∀ (s : State) (f : Fam) (i j lo n v : Nat), decodeAddr (Reg.key ⟨f, i, j⟩) = some ⟨f, i, j⟩ → ShadowForm s →
    ShadowForm (s.hwFld f i j lo n v)) ∧
  (∀ (s : State) (p : Reg → Bool), ShadowForm s → ShadowForm (copyShadows s p)) ∧
  ∀ s : State, ShadowForm s → ShadowForm (sealGuard s)

/-- EVENT_CLAIM by the holder of a Pending source claims it; EVENT_COMPLETE by the claimer ends the claim, every other one is a
stray. EVENT_CLAIM answers NOT_PENDING where the source is not Pending, else NOT_TARGET where the issuer is not its holder,
neither with any effect on the sources, else OK with the source Claimed by the issuer, AGAIN cleared and no offer outstanding.
EVENT_COMPLETE answers OK where the source is Claimed by the issuer, leaving it Pending afresh where an edge came again (an edge
source) or the condition holds (a level source), and Idle otherwise; in every other case it answers NOT_CLAIMED, is counted in
EVT_STRAY and sets STRAY, and leaves every source but STRAY's. Neither depends on delivery being enabled or on dormancy. (R384,
R385) -/
def Obligations.EventClaims : Prop :=
  (∀ (s : State) (who : Who) (n : Nat), served s who = true →
    ((s.src n).st ≠ .pending → exec (.eventClaim who n) s = .next (levelRefresh (testFlush (setRes s stNotPending 0 [])))) ∧
    ((s.src n).st = .pending → srcHolder s n ≠ who.ctx →
      exec (.eventClaim who n) s = .next (levelRefresh (testFlush (setRes s stNotTarget 0 [])))) ∧
    ((s.src n).st = .pending → srcHolder s n = who.ctx →
      exec (.eventClaim who n) s = .next (levelRefresh (testFlush (setRes
        (occ (s.setSrc n { s.src n with st := .claimed, again := false, claimer := who.ctx, offered := none, need := none }) 27 0x12 who.ctx)
        stOk 0 []))))) ∧
  (∀ (s : State) (who : Who) (n : Nat), served s who = true → (s.src n).st = .claimed → (s.src n).claimer = who.ctx →
    let u := occ s 27 0x13 who.ctx
    (((if srcLevel n then levelCond u n else (s.src n).again) = true) → exec (.eventComplete who n) s = .next (levelRefresh (testFlush (setRes
      (u.setSrc n { st := .pending, edges := 1, pendNs := s.time.now.ns, need := some 0 }) stOk 0 [])))) ∧
    (((if srcLevel n then levelCond u n else (s.src n).again) = false) →
      exec (.eventComplete who n) s = .next (levelRefresh (testFlush (setRes (u.setSrc n {}) stOk 0 []))))) ∧
  (∀ (s : State) (who : Who) (n : Nat), served s who = true → ¬((s.src n).st = .claimed ∧ (s.src n).claimer = who.ctx) →
    exec (.eventComplete who n) s = .next (levelRefresh (testFlush (setRes ((s.bump .EVT_STRAY).setFlags .EVT_STATUS 0 0 4) stNotClaimed 0 [])))) ∧
  (∀ (s : State) (n k : Nat) (x : Src), (s.setSrc n x).src k = if k = n then x else s.src k) ∧
  (∀ s : State, ((s.bump .EVT_STRAY).setFlags .EVT_STATUS 0 0 4).rw .EVT_STRAY = s.rw .EVT_STRAY + 1 ∧
    ((s.bump .EVT_STRAY).setFlags .EVT_STATUS 0 0 4).rw .EVT_STATUS = sqSet (s.rw .EVT_STATUS) 4 ∧
    ∀ k ≠ 16, ((s.bump .EVT_STRAY).setFlags .EVT_STATUS 0 0 4).src k = s.src k)

/-- A control frame's request executes and is cached; one with the cached REQUEST_ID is answered from the cache. With the control
engine's clock good. A good control
frame on a ready host lane, addressed to the device (no management address equal to the control address), with a payload of TYPE request from a valid context for which B10 has a
credit: where its REQUEST_ID is the cached one, the cached response goes out again with its REPLAY byte and nothing executes;
otherwise, with a good format, lengths within bounds and no guard tag, it executes from its first operation with an empty
response, acting as the guard where it is the guard context and no tag is required. Where a fence of its context waits, it
is held with its lane and executes nothing. A request without operations is cached against its REQUEST_ID and its response sent; what
is cached is found under its context. A READ of a request appends its entry of STATUS, COUNT and the register's value and goes on.
A frame of another EtherType, or to another address, is left or counted as unknown. (R32, R37, R38, R42, R44, R45) -/
def Obligations.ControlRequests : Prop :=
  (∀ (s : State) (lane : Nat) (waiting : List Nat) (f : Bytes) (ctx : Nat) (c : Cache),
    isRunning s = true → lane ≤ 1 → rxReady s (128 + lane) = true → (etherHead f).2.1 = s.rf .CTL_ETYPE 0 0 0 16 →
    rxError { bytes := f, maxLen := macMaxLen s (128 + lane) } false false = none → closed s 35 = false →
    let u := countRxGood s (128 + lane) f
    let p := (etherHead f).2.2
    (beAt f 0 6 = controlMac u ∨ (mgmtOn u = true ∧ beAt f 0 6 = mgmtMac u)) → mgmtClash u (beAt f 0 6) = false → fld (wordAt (f.drop p) 0) 24 4 = 1 →
    ctxMatch u lane (beAt f 6 6) ((etherHead f).1.map (· % 4096)) = some ctx → b10Credit u (waiting ++ u.ctl.held.map (·.1)) ctx = true →
    fenced u ctx = false →
    mfind u.ctl.caches ctx = some c → c.id = fld (wordAt (f.drop p) 0) 0 16 →
    exec (.controlFrame lane waiting f) s = .next (levelRefresh (sendResp (occ (u.bump .CTL_REPLAYS) 35 0x11 ctx) lane ctx (beAt f 6 6)
      (beAt f 0 6) (patch c.resp 6 [1])))) ∧
  (∀ (s : State) (lane : Nat) (waiting : List Nat) (f : Bytes) (ctx : Nat) (os : List Op),
    isRunning s = true → lane ≤ 1 → rxReady s (128 + lane) = true → (etherHead f).2.1 = s.rf .CTL_ETYPE 0 0 0 16 →
    rxError { bytes := f, maxLen := macMaxLen s (128 + lane) } false false = none → closed s 35 = false →
    let u := countRxGood s (128 + lane) f
    let p := (etherHead f).2.2
    let g := f.take (f.length - 4)
    let w0 := wordAt (g.drop p) 0
    let w1 := wordAt (g.drop p) 1
    let rlen := 16 + 4 * sumN (os.map (fun o => 1 + o.resp))
    (beAt f 0 6 = controlMac u ∨ (mgmtOn u = true ∧ beAt f 0 6 = mgmtMac u)) → mgmtClash u (beAt f 0 6) = false → fld (wordAt (f.drop p) 0) 24 4 = 1 →
    ctxMatch u lane (beAt f 6 6) ((etherHead f).1.map (· % 4096)) = some ctx → b10Credit u (waiting ++ u.ctl.held.map (·.1)) ctx = true →
    fenced u ctx = false →
    (∀ c, mfind u.ctl.caches ctx = some c → c.id ≠ fld (wordAt (f.drop p) 0) 0 16) → reqOps g p = some os → fld w1 16 16 ≤ 10200 → rlen ≤ 10200 →
    max 64 (18 + rlen + (if tst (u.rw .CTL_CTX_CFG ctx) 29 then 4 else 0)) ≤ macMaxLen u (128 + lane) → tst w1 15 = false →
    exec (.controlFrame lane waiting f) s = .next (levelRefresh (execReq u {
      lane := lane, ctx := ctx, acting := decide (ctx = u.rf .CTL_GUARD_CFG 0 0 0 3) && !tst (u.rw .CTL_GUARD_CFG) 8
      id := fld w0 0 16, opCount := os.length, halt := tst w1 14, execNs := u.time.now.ns
      rest := bytesWs (fld w1 16 16 / 4 - 4) ((slice g p (fld w1 16 16)).drop 16), left := os.length
      done := 0, halted := false, resp := [], ownPulse := false, da := beAt f 6 6, sa := beAt f 0 6 }))) ∧
  (∀ (s : State) (lane : Nat) (waiting : List Nat) (f : Bytes) (ctx : Nat),
    isRunning s = true → lane ≤ 1 → rxReady s (128 + lane) = true → (etherHead f).2.1 = s.rf .CTL_ETYPE 0 0 0 16 →
    rxError { bytes := f, maxLen := macMaxLen s (128 + lane) } false false = none → closed s 35 = false →
    let u := countRxGood s (128 + lane) f
    (beAt f 0 6 = controlMac u ∨ (mgmtOn u = true ∧ beAt f 0 6 = mgmtMac u)) → mgmtClash u (beAt f 0 6) = false →
    fld (wordAt (f.drop (etherHead f).2.2) 0) 24 4 = 1 →
    ctxMatch u lane (beAt f 6 6) ((etherHead f).1.map (· % 4096)) = some ctx →
    b10Credit u (waiting ++ u.ctl.held.map (·.1)) ctx = true → fenced u ctx = true →
    exec (.controlFrame lane waiting f) s = .next (levelRefresh { u with ctl := { u.ctl with held := u.ctl.held ++ [(ctx, lane, f)] } })) ∧
  (∀ (s : State) (lane : Nat) (waiting : List Nat) (f : Bytes),
    (isRunning s = false ∨ rxReady s (128 + lane) = false ∨ (etherHead f).2.1 ≠ s.rf .CTL_ETYPE 0 0 0 16) →
    exec (.controlFrame lane waiting f) s = .next (levelRefresh s)) ∧
  (∀ (s : State) (lane : Nat) (waiting : List Nat) (f : Bytes),
    isRunning s = true → lane ≤ 1 → rxReady s (128 + lane) = true → (etherHead f).2.1 = s.rf .CTL_ETYPE 0 0 0 16 →
    rxError { bytes := f, maxLen := macMaxLen s (128 + lane) } false false = none → closed s 35 = false →
    let u := countRxGood s (128 + lane) f
    beAt f 0 6 ≠ controlMac u → mgmtOn u = false →
    exec (.controlFrame lane waiting f) s = .next (levelRefresh ((u.bump .CTL_RX_UNKNOWN).setFlags .CTL_STATUS 0 0 2))) ∧
  (∀ (s : State) (q : Req), q.left = 0 → q.ownPulse = false → execReq s q =
    let p := respPayload q.opCount q.id (if q.halted then 2 else 0) q.ctx q.done q.execNs q.resp
    sendResp (cacheResp (occ s 35 0x10 q.ctx) q.ctx q.id q.da q.sa p) q.lane q.ctx q.da q.sa p) ∧
  (∀ (s : State) (ctx id da sa : Nat) (p : Bytes), ∃ b, mfind (cacheResp s ctx id da sa p).ctl.caches ctx = some ⟨id, p, b⟩) ∧
  ∀ (s : State) (q : Req) (w0 a : Word) (rest : List Word), q.rest = w0 :: a :: rest → q.halted = false → fld w0 28 4 = 1 →
    let r := hostRead s ⟨q.ctx, q.acting⟩ a.toNat
    ∀ n, runReq (n + 1) q s = runReq n { q with
      rest := rest, done := q.done + 1, halted := q.halt && decide (r.1 ≥ 0x10)
      resp := q.resp ++ [put 28 4 1 ||| put 16 9 1 ||| put 0 8 r.1, r.2.1] } (levelRefresh r.2.2)

/-- BLOCK_RESET acts on each block that its mask names and the part has, in turn; the Hotplate and the control engine refuse it
whole. For an issuer that may reset blocks (RESET_GUARDED clear, or acting guard before the seal), a mask without blocks 35 and
36: a pulse or hold that does not name the issuer's own host interface records the named blocks' causes and CMD and then pulses or
holds each in turn; a release releases each; each answers OK. A pulse that names its own interface resets the others first and its
own after the response. A reserved mask bit leaves the named blocks' traffic free and does the rest (log entry 6). A mask with block 35 or 36, or a hold of the own interface, answers NOT_RESETTABLE and resets nothing.
Where RESET_GUARDED is set, another context's is denied and counted. (R36, R55, R103, R106, R110) -/
def Obligations.BlockResetOperations : Prop :=
  (∀ (s : State) (who : Who) (m : Nat), served s who = true →
    (tst (s.rw .CTL_GUARD_CFG) 9 = false ∨ (who.acting = true ∧ guardSealed s = false)) → m < 2 ^ 35 →
    let own := 32 + ctxLane s who.ctx
    let bs := maskBlocks s m
    (bs.contains own = false →
      exec (.blockResetPulse who m) s = .next (levelRefresh (setRes (bs.foldl pulseBlk (markCause s bs)) stOk 0 []))) ∧
    (bs.contains own = true → exec (.blockResetPulse who m) s = .next (levelRefresh (pulseBlk (markCause (setRes
      ((bs.filter (· != own)).foldl pulseBlk (markCause s (bs.filter (· != own)))) stOk 0 []) [own]) own))) ∧
    (m.testBit own = false →
      exec (.blockResetHold who m) s = .next (levelRefresh (setRes (bs.foldl holdBlk (markCause s bs)) stOk 0 []))) ∧
    (m.testBit own = true → exec (.blockResetHold who m) s = .next (levelRefresh (setRes s stNotResettable 0 []))) ∧
    exec (.blockResetRelease who m) s = .next (levelRefresh (setRes (bs.foldl releaseBlk s) stOk 0 []))) ∧
  (∀ (s : State) (who : Who) (m : Nat), served s who = true →
    (tst (s.rw .CTL_GUARD_CFG) 9 = false ∨ (who.acting = true ∧ guardSealed s = false)) → m.testBit 35 = false → m.testBit 36 = false →
    2 ^ 37 ≤ m → exec (.blockResetRelease who m) s =
      .next (levelRefresh (setRes ((maskBlocks s m).foldl releaseBlk (wildBlocks s m)) stOk 0 []))) ∧
  (∀ (s : State) (who : Who) (m : Nat), served s who = true →
    (tst (s.rw .CTL_GUARD_CFG) 9 = false ∨ (who.acting = true ∧ guardSealed s = false)) → (m.testBit 35 || m.testBit 36) = true →
    exec (.blockResetPulse who m) s = .next (levelRefresh (setRes s stNotResettable 0 [])) ∧
    exec (.blockResetHold who m) s = .next (levelRefresh (setRes s stNotResettable 0 [])) ∧
    exec (.blockResetRelease who m) s = .next (levelRefresh (setRes s stNotResettable 0 []))) ∧
  ∀ (s : State) (who : Who) (m : Nat), served s who = true → tst (s.rw .CTL_GUARD_CFG) 9 = true → guardSealed s = false →
    who.acting = false → exec (.blockResetPulse who m) s = .next (levelRefresh (setRes
      (occ ((s.bump .CTL_GUARD_REFUSED).setFlags .CTL_STATUS 0 0 8) 35 0x12 who.ctx) stGuardDenied 0 []))

/-- What a pulse, a hold and a release do to a block in each of its states. A pulse or hold of a running block with an awake
domain closes its wrapper and starts its isolation; a pulse that meets an isolating block is remembered and turns a hold into a
reset, one that meets a releasing block resets it again, one in CLOCK_FAIL releases it, and one on a held block does nothing. A
hold cancels a pending release, holds an isolating block, and holds a releasing or clock-less block at once. A release of a held
or clock-less block starts its release, one of an isolating block is remembered, and one of a running or releasing block does
nothing. (R103, R104, R107, R108, R109) -/
def Obligations.BlockStateMachine : Prop :=
  (∀ (s : State) (b : Nat), (s.blk b).st = .run → blkAsleep s b = false →
    b ∈ [18, 19, 20, 21, 22, 23, 24, 25, 26, 27, 28, 34] →
    pulseBlk s b = s.setBlk b { st := .isolating, closed := true } ∧
    holdBlk s b = s.setBlk b { st := .isolating, hold := true, closed := true }) ∧
  (∀ (s : State) (b : Nat), (s.blk b).st = .isolating →
    pulseBlk s b = s.setBlk b { s.blk b with again := true, hold := false } ∧
    releaseBlk s b = s.setBlk b { s.blk b with relPend := true } ∧
    ((s.blk b).inReset = false → holdBlk s b = s.setBlk b { s.blk b with hold := true, relPend := false, again := false }) ∧
    ((s.blk b).inReset = true → holdBlk s b = s.setBlk b { s.blk b with
      st := .held, hold := true, relPend := false, inReset := false, again := false })) ∧
  (∀ (s : State) (b : Nat), (s.blk b).st = .releasing →
    pulseBlk s b = s.setBlk b { s.blk b with st := .isolating, inReset := true, hold := false, again := false } ∧
    releaseBlk s b = s ∧
    holdBlk s b = s.setBlk b { s.blk b with st := .held, hold := true, relPend := false, xo := false }) ∧
  (∀ (s : State) (b : Nat), (s.blk b).st = .held →
    pulseBlk s b = s ∧ holdBlk s b = s.setBlk b { s.blk b with relPend := false } ∧
    releaseBlk s b = s.setBlk b { s.blk b with st := .releasing, inReset := false, relPend := false, again := false, hold := false }) ∧
  (∀ (s : State) (b : Nat), (s.blk b).st = .clockFail →
    pulseBlk s b = s.setBlk b { s.blk b with st := .releasing, inReset := false, relPend := false, again := false, hold := false } ∧
    releaseBlk s b = pulseBlk s b) ∧
  ∀ (s : State) (b : Nat), (s.blk b).st = .run → releaseBlk s b = s

/-- The course of a block reset: isolation completes, the reset ends, the block is released or its clock fails. ISOLATION_COMPLETE
of an isolating block clears what is inside it and drives its pins safe; a hold without a pending release is then HELD, and anything
else is in its reset. RESET_PULSE_END then starts the release, or the reset once more after a pulse during the isolation.
BLOCK_RELEASE of a releasing block makes it run, with the block's release effects and its release event; CLOCK_FAIL of one leaves
it in CLOCK_FAIL with its wrapper closed and its clock-failure event. FREE_LIST_REBUILD_DONE ends the rebuild and changes nothing
else. Each does nothing to a block in any other state. (R103, R104, R105, R108, R109) -/
def Obligations.BlockResetProgress : Prop :=
  (∀ (s : State) (b : Nat), (s.blk b).st = .isolating → (s.blk b).inReset = false →
    let u := safePins (blockClear s b) b
    (((u.blk b).hold && !(u.blk b).relPend) = true → exec (.isolationComplete b) s = .next (levelRefresh (u.setBlk b
      { u.blk b with st := .held, inReset := false, again := false }))) ∧
    (((u.blk b).hold && !(u.blk b).relPend) = false →
      exec (.isolationComplete b) s = .next (levelRefresh (u.setBlk b { u.blk b with inReset := true })))) ∧
  (∀ (s : State) (b : Nat), (s.blk b).st = .isolating → (s.blk b).inReset = true →
    exec (.resetPulseEnd b) s = .next (levelRefresh (s.setBlk b (if (s.blk b).again then { s.blk b with again := false } else
      { s.blk b with st := .releasing, inReset := false, relPend := false, again := false, hold := false })))) ∧
  (∀ (s : State) (b : Nat), (s.blk b).st = .releasing →
    exec (.blockRelease b) s = .next (levelRefresh (raiseEdge (blockRelease (s.setBlk b {}) b) (128 + 2 * b))) ∧
    exec (.clockFail b) s = .next (levelRefresh (raiseEdge (s.setBlk b { s.blk b with st := .clockFail, closed := true }) (129 + 2 * b)))) ∧
  (∀ s : State, exec .freeListRebuildDone s = .next (levelRefresh { s with car := { s.car with rebuild := false } })) ∧
  ∀ (s : State) (b : Nat), (s.blk b).st = .run → exec (.isolationComplete b) s = .next (levelRefresh s) ∧
    exec (.resetPulseEnd b) s = .next (levelRefresh s) ∧ exec (.blockRelease b) s = .next (levelRefresh s) ∧
    exec (.clockFail b) s = .next (levelRefresh s)

/-- A Hotplate tick advances HOT_TICK; the loss and return of XO_IN and of a reference; a temperature sample. In Running with no
wake waiting and a legal WAKE_BUDGET, HOTPLATE_TICK counts the holds, adds 1 to HOT_TICK modulo 2^32 before the cycle counts, the
low-power times and the interlock sample, and starts no transition. XO_LOST clears the XO and PLL bits and stops each block whose
clock is lost: a running one is isolated into CLOCK_FAIL with its event, its pins safe, and a held one stays. XO_RETURN sets the
bits of XO_IN and the core PLL and releases the blocks stopped for this cause alone, time I/O left to the time PLL. SREF_WINDOW outside 160,000 plus or minus 32 clears the reference's bit and takes its lanes to COLD, and the second
good window in a row sets it again. TEMP_SAMPLE stores the reading, its maximum, and raises ALARM at or above the limit. (R108,
R112, R114, R115, R116, R122, R459) -/
def Obligations.HotplateTickAndClocks : Prop :=
  (∀ (s : State) (hi : Bool), s.boot.st = .running → s.hot.queue = [] → 1 ≤ s.rf .HOT_WAKE_BUDGET 0 0 0 5 →
    s.rf .HOT_WAKE_BUDGET 0 0 0 5 ≤ 16 →
    let v := countHolds s
    let u := countCycles { v with hot := { v.hot with tick := (s.hot.tick + 1) % 2 ^ 32 } }
    exec (.hotplateTick hi) s = .next (levelRefresh (twinTick ((u.macs.map (·.1)).foldl lpiTime u) hi))) ∧
  (∀ (r : WakeReq) (t : List WakeReq) (n : Nat) (s : State), r.cls ≠ 5 → domHeld s r.dom = false →
    ((s.dom r.dom).st = .off ∨ (s.dom r.dom).st = .retained) →
    startReqs (r :: t) (n + 1) s = startReqs t n (laneWaking ({ s with hot := { s.hot with queue := s.hot.queue.erase r } }.setDom r.dom
      { s.dom r.dom with st := .waking, pend := none }) r.dom)) ∧
  (∀ (q : List WakeReq) (s : State), startReqs q 0 s = s) ∧
  (∀ s : State, let u := { setClk s (s.hot.clk &&& 6) with time := { (setClk s (s.hot.clk &&& 6)).time with pllLost := true } }
    exec .xoLost s = .next (levelRefresh ((xoBlocks u).foldl xoCut u))) ∧
  (∀ s : State, let u := setClk s (s.hot.clk ||| 9)
    exec .xoReturn s = .next (levelRefresh (((xoBlocks u).filter (· != 22)).foldl xoFree u))) ∧
  (∀ (s : State) (b : Nat), (s.blk b).st = .run →
    let u := safePins (blockClear (blockClose (s.setBlk b { s.blk b with closed := true }) b) b) b
    xoCut s b = raiseEdge (u.setBlk b { st := .clockFail, closed := true, xo := !(u.blk b).hold }) (129 + 2 * b)) ∧
  (∀ (s : State) (b : Nat), (s.blk b).st = .held → xoCut s b = s ∧ xoFree s b = s) ∧
  (∀ (s : State) (b : Nat), (s.blk b).st = .clockFail → (s.blk b).xo = true →
    xoFree s b = raiseEdge (blockRelease (s.setBlk b {}) b) (128 + 2 * b)) ∧
  (∀ (s : State) (n : Nat), (n < 159968 ∨ 160032 < n) → s.hot.clk.testBit 1 = true →
    exec (.srefWindow 0 n) s = .next (levelRefresh (lanesRefLost (setClkBit { s with hot := { s.hot with good0 := 0 } } 1 false) 0))) ∧
  (∀ (s : State) (n : Nat), 159968 ≤ n → n ≤ 160032 → s.hot.clk.testBit 1 = false → s.hot.good0 = 1 →
    exec (.srefWindow 0 n) s = .next (levelRefresh (setClkBit { s with hot := { s.hot with good0 := 2 } } 1 true))) ∧
  (∀ (s : State) (d : Int), -128 ≤ d → d ≤ 127 → d < (s.rf .DEV_TEMP_LIMIT 0 0 0 8 : Int) → exec (.tempSample d) s = .next (levelRefresh
    { s with temp := { now := d, max := if s.temp.seen then max s.temp.max d else d, seen := true } })) ∧
  ∀ (s : State) (d : Int), -128 ≤ d → d ≤ 127 → (s.rf .DEV_TEMP_LIMIT 0 0 0 8 : Int) ≤ d → exec (.tempSample d) s = .next (levelRefresh
    ({ s with temp := { now := d, max := if s.temp.seen then max s.temp.max d else d, seen := true } }.setFlags .DEV_TEMP_STATUS 0 0 1))

/-- Power domains: a wake completes, idleness or a command queues a sleep, a sleep ends, a held wake follows. DOMAIN_READY of a
waking memory domain or lane makes it ON and warm (a lane is released), wakes its counters, and settles late ports; a missed
strobe of domains 233 and 234 is applied first. DOMAIN_IDLE_SLEEP of an idle AUTO domain that nothing holds awake, and a sleep
command for a domain not ON by mode and not held awake, queue its sleep in class 5 once; the command for the others sets REFUSED.
DOMAIN_SHUTDOWN_DONE leaves a memory RETAINED and another domain OFF and queues a held wake in its class. A wake command queues a
sleeping domain in class 4. (R50, R117, R119, R121, R122, R473) -/
def Obligations.PowerDomains : Prop :=
  (∀ (s : State) (d : Nat), (s.dom d).st = .waking → (s.dom d).missed = 0 →
    ((128 ≤ d ∧ d < 170 ∧ lanePllReady s (d - 128) = true) ∨ (186 ≤ d ∧ d < 218)) →
    let u := s.setDom d { s.dom d with st := .on, warm := true, missed := 0, missedG := 0 }
    let v := if d < 170 then laneReleased u (d - 128) else u
    let w := wakeFx (clearAsleepCounters v d) d
    exec (.domainReady d) s = .next (levelRefresh (bootGo (pipesGo (tblResume (lateReady (txWoken
      (if 202 ≤ d then gatesWoken w else w)))))))) ∧
  (∀ (s : State) (d : Nat), (s.dom d).st = .waking → (s.dom d).missed ≠ 0 → (d = 233 ∨ d = 234) →
    let u := s.setDom d { s.dom d with st := .on, warm := true, missed := 0, missedG := 0 }
    exec (.domainReady d) s = .next (levelRefresh (bootGo (pipesGo (tblResume (lateReady (txWoken
      (strobeDomain (wakeFx (clearAsleepCounters u d) d) d (s.dom d).missed (s.dom d).missedG (s.dom d).missedT)))))))) ∧
  (∀ (s : State) (d : Nat), isRunning s = true → domMode s d = 1 → heldAwake s d = false → mayIdle s d = true → (s.dom d).st = .on →
    (∀ q ∈ s.hot.queue, q.dom ≠ d) → exec (.domainIdleSleep d) s = .next (levelRefresh
      { s with hot := { s.hot with queue := wakeIns ⟨5, d, 0⟩ s.hot.queue } })) ∧
  (∀ (s : State) (d : Nat), domBusy s d = true → exec (.domainShutdownDone d) s = .next (levelRefresh s)) ∧
  (∀ (s : State) (d : Nat), (s.dom d).st = .sleeping → domBusy s d = false → (d < 128 ∨ 170 ≤ d) →
    let u := s.setDom d { s.dom d with st := if sleepsRetained d then .retained else .off }
    ((s.dom d).pend = none → exec (.domainShutdownDone d) s = .next (levelRefresh u)) ∧
    ∀ c, (s.dom d).pend = some c → exec (.domainShutdownDone d) s = .next (levelRefresh
      { u with hot := { u.hot with queue := wakeIns ⟨c.1, d, c.2⟩ u.hot.queue } })) ∧
  (∀ (s : State) (who : Who) (d : Nat), Reached s who ⟨.HOT_DOM_CMD, 0, 0⟩ → d ≤ 235 →
    exec (.domainWakeCmd who (put 0 9 d)) s = .next (wrote s ⟨.HOT_DOM_CMD, 0, 0⟩ (fun s => wake s 4 d)) ∧
    (domPresent s d = true → domMode s d ≠ 2 → (isRunning s = false ∨ heldAwake s d = false) →
      exec (.domainSleepCmd who (put 30 2 1 ||| put 0 9 d)) s = .next (wrote s ⟨.HOT_DOM_CMD, 0, 0⟩ (fun s =>
        if (s.dom d).st = .on then queueSleep (s.setDom d { s.dom d with cmd := true }) d else s))) ∧
    (domPresent s d = true → (domMode s d = 2 ∨ (isRunning s = true ∧ heldAwake s d = true)) → exec (.domainSleepCmd who (put 30 2 1 ||| put 0 9 d)) s =
      .next (wrote s ⟨.HOT_DOM_CMD, 0, 0⟩ (fun s => s.setFlags .HOT_STATUS 0 0 2)))) ∧
  (∀ (s : State) (c d : Nat), domPresent s d = true → ((s.dom d).st = .off ∨ (s.dom d).st = .retained) → (∀ q ∈ s.hot.queue, q.dom ≠ d) →
    isPipe d = false → wake s c d = { s with hot := { s.hot with queue := wakeIns ⟨c, d, 0⟩ s.hot.queue } }) ∧
  (∀ (s : State) (c d b : Nat), isPipe d = true → domPresent s d = true → domOn s d = false → ((202 ≤ b ∧ b < 218) ∨ b = 233) →
    domMode s b ≠ 0 → domPresent s b = true → ((s.dom b).st = .off ∨ (s.dom b).st = .retained) →
    ∃ q ∈ (wake s c d).hot.queue, q.dom = b) ∧
  ∀ (s : State) (d : Nat), (s.dom d).st = .on → (∀ q ∈ s.hot.queue, q.dom ≠ d) →
    queueSleep s d = { s with hot := { s.hot with queue := wakeIns ⟨5, d, 0⟩ s.hot.queue } }

/-- Doze entry and its end, transmit-path sleep with its gate-lead wake, and a write of domain modes. A front port in low-power
idle both ways, with DOZE_EN and enough receive wake time, enters Doze: its domain's sleep is queued and, in the modes that allow
it, its lane goes idle. A receive wake of a dozing port ends Doze and queues its wakes in class 1. A transmit path whose next
opening lies more than LEAD ticks and 2 µs ahead sleeps, with that opening posted; at the opening less LEAD the path's domains are
queued in class 3 with the opening's time. A write of HOT_DOM_MODE stores the word and queues the wake of each present sleeping
domain that it makes ON. (R119, R124, R125, R128) -/
def Obligations.PortPowerStates : Prop :=
  (∀ (s : State) (p : Nat), p < 128 → tst (s.rw .HOT_PORT_PWR p) 31 = true → (s.mac p).txLpi = true → (s.mac p).rxLpi = true →
    dozeNeed s ≤ 1000 * s.rf .MAC_EEE_TW p 0 0 16 → s.hot.doze.contains p = false →
    let v := transmitPathSleep s p
    let u := autoSleep { v with hot := { v.hot with doze := p :: v.hot.doze } } p
    (v.hot.txAsleep.contains p = true →
      exec (.dozeEntry p) s = .next (levelRefresh (if idleMode (laneMode u (p / 4)) then autoSleep u (128 + p / 4) else u))) ∧
    (v.hot.txAsleep.contains p = false → exec (.dozeEntry p) s = .next (levelRefresh v))) ∧
  (∀ (s : State) (p : Nat), s.hot.txAsleep.contains p = true → transmitPathSleep s p = s) ∧
  (∀ (s : State) (d : Nat), autoSleep s d = if domMode s d = 1 ∧ heldAwake s d = false then queueSleep s d else s) ∧
  (∀ (s : State) (p : Nat), s.hot.doze.contains p = true → exec (.rxWakeSignal p) s = .next (levelRefresh (trigger (trigger (trigger
    { s with hot := { s.hot with doze := s.hot.doze.filter (· != p) } } 1 p) 1 (128 + p / 4)) 1 (170 + p / 16)))) ∧
  (∀ (s : State) (p : Nat), p < 128 → eeeActive s p = true → s.rf .HOT_PORT_PWR p 0 0 16 ≠ 0 → s.hot.txAsleep.contains p = false → openQueued s p = false →
    (∀ t ∈ allOpenings s p, s.now + 320 * s.rf .HOT_PORT_PWR p 0 0 16 + 2000 < t) → allOpenings s p ≠ [] →
    ∃ t, exec (.transmitPathSleep p) s = .next t ∧ t.hot.txAsleep = p :: s.hot.txAsleep ∧
      t.hot.leads = (p, minOpening s p) :: s.hot.leads.filter (fun q => q.1 != p) ∧ (t.mac p).txLpi = true ∧
      t = { s with hot := { s.hot with
                     txAsleep := t.hot.txAsleep, txWaking := t.hot.txWaking, leads := t.hot.leads, queue := t.hot.queue }
                   macs := t.macs, regs := t.regs, evt := t.evt } ∧ ∀ q ≠ p, t.mac q = s.mac q) ∧
  (∀ (s : State) (p o : Nat), s.hot.leads.find? (fun q => q.1 == p) = some (p, o) → o ≤ s.now + 320 * s.rf .HOT_PORT_PWR p 0 0 16 →
    let call (u : State) (d : Nat) : State := if domMode u d = 0 then u else wakeAt u 3 d o
    exec (.gateLeadWake p) s = .next (levelRefresh (txWoken (call (call (call { s with hot := { s.hot with
      leads := s.hot.leads.filter (fun q => q.1 != p), txAsleep := s.hot.txAsleep.filter (· != p)
      txWaking := p :: s.hot.txWaking.filter (· != p) } } (178 + p / 16)) p) (128 + p / 4))))) ∧
  ∀ (s : State) (who : Who) (n : Nat) (a w : Word), Reached s who ⟨.HOT_DOM_MODE, n, 0⟩ → MayWrite s who ⟨.HOT_DOM_MODE, n, 0⟩ →
    a.toNat = Reg.key ⟨.HOT_DOM_MODE, n, 0⟩ → reservedEnc ⟨.HOT_DOM_MODE, n, 0⟩ w = false →
    ∃ u, exec (.domModeWrite who a w) s = .next (levelRefresh (testFlush u)) ∧ u.opRes = ⟨stOk, 0, []⟩ ∧
      u.rw .HOT_DOM_MODE n = w &&& writeMask s ⟨.HOT_DOM_MODE, n, 0⟩ ∧
      (∀ i < 16, fld (w &&& writeMask s ⟨.HOT_DOM_MODE, n, 0⟩) (2 * i) 2 = 2 → domPresent s (16 * n + i) = true → (s.dom (16 * n + i)).st = .off →
        ∃ q ∈ u.hot.queue, q.dom = 16 * n + i) ∧
      u = { s with opRes := u.opRes, hot := { s.hot with doms := u.hot.doms, queue := u.hot.queue }, regs := u.regs, evt := u.evt, pct := u.pct }

/-- Lane bring-up: PLL good, training and its end, sync gained and lost, and the wake that fails. A cold lane whose reference is
good and PLL locks goes to TEST while LN_TEST selects something, else to IDLE if it is a port lane whose ports are all disabled,
else to TRAINING with initialised taps where TRAIN is set, else
to DOWN. Training complete leaves DOWN; its timeout re-initialises the taps, counts and flags. A lane in DOWN that gains sync is
UP; the first time since COLD, LN_TRAIN_TIME takes the microseconds since then; an undeskewed stitch lane stays DOWN. A lane in UP
that loses sync reports its links down, leaves UP with its locks cleared and its eye scan stopped (log entry 82), counts and flags;
a port lane in DOWN that loses it only loses its locks. A woken lane not UP in time flags and
trains again where TRAIN is set. (R67, R108, R133, R134, R141, R143, R144, R146) -/
def Obligations.LaneBringUp : Prop :=
  (∀ (s : State) (l : Nat), lanePresent s l = true → (s.lane l).st = .cold → lanePllReady s l = true → closed s (domBlock (128 + l)) = false →
    exec (.lanePllGood l) s = .next (levelRefresh
      (if fld (s.rw .LN_TEST l) 16 16 ≠ 0 then s.setLane l { s.lane l with st := .test, pll := true }
      else if l < 32 ∧ (∀ p ∈ lanePorts s l, portDisabled s p = true) then s.setLane l { s.lane l with st := .idle, pll := true }
      else if laneTrain s l then (s.setLane l { s.lane l with st := .training, pll := true }).wr .LN_TX_TAPS l 0
        (put 16 5 2 ||| put 8 6 38 ||| put 0 5 8)
      else s.setLane l { s.lane l with st := .down, pll := true }))) ∧
  (∀ (s : State) (l : Nat), (s.lane l).st = .training →
    exec (.trainingComplete l) s = .next (levelRefresh (s.setLane l { s.lane l with st := .down })) ∧
    exec (.trainingTimeout l) s = .next (levelRefresh (((s.wr .LN_TX_TAPS l 0 (put 16 5 2 ||| put 8 6 38 ||| put 0 5 8)).bump
      .LN_TRAIN_FAILS l).setFlags .LN_STATUS l 0 4))) ∧
  (∀ (s : State) (l : Nat), (s.lane l).st = .down →
    let u := s.setLane l { s.lane l with sync := true, cdr := true }
    ((isStitch l && !(s.lane l).desk) = true → exec (.laneSyncGained l) s = .next (levelRefresh u)) ∧
    ((isStitch l && !(s.lane l).desk) = false → (s.lane l).bring = false → exec (.laneSyncGained l) s = .next (levelRefresh
      (u.setLane l { u.lane l with st := .up, woke := false, bring := false }))) ∧
    ((isStitch l && !(s.lane l).desk) = false → (s.lane l).bring = true → exec (.laneSyncGained l) s = .next (levelRefresh
      ((u.setLane l { u.lane l with st := .up, woke := false, bring := false }).wr .LN_TRAIN_TIME l 0
        (wd (min (((s.hot.tick + 2 ^ 32 - (s.lane l).coldTick) % 2 ^ 32) * 320 / 1000) 1048575)))))) ∧
  (∀ (s : State) (l : Nat), (s.lane l).st = .up →
    let u := reportDown s l
    exec (.laneSyncLost l) s = .next (levelRefresh (eyeStop (((u.setLane l { u.lane l with
      st := if laneTrain u l then .training else .down, sync := false, cdr := false, mlock := false, desk := false, mkAt := none, mkMiss := 0 }).bump
      .LN_LOCK_LOSS l).setFlags .LN_STATUS l 0 1) l))) ∧
  (∀ (s : State) (l : Nat), (s.lane l).st = .down → isStitch l = false → exec (.laneSyncLost l) s = .next (levelRefresh (s.setLane l
    { s.lane l with sync := false, cdr := false, mlock := false, desk := false, mkAt := none, mkMiss := 0 }))) ∧
  ∀ (s : State) (l : Nat), (s.lane l).st = .down → (s.lane l).woke = true → exec (.laneWakeTimeout l) s = .next (levelRefresh
    ((s.setLane l { s.lane l with woke := false, st := if laneTrain s l then .training else .down }).setFlags .LN_STATUS l 0 1))

/-- Transmit taps, lane tests and eye scans. In TRAINING, a request to raise PRE, MAIN or POST adds 1 unless the tap is at its
maximum (8, 48, 16) or the sum is 48, when it is answered maximum and nothing moves; a request to lower it subtracts 1 unless it
is at its minimum (0, 24, 0), when it is answered minimum; an update is answered so; a preset request sets 0, 48, 0 and an
initialise request 2, 38, 8. A host write of taps within their ranges and
sum on a lane without training stores exactly them; on a lane with TRAIN it changes nothing. Clamping always ends within the
ranges and the sum of 48. Through the lane window, a legal LN_TEST word on a port or stitch lane that is not OFF stores it and,
selecting something, takes the lane to TEST; a host lane's word waits for its response; with CLR it zeroes LN_PRBS_ERR. START of
the eye monitor on an idle scanner of a lane in UP or TEST clears the counts and is busy; elsewhere it ends at once with every
count at 65,535 and EYE_DONE. EYE_SCAN_DONE of a busy scan stores the counts it brings and sets EYE_DONE. (R133, R135, R144, R145,
R146, R148) -/
def Obligations.TapsTestsAndEye : Prop :=
  ((∀ (s : State) (l tap : Nat), (s.lane l).st = .training → tap ≤ 2 →
      let w := s.rw .LN_TX_TAPS l
      let lo := [16, 8, 0].getD tap 0
      let n := [5, 6, 5].getD tap 5
      let sum := fld w 16 5 + fld w 8 6 + fld w 0 5
      ((fld w lo n ≥ [8, 48, 16].getD tap 0 ∨ sum ≥ 48) →
        exec (.tapUpdateRequest l tap true) s = .next (levelRefresh (s.emit (.tapAnswer l tap 2)))) ∧
      (fld w lo n < [8, 48, 16].getD tap 0 → sum < 48 → exec (.tapUpdateRequest l tap true) s = .next (levelRefresh
        ((s.wr .LN_TX_TAPS l 0 (setFld w lo n (fld w lo n + 1))).emit (.tapAnswer l tap 1)))) ∧
      (fld w lo n ≤ [0, 24, 0].getD tap 0 →
        exec (.tapUpdateRequest l tap false) s = .next (levelRefresh (s.emit (.tapAnswer l tap 3)))) ∧
      ([0, 24, 0].getD tap 0 < fld w lo n → exec (.tapUpdateRequest l tap false) s = .next (levelRefresh
        ((s.wr .LN_TX_TAPS l 0 (setFld w lo n (fld w lo n - 1))).emit (.tapAnswer l tap 1))))) ∧
    (∀ (s : State) (l : Nat) (up : Bool), (s.lane l).st = .training →
      exec (.tapUpdateRequest l 3 up) s = .next (levelRefresh ((s.wr .LN_TX_TAPS l 0 (put 8 6 48)).emit (.tapAnswer l 3 1))) ∧
      exec (.tapUpdateRequest l 4 up) s = .next (levelRefresh
        ((s.wr .LN_TX_TAPS l 0 (put 16 5 2 ||| put 8 6 38 ||| put 0 5 8)).emit (.tapAnswer l 4 1)))) ∧
    (∀ (s : State) (who : Who) (l : Nat) (w : Word), l < 42 → Reached s who ⟨.LN_IND_ADDR, 0, 0⟩ → isGuardReg s ⟨.LN_IND_ADDR, 0, 0⟩ = false →
      isGuardReg s ⟨.LN_IND_DATA, 0, 0⟩ = false → laneFused s l = false → regClosed s ⟨.LN_TX_TAPS, l, 0⟩ = false →
      laneMode s l ≠ 0 → (s.lane l).st ≠ .off →
      ∃ u, exec (.txTapsWrite who l w) s = .next (levelRefresh (testFlush u)) ∧ u.opRes = ⟨stOk, 1, []⟩ ∧
        u.rw .LN_TX_TAPS l = (if laneTrain s l then s.rw .LN_TX_TAPS l else clampTaps w) ∧
        u = { s with opRes := u.opRes, regs := u.regs, evt := u.evt, pct := u.pct }) ∧
    (∀ w : Word, fld (clampTaps w) 16 5 ≤ 8 ∧ 24 ≤ fld (clampTaps w) 8 6 ∧ fld (clampTaps w) 0 5 ≤ 16 ∧
      fld (clampTaps w) 16 5 + fld (clampTaps w) 8 6 + fld (clampTaps w) 0 5 ≤ 48) ∧
    ∀ w : Word, fld w 16 5 ≤ 8 → 24 ≤ fld w 8 6 → fld w 0 5 ≤ 16 → fld w 16 5 + fld w 8 6 + fld w 0 5 ≤ 48 →
      fld (clampTaps w) 16 5 = fld w 16 5 ∧ fld (clampTaps w) 8 6 = fld w 8 6 ∧ fld (clampTaps w) 0 5 = fld w 0 5) ∧
  ((∀ (s : State) (l : Nat) (w : Word), l < 40 → (s.lane l).st ≠ .off → (s.lane l).st ≠ .up → (s.lane l).st ≠ .idle →
      fld (w &&& 0xCF0F0000) 16 16 ≠ 0 →
      let t := (if tst w 0 then s.wr .LN_PRBS_ERR l 0 0 else laneCatchUp s l).wr .LN_TEST l 0 (w &&& 0xCF0F0000)
      let u := if (s.lane l).st = .test ∧ fld w 16 4 = fld (s.rw .LN_TEST l) 16 4 then t
        else t.wr .LN_PRBS_ERR l 0 (t.rw .LN_PRBS_ERR l &&& 0x7FFFFFFF)
      testWrite s l w = u.setLane l { s.lane l with st := .test, sync := false, mlock := false, desk := false, woke := false }) ∧
    (∀ (s : State) (l : Nat) (w : Word), 40 ≤ l → testWrite s l w =
      ((if tst w 0 then s.wr .LN_PRBS_ERR l 0 0 else laneCatchUp s l).wr .LN_TEST l 0 (w &&& 0xCF0F0000)).setLane l
        { s.lane l with testNext := some (w &&& 0xCF0F0000, ((s.lane l).testNext.map (·.2)).getD (s.rw .LN_TEST l)) }) ∧
    (∀ (s : State) (l : Nat), ((s.lane l).st ≠ .test ∨ fld (s.rw .LN_TEST l) 16 4 = 0) →
      ((s.lane l).st ≠ .up ∨ fld (laneRec s l) 20 2 = 0) → laneCatchUp s l = s) ∧
    (∀ (s : State) (l : Nat) (w : Word), l < 40 → tst w 0 = true → (s.lane l).st ∈ [.cold, .training, .down] →
      (testWrite s l w).rw .LN_PRBS_ERR l = 0) ∧
    (∀ (s : State) (who : Who) (l : Nat) (w : Word), l < 42 → Reached s who ⟨.LN_IND_ADDR, 0, 0⟩ → isGuardReg s ⟨.LN_IND_ADDR, 0, 0⟩ = false →
      isGuardReg s ⟨.LN_IND_DATA, 0, 0⟩ = false → laneFused s l = false → regClosed s ⟨.LN_TEST, l, 0⟩ = false →
      laneMode s l ≠ 0 → (s.lane l).st ≠ .off → reservedEnc ⟨.LN_TEST, l, 0⟩ w = false →
      ∃ u, u = { s with regs := u.regs, evt := u.evt, pct := u.pct } ∧ u.rw .LN_TEST l = s.rw .LN_TEST l ∧
        exec (.laneTestWrite who l w) s = .next (levelRefresh (testFlush (setRes ((testWrite u l w).wr .LN_IND_ADDR 0 0
          ((testWrite u l w).rw .LN_IND_ADDR + 1)) stOk 1 []))) ∧
        exec (.prbsClear who l w) s = .next (levelRefresh (testFlush (setRes ((testWrite u l w).wr .LN_IND_ADDR 0 0
          ((testWrite u l w).rw .LN_IND_ADDR + 1)) stOk 1 [])))) ∧
    (∀ (s : State) (who : Who) (l : Nat) (w : Word), l < 42 → Reached s who ⟨.LN_IND_ADDR, 0, 0⟩ → isGuardReg s ⟨.LN_IND_ADDR, 0, 0⟩ = false →
      isGuardReg s ⟨.LN_IND_DATA, 0, 0⟩ = false → laneFused s l = false → regClosed s ⟨.LN_EYE_CMD, l, 0⟩ = false →
      laneMode s l ≠ 0 → (s.lane l).st ≠ .off → tst w 31 = true → (s.lane l).eyeBusy = false →
      ∃ u, exec (.eyeScanStart who l w) s = .next (levelRefresh (testFlush u)) ∧ u.opRes = ⟨stOk, 1, []⟩ ∧
        u.lane l = (if (s.lane l).st = .up ∨ (s.lane l).st = .test then { s.lane l with eye := [], eyeSat := false, eyeBusy := true }
          else { s.lane l with eye := [], eyeSat := true }) ∧ u.rw .LN_EYE_CMD l = w &&& 0x1F ∧ ∀ k ≠ l, u.lane k = s.lane k) ∧
    ∀ (s : State) (l : Nat) (cs : List Word), (s.lane l).eyeBusy = true → exec (.eyeScanDone l cs) s = .next (levelRefresh
      ((s.setLane l { s.lane l with eye := ((List.range 2048).zip cs).foldl (fun m p => mput 0 m p.1 p.2) [], eyeBusy := false }).setFlags
        .LN_STATUS l 0 128)))

/-- Rate matching at a gap, and alignment markers of a stitch lane. On a port lane in UP, a gap of at least two units with a fill above three quarters of
the FIFO deletes one unit and counts it, and one with a fill below one quarter inserts one and counts it; a fill in between, or a
port that is not at a gap, changes nothing; on a stitch lane one column goes or comes on every lane of the link (log entry 117). On a stitch lane
with sync, a marker where none is expected yet fixes the marker place, takes the logical lane it names and counts no parity error;
a marker at its due place with the right parity gives marker lock and a deskew attempt; a lane without lock that misses its due
place looks for a first marker again; with lock a missing marker is counted up to three and the fourth loses marker lock, deskew
and, from UP, the link and a running eye scan (log entries 82, 118). (R136, R137, R140,
R141, R402) -/
def Obligations.LaneRateAndAlignment : Prop :=
  (∀ (s : State) (l sub fill gap : Nat), isStitch l = false → (s.lane l).st = .up → atGap s l sub = true → 2 ≤ gap →
    3 * (fifoShape (laneMode s l)).1 < 4 * fill → fill ≤ (fifoShape (laneMode s l)).1 →
    exec (.rateMatchDelete l sub fill gap) s = .next (levelRefresh (laneOcc ((s.setLane l { s.lane l with
      fill := mput 0 (s.lane l).fill sub (fill - (fifoShape (laneMode s l)).2) }).bump .LN_FILL_DEL l) l 0x18))) ∧
  (∀ (s : State) (l sub fill : Nat), isStitch l = false → (s.lane l).st = .up → atGap s l sub = true →
    4 * fill < (fifoShape (laneMode s l)).1 →
    exec (.rateMatchInsert l sub fill) s = .next (levelRefresh (laneOcc ((s.setLane l { s.lane l with
      fill := mput 0 (s.lane l).fill sub (fill + (fifoShape (laneMode s l)).2) }).bump .LN_FILL_INS l) l 0x19))) ∧
  (∀ (s : State) (l sub fill gap : Nat), (fifoShape (laneMode s l)).1 ≤ 4 * fill → 4 * fill ≤ 3 * (fifoShape (laneMode s l)).1 →
    exec (.rateMatchDelete l sub fill gap) s = .next (levelRefresh s) ∧ exec (.rateMatchInsert l sub fill) s = .next (levelRefresh s)) ∧
  (∀ (s : State) (l sub fill gap : Nat), isStitch l = false → atGap s l sub = false →
    exec (.rateMatchDelete l sub fill gap) s = .next (levelRefresh s) ∧ exec (.rateMatchInsert l sub fill) s = .next (levelRefresh s)) ∧
  (∀ (s : State) (l sub fill gap : Nat), gap < 2 → exec (.rateMatchDelete l sub fill gap) s = .next (levelRefresh s)) ∧
  (∀ (s : State) (l sub fill gap : Nat), isStitch l = true → (s.lane l).st = .up → 2 ≤ gap →
    let k := (linkLanes (laneLink l)).headD l
    let x := s.lane k
    (3 * (fifoShape (laneMode s l)).1 < 4 * fill → fill ≤ (fifoShape (laneMode s l)).1 → exec (.rateMatchDelete l sub fill gap) s =
      .next (levelRefresh ((linkLanes (laneLink l)).foldl (fun s j => s.bump .LN_FILL_DEL j)
        (s.setLane k { x with fill := mput 0 x.fill sub (fill - (fifoShape (laneMode s l)).2) })))) ∧
    (4 * fill < (fifoShape (laneMode s l)).1 → exec (.rateMatchInsert l sub fill) s =
      .next (levelRefresh ((linkLanes (laneLink l)).foldl (fun s j => s.bump .LN_FILL_INS j)
        (s.setLane k { x with fill := mput 0 x.fill sub (fill + (fifoShape (laneMode s l)).2) }))))) ∧
  (∀ (s : State) (l pos k bip : Nat) (w0 w1 : Word), isStitch l = true → (s.lane l).sync = true → markerOf w0 w1 = some k →
    (s.lane l).mkAt = none → (s.lane l).mlock = false →
    exec (.alignmentMarker l pos w0 w1 bip) s = .next (levelRefresh (deskew (s.setLane l { s.lane l with
      mkAt := some pos, mkMiss := 0, logical := k, mlock := false }) (laneLink l)))) ∧
  (∀ (s : State) (l a k bip : Nat) (w0 w1 : Word), isStitch l = true → (s.lane l).sync = true → markerOf w0 w1 = some k →
    (s.lane l).mkAt = some a → (s.lane l).mkMiss = 0 → fld w0 0 8 = bip % 256 →
    exec (.alignmentMarker l (a + 16385) w0 w1 bip) s = .next (levelRefresh (deskew (s.setLane l { s.lane l with
      mkAt := some (a + 16385), mkMiss := 0, logical := k, mlock := true }) (laneLink l)))) ∧
  (∀ (s : State) (l a bip : Nat) (w0 w1 : Word), isStitch l = true → (s.lane l).sync = true → markerOf w0 w1 = none →
    (s.lane l).mkAt = some a →
    ((s.lane l).mlock = true → (s.lane l).mkMiss < 3 →
      exec (.alignmentMarker l (a + 16385 * ((s.lane l).mkMiss + 1)) w0 w1 bip) s = .next (levelRefresh
        (s.setLane l { s.lane l with mkMiss := (s.lane l).mkMiss + 1 }))) ∧
    ((s.lane l).mlock = false → exec (.alignmentMarker l (a + 16385) w0 w1 bip) s = .next (levelRefresh
      (s.setLane l { s.lane l with mkAt := none, mkMiss := 0 })))) ∧
  ∀ (s : State) (l a bip : Nat) (w0 w1 : Word), isStitch l = true → (s.lane l).sync = true → markerOf w0 w1 = none →
    (s.lane l).mkAt = some a → (s.lane l).mkMiss = 3 → (s.lane l).mlock = true → (s.lane l).st = .up →
    exec (.alignmentMarker l (a + 16385 * 4) w0 w1 bip) s = .next (levelRefresh (eyeStop (reportDown ((s.setFlags .LN_STATUS l 0 8).setLane l
      { s.lane l with mlock := false, desk := false, mkAt := none, mkMiss := 0 }) l) l))

/-- Enabling and disabling a front port: PORT_EN, the drain limit, the end of the disable. A write of MAC_CFG with PORT_EN stores
the word and enables a disabled present front port (its domains and lane are woken) or is remembered while the port is disabling;
one without PORT_EN starts the disable, draining when DRAIN is set. The drain limit ends the drain step. Once the drain is over
and no frame is in progress, the port's frames are discarded, its low-power idle ends, it is disabled with its link down, flagged
and flushed, and its lane goes idle when every port of it is disabled; a remembered enable, which a further 0 calls off (log
entry 112), then follows. (R171, R172, R174, R223)
-/
def Obligations.PortEnableDisable : Prop :=
  (∀ (s : State) (who : Who) (p : Nat) (w : Word), p < 128 → portPresent s p = true → Reached s who ⟨.MAC_CFG, p, 0⟩ →
    MayWrite s who ⟨.MAC_CFG, p, 0⟩ →
    (tst w 31 = true → (s.mac p).en = .disabled → exec (.portEnable who p w) s = .next (wrote s ⟨.MAC_CFG, p, 0⟩ (fun s =>
      let u := trigger (trigger ((s.wr .MAC_CFG p 0 (w &&& 0xC0003FFF)).setMac p
        { s.mac p with en := .enabled, enPend := false, drained := false, txDis := false }) 2 p) 2 (128 + p / 4)
      if domOn u (128 + p / 4) && !closed u (portBlock p) then laneWake u (p / 4) else u))) ∧
    (tst w 31 = true → (s.mac p).en = .disabling → exec (.portEnable who p w) s = .next (wrote s ⟨.MAC_CFG, p, 0⟩ (fun s =>
      (s.wr .MAC_CFG p 0 (w &&& 0xC0003FFF)).setMac p { s.mac p with enPend := true }))) ∧
    (tst w 31 = false → (s.mac p).en = .enabled → exec (.portDisable who p w) s = .next (wrote s ⟨.MAC_CFG, p, 0⟩ (fun s =>
      (s.wr .MAC_CFG p 0 (w &&& 0xC0003FFF)).setMac p { s.mac p with en := .disabling, drained := !tst w 30, enPend := false }))) ∧
    (tst w 31 = false → (s.mac p).en = .disabling → exec (.portDisable who p w) s = .next (wrote s ⟨.MAC_CFG, p, 0⟩ (fun s =>
      (s.wr .MAC_CFG p 0 (w &&& 0xC0003FFF)).setMac p { s.mac p with enPend := false })))) ∧
  (∀ (s : State) (p : Nat), (s.mac p).en = .disabling →
    exec (.disableDrainLimit p) s = .next (levelRefresh (s.setMac p { s.mac p with drained := true }))) ∧
  (∀ (s : State) (p : Nat), p < 128 → (s.mac p).en = .disabling → (s.mac p).tx = none → (s.mac p).txP = none →
    ((s.mac p).drained = true ∨ ∀ c ∈ s.car.copies, c.port ≠ p) →
    let u := setLpi (purgePort s p false) p false false
    let v := linkdownFlush ((u.setMac p { u.mac p with en := .disabled, link := false, ver := .disabled, tries := 0, txDis := true }).setFlags
      .MAC_STATUS p 0 16) p
    let x := if (lanePorts v (p / 4)).all (fun q => portDisabled v q) then laneIdle v (p / 4) else v
    exec (.disableEnd p) s = .next (levelRefresh (if (s.mac p).enPend then enableNow x p else x))) ∧
  ∀ (s : State) (p : Nat), ((s.mac p).tx ≠ none ∨ (s.mac p).txP ≠ none) → exec (.disableEnd p) s = .next (levelRefresh s)

/-- Links come up and go down, and remote and local fault take them down. LINK_UP of an enabled present port whose lane is UP
raises the link with the mode's speed, or the negotiated one in a mode with several, clears fault, sets LINK_UP, triggers the
Carafe's domains and its own pipeline's and MAC's, and starts verification. LINK_DOWN of a link that is up ends low-power idle, forgets what is in transmission,
discards what is queued, counts it, flags it and starts a link-down flush; on a link that is down it does nothing. Remote fault in
a 64b/66b mode takes the link down once and sets FAULT (that all of R174 follows: log entry 111); local fault takes it down once. (R119, R155, R159, R171, R174, R175, R223)
-/
def Obligations.LinksAndFaults : Prop :=
  (∀ (s : State) (p sp : Nat), p < 130 → portPresent s p = true → laneUp s p = true → enState s p = .enabled → (s.mac p).link = false →
    let m := laneMode s (portLane p)
    let r := if (s.mac p).rf || (s.mac p).lf then s.emit (.signal p none) else s
    let u := (r.setMac p { r.mac p with
      link := true, speed := if (m = 2 ∨ m = 5 ∨ m = 8 ∨ m = 9) ∧ sp ≤ modeSpeed m then sp else modeSpeed m, rf := false, lf := false }).setFlags
      .MAC_STATUS p 0 1
    let v := (List.range 16).foldl (fun s k => trigger s 2 (186 + k)) u
    exec (.linkUp p sp) s = .next (levelRefresh (refreshDormant (startVerify (if 128 ≤ p then trigger v 2 232
      else trigger (trigger v 2 p) 2 (170 + p / 16)) p)))) ∧
  (∀ (s : State) (p : Nat), (s.mac p).link = true →
    let u := rxCut s p
    let v := u.setMac p { u.mac p with link := false, ver := verRest u p, tries := 0, tx := none, txP := none
                                       txLpi := false, rxLpi := false, ctlq := [], ownPulse := false }
    let w := (u.mac p).ctlq.foldl (fun s x => match x.2 with
      | some (o, k) => lbmGive s o k
      | none => s) (macCount v p 42 (u.mac p).ctlq.length)
    let y := pathKept ((macCount (purgePort w p true) p 47).setFlags .MAC_STATUS p 0 2) p
    exec (.linkDown p) s = .next (levelRefresh (refreshDormant (linkdownFlush
      { y with hot := { y.hot with doze := y.hot.doze.filter (· != p) } } p)))) ∧
  (∀ (s : State) (p : Nat), (s.mac p).link = false → exec (.linkDown p) s = .next (levelRefresh s)) ∧
  (∀ (s : State) (p : Nat), p < 130 → portPresent s p = true → faultMode (laneMode s (portLane p)) = true →
    ((s.mac p).rf = false → exec (.remoteFaultRx p) s = .next (levelRefresh
      (((linkDownFx (s.setMac p { s.mac p with rf := true, lf := false }) p).setFlags .MAC_STATUS p 0 4).emit (.signal p (some false))))) ∧
    ((s.mac p).rf = true → exec (.remoteFaultRx p) s = .next (levelRefresh s)) ∧
    ((s.mac p).lf = false → exec (.localFaultRx p) s = .next (levelRefresh
      ((linkDownFx (s.setMac p { s.mac p with lf := true, rf := false }) p).emit (.signal p (some true))))) ∧
    ((s.mac p).lf = true → exec (.localFaultRx p) s = .next (levelRefresh s))) ∧
  ∀ (s : State) (p : Nat), faultMode (laneMode s (portLane p)) = false →
    exec (.remoteFaultRx p) s = .next (levelRefresh s) ∧ exec (.localFaultRx p) s = .next (levelRefresh s)

/-- Preemption verification, and the entry into and exit from low-power idle. A verify mPacket on a present port with its link up
is answered with a respond mPacket whatever MM_EN holds. A respond mPacket ends a verification with success and otherwise does
nothing. VERIFY_TIMEOUT sends another verify up to the third and then fails, setting VERIFY_FAIL. A port with EEE active and
nothing to send enters transmit low-power idle, a frame for it ends that, and the partner's changes of receive low-power idle are
followed; each changes the one direction and keeps the other. (R159, R168, R169, R170, R175) -/
def Obligations.VerificationAndLpi : Prop :=
  (∀ (s : State) (p : Nat), portPresent s p = true → (s.mac p).link = true →
    exec (.verifyMpacketRx p) s = .next (levelRefresh { s with out := s.out ++ [.mpacket p true] })) ∧
  (∀ (s : State) (p : Nat), (s.mac p).ver = .verifying →
    exec (.respondMpacketRx p) s = .next (levelRefresh (s.setMac p { s.mac p with ver := .succeeded })) ∧
    (1 ≤ s.rf .MAC_MM_CFG p 0 16 8 → s.rf .MAC_MM_CFG p 0 16 8 ≤ 128 →
     ((s.mac p).tries < 3 → exec (.verifyTimeout p) s = .next (levelRefresh
      (macCount ((s.setMac p { s.mac p with tries := (s.mac p).tries + 1 }).emit (.mpacket p false)) p 55))) ∧
     (3 ≤ (s.mac p).tries → exec (.verifyTimeout p) s = .next (levelRefresh
      ((s.setMac p { s.mac p with ver := .failed }).setFlags .MAC_STATUS p 0 8))))) ∧
  (∀ (s : State) (p : Nat), (s.mac p).ver ≠ .verifying →
    exec (.respondMpacketRx p) s = .next (levelRefresh s) ∧ exec (.verifyTimeout p) s = .next (levelRefresh s)) ∧
  (∀ (s : State) (p : Nat), eeeActive s p = true → (s.mac p).txLpi = false → txQueued s p = false →
    exec (.txLpiEntry p) s = .next (levelRefresh (setLpi s p true (s.mac p).rxLpi))) ∧
  (∀ (s : State) (p : Nat), (s.mac p).txLpi = true → txQueued s p = true →
    exec (.txLpiExit p) s = .next (levelRefresh (ctlFlush (lpiExit s p) p)) ∧
      (lpiExit s p).mac p = { s.mac p with txLpi := false, txWait := s.time.ticks + 250 * s.rf .MAC_EEE_TW p 0 16 16 }) ∧
  (∀ (s : State) (p : Nat), txQueued s p = true ↔ (s.mac p).ctlq ≠ [] ∨ (s.mac p).tx ≠ none ∨ (s.mac p).txP ≠ none ∨
    ∃ c ∈ s.car.copies, c.port = p ∧ c.issued ≠ 0 ∧ 0 < c.read) ∧
  (∀ (s : State) (p : Nat) (lpi : Bool), eeeActive s p = true →
    let u := setLpi s p (s.mac p).txLpi lpi
    exec (.rxLpiChange p lpi) s = .next (levelRefresh (if lpi then u else dozeWake u p))) ∧
  ∀ (s : State) (p : Nat) (tx rx : Bool), ((setLpi s p tx rx).mac p).txLpi = tx ∧ ((setLpi s p tx rx).mac p).rxLpi = rx ∧
    ((setLpi s p tx rx).mac p).link = (s.mac p).link ∧ ∀ q ≠ p, (setLpi s p tx rx).mac q = s.mac q

/-- Reception at a port: the first byte, preemption fragments, and the verdict with its one error counter. At a port ready to
receive with no frame in progress, whose way in the host has not left asleep (log entry 81), a frame start opens a frame with its stamp where B2 has room, else counts MAC_RX_OVERFLOW (24)
and event 0x16 and discards it; a FIFO error is flagged. At the verdict a frame is ended and counted good (and its verdict good)
when it is 64 bytes to MAX_LEN long with a right FCS and no code error; every bad frame counts in one error counter: a code error
19, overlength 22 or 23, a wrong FCS 18 or 21, short 20, a failed reassembly 51; one for which B2 ran full counts in none of these. An unknown SMD counts 52; a continuation without
a frame under reassembly 49 and 51. (R24, R138, R150, R151, R152, R163, R165, R245) -/
def Obligations.FrameReception : Prop :=
  (∀ (s : State) (p half : Nat) (e : Bool), rxReady s p = true → (s.mac p).rx = none →
    (b2Used s p < 128 * b2Depth s p →
      let r := s.newFrm { src := p, feed := feedOf p, ref := portRef s p, rate := portRate s p, t := rxStamp s p half }
      let u := r.1.setMac p { s.mac p with rx := some { fid := some r.2, maxLen := macMaxLen s p, code := e } }
      exec (.frameStart p half e) s = .next (levelRefresh (if e then u.setFlags .LN_STATUS (portLane p) 0 2 else u))) ∧
    (128 * b2Depth s p ≤ b2Used s p →
      let r := occ (macCount s p 24) (portBlock p) 0x16 (portSub p)
      let u := r.setMac p { r.mac p with rx := some { noCredit := true, maxLen := macMaxLen s p, code := e } }
      exec (.frameStart p half e) s = .next (levelRefresh (if e then u.setFlags .LN_STATUS (portLane p) 0 2 else u)))) ∧
  (∀ (s : State) (p half : Nat) (e : Bool), p < 130 → portPresent s p = true → closed s (portBlock p) = true →
    exec (.frameStart p half e) s = .next (levelRefresh (isoDiscard s (portBlock p)))) ∧
  (∀ (s : State) (p half : Nat) (e : Bool), rxReady s p = false → (130 ≤ p ∨ portPresent s p = false ∨ closed s (portBlock p) = false) →
    rxLeft s p = false → exec (.frameStart p half e) s = .next (levelRefresh s)) ∧
  (∀ (s : State) (p : Nat) (tail : Bytes) (e : Bool) (x : RxSt), (s.mac p).rx = some x →
    let r := rxAdd s p x tail
    let u := r.2.setMac p { r.2.mac p with rx := none }
    let b := x.bytes ++ tail
    r.1.bytes = b ∧
    (∀ id, r.1.fid = some id → r.1.noCredit = false →
      (rxError r.1 false (e || r.1.code) = none → beAt b 12 2 ≠ 0x8808 → exec (.fcsVerdict p false tail (if e then 1 else 0)) s =
        .next (levelRefresh (verdictFx (frameEnds (countRxGood u p b) id) id true))) ∧
      (rxError r.1 false (e || r.1.code) = none → beAt b 12 2 = 0x8808 → exec (.fcsVerdict p false tail (if e then 1 else 0)) s =
        .next (levelRefresh { countRxGood u p b with car := { (countRxGood u p b).car with frames := mdel (countRxGood u p b).car.frames id } })) ∧
      (∀ c, rxError r.1 false (e || r.1.code) = some c → exec (.fcsVerdict p false tail (if e then 1 else 0)) s =
        .next (levelRefresh (verdictFx (frameEnds (countRxBad u p b.length c) id) id false)))) ∧
    (r.1.noCredit = true → exec (.fcsVerdict p false tail (if e then 1 else 0)) s = .next (levelRefresh (countRxAll u p b.length)))) ∧
  (∀ (s : State) (p id : Nat) (tail : Bytes) (x : RxSt) (f : CFrame), x.fid = some id → s.frm id = some f → f.ended = false →
    f.started = false → (x.bytes ++ tail).length ≤ x.maxLen →
    let v := dripFollow (s.setFrm id ({ f with bytes := (x.bytes ++ tail).take x.maxLen }.stampCells s.car.slot)) id
    (b2Used v p ≤ 128 * b2Depth v p → rxAdd s p x tail = ({ x with bytes := x.bytes ++ tail }, v)) ∧
    (128 * b2Depth v p < b2Used v p → rxAdd s p x tail = ({ x with bytes := x.bytes ++ tail, noCredit := true, fid := none },
      verdictFx (occ (macCount v p 24) (portBlock p) 0x16 (portSub p)) id false))) ∧
  (∀ (s : State) (p : Nat) (tail : Bytes) (x : RxSt), (s.mac p).rx = some x →
    exec (.fcsVerdict p false tail 2) s = exec (.fcsVerdict p false tail 1) (s.setFlags .LN_STATUS (portLane p) 0 2) ∧
    exec (.fcsVerdict p false tail 3) s =
      exec (.fcsVerdict p false tail 1) ((s.bump .LN_FEC_UNCORR (portLane p)).setFlags .LN_STATUS (portLane p) 0 64)) ∧
  (∀ (x : RxSt) (pre e : Bool),
    ((x.asmBad = true ∨ (pre = true ∧ fcsGood x.bytes = false)) → rxError x pre e = some 51) ∧
    (x.asmBad = false → (pre = true → fcsGood x.bytes = true) → e = true → rxError x pre e = some 19) ∧
    (x.asmBad = false → (pre = true → fcsGood x.bytes = true) → e = false → x.maxLen < x.bytes.length →
      rxError x pre e = some (if fcsGood x.bytes then 22 else 23)) ∧
    (rxError x pre e = none ↔ x.asmBad = false ∧ e = false ∧ fcsGood x.bytes = true ∧ 64 ≤ x.bytes.length ∧ x.bytes.length ≤ x.maxLen)) ∧
  ∀ (s : State) (p half smd frag : Nat) (data : Bytes) (fin ok : Bool), rxReady s p = true →
    ((1 < smd ∨ tst (s.rw .MAC_MM_CFG p) 31 = false) → exec (.fragmentRx p half smd frag data fin ok) s = .next (levelRefresh (macCount s p 52))) ∧
    (smd = 1 → tst (s.rw .MAC_MM_CFG p) 31 = true → (s.mac p).asm = none → exec (.fragmentRx p half smd frag data fin ok) s =
      .next (levelRefresh (countRxBad s p data.length 51 [(49, 1)]))) ∧
    (smd = 0 → tst (s.rw .MAC_MM_CFG p) 31 = true → (s.mac p).asm = none → b2Used s p < 128 * b2Depth s p →
      let r := s.newFrm { src := p, feed := feedOf p, ref := portRef s p, rate := portRate s p, t := rxStamp s p half }
      exec (.fragmentRx p half smd frag data fin ok) s = .next (levelRefresh
        (asmAdd r.1 p { fid := some r.2, maxLen := macMaxLen s p, frags := 1 } data fin ok)))

/-- Lookup of the next frame of a port, admission of its copies, and the Drip's burst. When 96 bytes or the end of a frame are
there, its pipeline awake and open, the lookup of the oldest frame of the port that has none begins; it is carried out with the
frame's 100th byte or end (log entry 108), an admission that comes before then right after it; a closed pipeline discards it
and a sleeping one holds it, as does a sleeping table bank or stream unit that the frame needs; where the host has left what it
waits for asleep, what becomes of it is free (log entry 81). Admission decides once: a frame with one destination is queued for it, with cut-through and
eligibility fixed, where the port takes frames and its queue is below MIN, the port below its reserve or the shared pool allows
it; else the copy is refused and counted, and the frame dropped; the closed Carafe discards it. A write of DRIP_BURST_c reduces a fuller
bucket to it. (R30, R104, R193, R194, R195, R196, R198, R242, R243, R246) -/
def Obligations.LookupAndAdmission : Prop :=
  (∀ (s : State) (p : Nat) (bytes : Bytes),
    let u := if p < 130 then rxBytes s p bytes else s
    let k := pipeOf p
    (nextLookup u p = none → exec (.lookupStart p bytes) s = .next (levelRefresh (pipeGo u k))) ∧
    ∀ (id : Nat) (f : CFrame), nextLookup u p = some (id, f) →
      (closed u (pipeBlock k) = true → exec (.lookupStart p bytes) s =
        .next (levelRefresh (isoDiscard { u with car := { u.car with frames := mdel u.car.frames id } } (pipeBlock k)))) ∧
      (closed u (pipeBlock k) = false → f.ended = false → f.bytes.length < 96 →
        exec (.lookupStart p bytes) s = .next (levelRefresh u)) ∧
      (closed u (pipeBlock k) = false → (f.ended = true ∨ 96 ≤ f.bytes.length) →
        (neverLooked u f = true → exec (.lookupStart p bytes) s = .next (levelRefresh (lookupFrame u id f))) ∧
        (neverLooked u f = false → domOn u (pipeDom k) = true →
          exec (.lookupStart p bytes) s = .next (levelRefresh (lookupResume (u.setFrm id { f with started := true }) id))) ∧
        (neverLooked u f = false → domOn u (pipeDom k) = false → lookupLeft u f = false →
          exec (.lookupStart p bytes) s = .next (levelRefresh u)))) ∧
  (∀ (s : State) (id : Nat) (f : CFrame), s.frm id = some f → f.started = true → f.enter = 0 → f.looked = false →
    let k := pipeOf f.src
    let n := s.car.enters + 1
    let t := { s with car := { s.car with enters := n } }.setFrm id { f with enter := n }
    (f.ended = false → f.bytes.length < 100 → lookupResume s id = s) ∧
    ((f.ended = true ∨ 100 ≤ f.bytes.length) → pipeEntered t k = [(id, { f with enter := n })] → f.keeps = [] → f.admitDue = false →
      (domOn t (pipeDom k) = true → frameHold t { f with enter := n } = none →
        lookupResume s id = lookupFrame t id { f with enter := n }) ∧
      ((domOn t (pipeDom k) = false ∨ frameHold t { f with enter := n } ≠ none) → lookupLeft t { f with enter := n } = false →
        lookupResume s id = t))) ∧
  (∀ (s : State) (id : Nat) (f : CFrame) (r : Resolved) (u : State), neverLooked s f = false →
    resolve s (pipeOf f.src) f.src f.ref (parse (altTpid s (pipeOf f.src)) f.bytes f.ended) = (r, u) → r.learn = none →
    f.verdict = none → (f.src < 130 ∨ 133 ≤ f.src) →
    let k := pipeOf f.src
    let g : CFrame := { f with looked := true, learn := none, alt := altTpid u k, s4cls := r.carry.cls, carry := r.carry }
    (r.carry.verdict = 1 →
      lookupFrame s id f = tidy (lookedGone ((occ (u.bump .CLS_DROPS k) (pipeBlock k) 0x12 (pipeSub f.src)).setFrm id g) id) id) ∧
    (r.carry.verdict = 0 → ∀ c cs v, passPlan (occ u (pipeBlock k) 0x11 (pipeSub f.src)) k f.src r.carry = (c :: cs, v) →
      lookupFrame s id f = tidy (streamStage v id g (parse (altTpid s k) f.bytes f.ended) r.s1 (c :: cs)) id)) ∧
  (∀ (s : State) (c : CCopy), admitOpen s c = false ↔ poolOpen s = false ∧
    (s.rf .CAR_Q_CFG (queueNo c.port c.queue) 0 16 4 ≤ 9 ∨ 15 ≤ s.rf .CAR_Q_CFG (queueNo c.port c.queue) 0 16 4)) ∧
  (∀ (s : State) (id : Nat) (f : CFrame) (p : Parsed) (s1 : Nat) (cs : List CCopy), f.carry.handleV = false →
    pairOf s f.ref = none → (∀ c ∈ cs, outPair s f.ref c = none) → frameErr s f (p.get 0x02) s1 none cs = false →
    let g : CFrame := { f with oow := false, exceeded := false, meter := none, audit := none }
    let d := redAtLookup s id g p none (cs.map (fun c => c.reclass f.carry.cls))
    streamStage s id f p s1 cs = d.2.2.setFrm id { d.1 with plan := d.2.1 }) ∧
  (∀ (s : State) (p : Nat),
    let next := s.car.frames.find? (fun f => f.2.src == p && (f.2.looked || (f.2.started && f.2.enter == 0 && !f.2.admitDue)) &&
      !f.2.decided && !f.2.gone)
    (next = none → exec (.admission p) s = .next (levelRefresh s)) ∧
    ∀ (id : Nat) (f : CFrame), next = some (id, f) →
      (f.looked = true → exec (.admission p) s = .next (levelRefresh (asOfLookup s id (fun t => admitFrame t id)))) ∧
      (f.looked = false → exec (.admission p) s = .next (levelRefresh (s.setFrm id { f with admitDue := true })))) ∧
  (∀ (s : State) (id : Nat) (f : CFrame) (act : State → State), s.frm id = some f → f.keeps = [] → asOfLookup s id act = act s) ∧
  (∀ (s : State) (id : Nat) (f : CFrame) (c : CCopy), s.frm id = some f → f.decided = false →
    f.bad = false → f.verdict ≠ some false → f.plan = [c] → (∀ x ∈ s.car.copies, x.frame ≠ id) → admitOpen s c = false →
    let u := s.setFrm id { f with decided := true, plan := [], born := s.mono }
    (portTakes s c.port = true → s.car.rebuild = false → closed s 17 = false → admits s (carFree s) c = true →
      let v := occ u 17 0x13 (feedOf c.port)
      let d : CCopy := { c with
        id := s.car.next, frame := id, cut := isCut v f c
        elig := !c.held && (isCut v f c || (f.verdict == some true && decide (f.src < 133))) }
      admitFrame s id = occ (admitWake { v with car := { v.car with
        copies := s.car.copies ++ [d], next := s.car.next + 1 } } f d) 17 0x12 f.feed) ∧
    (closed s 17 = true →
      admitFrame s id = tidy ((isoDiscard s 17).setFrm id { f with decided := true, plan := [], gone := true }) id) ∧
    (portTakes s c.port = true → closed s 17 = false → (s.car.rebuild = true ∨ admits s (carFree s) c = false) →
      let v := (occ (u.bump .CAR_Q_DROP (queueNo c.port c.queue)) 17 0x14 (feedOf c.port)).bump .CAR_DROPS
      admitFrame s id = tidy (v.modFrm id (fun f => { f with gone := true })) id) ∧
    (portTakes s c.port = false → closed s 17 = false →
      let v := (macCount u c.port 42).bump .CAR_DROPS
      admitFrame s id = tidy (v.modFrm id (fun f => { f with gone := true })) id)) ∧
  (∀ (s : State) (free : Nat) (c : CCopy),
    let u := usedQ s c.port c.queue
    let m := minQ s c.port c.queue
    (u < m → admits s free c = true) ∧
    (s.rf .CAR_Q_CFG (queueNo c.port c.queue) 0 16 4 = 15 → m ≤ u → s.rf .CAR_P_CFG c.port 0 0 16 ≤ excessP s c.port → admits s free c = false) ∧
    (∀ a ≤ 9, s.rf .CAR_Q_CFG (queueNo c.port c.queue) 0 16 4 = a → m ≤ u → s.rf .CAR_P_CFG c.port 0 0 16 ≤ excessP s c.port →
      (admits s free c = true ↔ (u - m) * 64 < 2 ^ a * free))) ∧
  (∀ (s : State) (who : Who) (c : Nat) (w : Word), Reached s who ⟨.DRIP_BURST, c, 0⟩ → MayWrite s who ⟨.DRIP_BURST, c, 0⟩ →
    exec (.dripBurstWrite who c w) s =
      .next (wrote s ⟨.DRIP_BURST, c, 0⟩ (fun u => dripBurst u c (w &&& writeMask u ⟨.DRIP_BURST, c, 0⟩)))) ∧
  ∀ (s : State) (c : Nat) (w : Word), (dripBurst s c w).rw .DRIP_BURST c = w ∧
    (mget {} (dripBurst s c w).drip c).tok = min (dripBucket s c).tok (fld w 0 13) ∧
    ∀ d ≠ c, mget {} (dripBurst s c w).drip d = mget {} s.drip d

/-- Carafe slots, free cells, the scrubber and aged copies. A slot makes stored copies eligible, reads with each drain, writes
with each feed, forgets what has left and takes the arriving bytes, and counts the slot; while block 17 is closed only bytes
arrive, and with no frame and no copy it changes nothing but the slot number. A free cell of a bank lies in it and nothing uses
it; writing a frame's new cell changes no other cell. The scrubber advances through the cells of every bank, counting and flagging
what it meets; with scrubbing off it does nothing. A copy not begun and older than MAX_RES is discarded, counted and flagged; no
other is. (R104, R229, R230, R231, R232, R234, R237, R239, R246, R253) -/
def Obligations.CarafeSlots : Prop :=
  (∀ (s : State) (rx : List (Nat × Bytes)) (ecc : List (Nat × Bool)),
    (closed s 17 = true → exec (.carafeSlot rx ecc) s = .next (levelRefresh (rx.foldl (fun s r => rxBytes s r.1 r.2) s))) ∧
    (closed s 17 = false →
      let a := (List.range 12).foldl (fun t d => drainRead t s.car.slot d (mfind ecc d)) s
      let b := headsDone ((List.range 12).foldl (fun t d => feedWrite t s.car.slot d) a)
      let c := rx.foldl (fun s r => rxBytes s r.1 r.2) ((b.car.frames.map (·.1)).foldl tidy b)
      exec (.carafeSlot rx ecc) s = .next (levelRefresh (pipesGo (makeEligible { c with car := { c.car with slot := s.car.slot + 1 } })))) ∧
    (closed s 17 = false → s.car.frames = [] → s.car.copies = [] → rx = [] →
      exec (.carafeSlot rx ecc) s = .next (levelRefresh { s with car := { s.car with slot := s.car.slot + 1 } }))) ∧
  (∀ (s : State) (b ptr : Nat) (l : List Nat), takeCell s b l = some ptr → ptr / 32768 = b ∧ ptr ∉ bankUsed s b ∧ ptr ∉ l) ∧
  (∀ (s : State) (d b id i ptr q : Nat) (f : CFrame), s.frm id = some f → mfind f.cells i = none → takeCell s b = some ptr → q ≠ ptr →
    mget [] (writeOne s d b id i).car.mem q = mget [] s.car.mem q) ∧
  (∀ (s : State) (errs : List (Nat × Bool)), (tst (s.rw .CAR_CFG) 31 = false ∨ closed s 17 = true) →
    exec (.scrubRead errs) s = .next (levelRefresh s)) ∧
  (∀ s : State, tst (s.rw .CAR_CFG) 31 = true → closed s 17 = false → s.car.bad = [] →
    exec (.scrubRead []) s = .next (levelRefresh { s with car := { s.car with scrub := (s.car.scrub + 1) % 32768 } }) ∧
    ∀ (b : Nat) (hard : Bool), b < 16 → domOn s (186 + b) = true →
      let i := b * 32768 + s.car.scrub
      let u := if hard then eccUncorr { s with car := { s.car with bad := [(i, true)] } } i else eccCorr s
      exec (.scrubRead [(b, hard)]) s = .next (levelRefresh { u with car := { u.car with scrub := (s.car.scrub + 1) % 32768 } })) ∧
  (∀ (s : State) (i : Nat), (mfind s.car.bad i = some true → cellRead s i = eccUncorr s i) ∧
    (mfind s.car.bad i = some false → cellRead s i = eccCorr s) ∧ (mfind s.car.bad i = none → cellRead s i = s)) ∧
  ∀ (s : State) (p q pos : Nat) (c : CCopy) (f : CFrame), (queueCopies s p q)[pos]? = some c → s.frm c.frame = some f →
    ((∀ t d, f.launch = some (t, d) → copyAge s f = s.now - t) ∧ (f.launch = none → copyAge s f = s.mono - f.born)) ∧
    resShort s p q = false →
    (c.begun = false → 1000 * s.within 1000 8000000 (s.rn .CAR_MAX_RES) < copyAge s f → exec (.copyAged p q pos) s =
      .next (levelRefresh (dropCopy ((occ (s.bump .CAR_AGED) 17 0x16 (feedOf p)).setFlags .CAR_STATUS 0 0 8) c))) ∧
    ((c.begun = true ∨ copyAge s f ≤ 1000 * s.within 1000 8000000 (s.rn .CAR_MAX_RES)) →
      exec (.copyAged p q pos) s = .next (levelRefresh s))

/-- The scheduler selects: the highest strict queue with a candidate, else the weighted turn. A scheduler whose port cannot take a
copy and whose way out the host has not left asleep (log entry 81), or that has no copy queued, issues nothing. With strict queues it issues the candidate of the highest one that has one,
passing those above that have none. With no strict queue the queue whose turn it is, counting frames, gains its weight and issues
its candidate when its DEF then reaches one frame, paying for it; a queue left with nothing waiting has DEF 0. An issued copy is
marked in issue order and nothing else of the Carafe changes. (R257, R258, R260, R261, R262, R269) -/
def Obligations.SchedulerSelection : Prop :=
  (∀ (s : State) (p : Nat), portAccepts s p = false → pathLeft s p = false → exec (.schedulerSelect p) s = .next (levelRefresh s)) ∧
  (∀ (s : State) (p : Nat), (∀ c ∈ s.car.copies, c.port ≠ p) → ∃ t, exec (.schedulerSelect p) s = .next t ∧ t.car = s.car ∧ t.mac = s.mac) ∧
  (∀ (s : State) (p q : Nat) (c : CCopy) (close : Option Int) (v : State), portAccepts s p = true → pathLeft s p = false →
    let u := schSync s p
    let n := queueCount p
    n - min n (portStrict u p) ≤ q → q < n → (∀ k, q < k → k < n → waiting u p k = []) → candidateOf u p q = (some (c, close), v) →
    exec (.schedulerSelect p) s = .next (levelRefresh (issue v p q c close false))) ∧
  (∀ (s : State) (p q : Nat) (c : CCopy) (close : Option Int) (v : State), portAccepts s p = true → pathLeft s p = false →
    let u := schSync s p
    portStrict u p = 0 → q < queueCount p → (u.sch p).turn = q → (v.sch p).served = false → tst (v.rw .SCH_CFG p) 31 = false →
    candidateOf u p q = (some (c, close), v) →
    let d := mget 0 (v.sch p).defs q + ((v.within 1 255 (v.rf .SCH_Q_CFG p q 0 8) : Nat) : Int)
    1 ≤ d →
    let w := setDef v p q d
    let x := w.setSch p { w.sch p with turn := q, served := true }
    let y := issue (setDef x p q (d - 1)) p q c close false
    exec (.schedulerSelect p) s = .next (levelRefresh (if (waiting y p q).isEmpty then setDef y p q 0 else y))) ∧
  ∀ (s : State) (p q : Nat) (c : CCopy) (close : Option Int) (owes : Bool),
    (issue s p q c close owes).car = { s.car with
      seq := s.car.seq + 1
      copies := s.car.copies.map (fun x => if x.id = c.id then { x with
        issued := s.car.seq, express := !preemptable s p q || c.forced, close := close.map Int.toNat, owes := owes
        ball := s.monoPs + ((ballTime s p (!preemptable s p q || c.forced)).getD 0 - nowPs s) } else x) }

/-- A copy's transmission: its start, its preemption and its end, good or with an inverted FCS. A port that can transmit begins
the copy it picks: marked begun with its transmit timestamp, held by the MAC's express or preemptable half, and its corrections
and notes done; a suspended copy resumes, counted in 48; a port that cannot transmit starts nothing. A preemptable frame in
progress ends its fragment on hold, a waiting express frame or a closed gate when both parts are long enough. A good copy whose
end has been read leaves whole with its FCS, charged to its queue; a copy found bad leaves with the inverted FCS of the bytes
sent, counted in 41; on a stitch link it ends with the bad-end indication. (R156, R160, R162, R165, R250, R257, R263, R270, R427,
R431) -/
def Obligations.Transmission : Prop :=
  (∀ (s : State) (p half : Nat), txReady s p = false → exec (.transmitStart p half) s = .next (levelRefresh s)) ∧
  (∀ (s : State) (p half : Nat) (c : CCopy), txReady s p = true → (p < 130 ∨ 133 ≤ p) → startPick s p = some c →
    (c.susp = true → exec (.transmitStart p half) s = .next (levelRefresh
      (macCount (s.modCpy (fun x => x.id == c.id) (fun x => { x with susp := false, beg := s.monoPs, zeros := x.endBad })) p 48))) ∧
    (∀ f, c.susp = false → s.frm c.frame = some f →
      let ts := txStamp s p half
      let u := (s.modCpy (fun x => x.id == c.id) (fun x => { x with
        begun := true, beg := s.monoPs, tsTx := ts, maxLen := some (macMaxLen s p) })).setFrm c.frame { f with anyBegun := true }
      let v := if 130 ≤ p then u
        else u.setMac p (if c.express then { s.mac p with tx := some c.id } else { s.mac p with txP := some c.id })
      exec (.transmitStart p half) s = .next (levelRefresh (noteTx (tcCorrect v f c ts) f c ts)) ∧
      (133 ≤ f.src → c.note = .none → noteTx (tcCorrect v f c ts) f c ts = v))) ∧
  (∀ (s : State) (p sent id : Nat) (c : CCopy) (f : CFrame), (s.mac p).txP = some id → s.cpy id = some c → s.frm c.frame = some f →
    c.susp = false → c.endBad = false →
    let total := (sentBytes s f c).length + (if f.ended then 4 else 0)
    (((s.sch p).hold = true ∨ (gatesNow s p).testBit c.queue = false ∨ ∃ x ∈ s.car.copies, x.port = p ∧ handed x = true ∧ x.express = true) →
      64 * (1 + addFrag s p) ≤ sent + 4 → c.sent + sent + 64 ≤ total →
      exec (.preempt p sent) s = .next (levelRefresh ((s.modCpy (fun x => x.id == c.id) (fun x =>
        { x with susp := true, sent := x.sent + sent, preempts := x.preempts + 1 })).emit
        (.fragment p (c.preempts != 0) ((c.preempts + 3) % 4) (((sentBytes s f c).drop c.sent).take sent) false)))) ∧
    ((sent + 4 < 64 * (1 + addFrag s p) ∨ total < c.sent + sent + 64) → exec (.preempt p sent) s = .next (levelRefresh s))) ∧
  (∀ (s : State) (p sent id : Nat) (c : CCopy) (f : CFrame), p < 130 → (s.mac p).tx = some id → s.cpy id = some c → s.frm c.frame = some f →
    (c.endBad = false → f.ended = true → f.bytes.length ≤ c.read → (c.cut = false ∨ overLong s f c = false) →
      let w := if p = 128 ∨ p = 129 then arrivalFrame s f c else sentBytes s f c ++ fcsBytes (sentBytes s f c)
      let u := if c.preempts = 0 then s
        else macCount (s.emit (.fragment p true ((c.preempts + 3) % 4) (w.drop c.sent) true)) p 54
      let v := schCharge ((countTxGood u p w).emit (.frame p w)) p c.queue w.length
      exec (.transmitEnd p sent) s = .next (levelRefresh (ctlFlush (copyLeaves (overrun v p c) p c) p))) ∧
    (c.endBad = true →
      let b := (macBytes s f c).take c.sent ++ pad60 (if c.zeros then [] else ((macBytes s f c).drop c.sent).take sent)
      let w := b ++ (fcsBytes b).map (fun x => ~~~ x)
      let u := countTxAll (macCount s p 41) p w.length
      let v := if c.preempts = 0 then u
        else macCount (u.emit (.fragment p true ((c.preempts + 3) % 4) (w.drop c.sent) true)) p 54
      let x := occ v (portBlock p) 0x15 (portSub p)
      exec (.transmitEnd p sent) s = .next (levelRefresh
        (ctlFlush (copyLeaves (overrun (schCharge (x.emit (.badFrame p w)) p c.queue w.length) p c) p c) p))) ∧
    (c.endBad = false → (f.ended = false ∨ c.read < f.bytes.length) → exec (.transmitEnd p sent) s = .next (levelRefresh s)) ∧
    ∀ t : State, (ctlBusy t p = false → ∀ m, (t.mac p).ctlq = [m] →
        (t.mac p).ownPulse = false → ctlFlush t p = testFlush (ctlSend (t.setMac p { t.mac p with ctlq := [], ownPulse := false }) p m)) ∧
      (((t.mac p).tx ≠ none ∨ (t.mac p).ctlq = []) → ctlFlush t p = t)) ∧
  (∀ (s : State) (l half ch : Nat) (c : CCopy) (f : CFrame), l < 3 → txReady s (130 + l) = true →
    s.car.copies.find? (fun c => c.port == 130 + l && mayBegin s c) = some c → freeChan s l = some ch → s.frm c.frame = some f →
    (dataCredit s l = 0 → exec (.transmitStart (130 + l) half) s = .next (levelRefresh s)) ∧
    (∀ f' c', 0 < dataCredit s l → (129 ≤ c.read ∨ (f.ended = true ∧ f.bytes.length ≤ c.read)) →
      (beginCopy s (130 + l) half f c).frm c.frame = some f' → (beginCopy s (130 + l) half f c).cpy c.id = some c' →
      exec (.transmitStart (130 + l) half) s = .next (levelRefresh (segFirst (beginCopy s (130 + l) half f c) l ch f' c')))) ∧
  (∀ (s : State) (c : CCopy), mayBegin s c = true ↔ handed c = true ∧ c.ball < s.monoPs + 4000 ∧ pathServes s c = true) ∧
  ∀ (s : State) (l sent ch : Nat) (c : CCopy) (f : CFrame), l < 3 → endPick s (130 + l) = some c → s.frm c.frame = some f →
    (s.link l).tx.find? (fun t => t.2 == c.id) = some (ch, c.id) → c.endBad = true →
    let n := min (stitchBytes s f c).length 128
    let u := sendSeg s l (segWord ch false true true 0) []
    let v := u.setLink l { u.link l with tx := mdel (u.link l).tx ch }
    exec (.transmitEnd (130 + l) sent) s = .next (levelRefresh (ctlFlush
      (copyLeaves (overrun (schCharge (countTxAll (macCount v (130 + l) 41) (130 + l) n) (130 + l) c.queue n) (130 + l) c) (130 + l) c) (130 + l)))

/-- The table commands READ, WRITE, LOAD, FETCH and FLUSH. Of a served issuer with block 20 open, the entry's bank awake and no command
waiting; a READ that must wait joins the commands that wait (R118, R212). READ of an entry of the region
brings it into the issuer's entry buffer with CODE 0, or CODE 5 when its parity is bad, which is counted. WRITE stores the
buffer's entry with its parity where the guard does not object, and is refused with its STATUS where it does. An index beyond a
region that the guard does not refuse is CODE 3. LOAD puts its words into the buffer from its offset, FETCH returns words from its offset. FLUSH starts a sweep
with the buffer's first word as filter, or is CODE 6 while one runs. A closed block 20 answers DOMAIN_OFF. (R33, R210, R211, R213,
R222, R227) -/
def Obligations.TableReadsAndWrites : Prop :=
  ∀ (s : State) (who : Who) (args : List Word), served s who = true → args.length ≤ 15 →
  (closed s 20 = false →
    (∀ r i : Nat, r ≤ 12 → i < 2 ^ 19 → 0 < regionSize s r →
      (let u := tableBegun s who 1 r i args
       let v := sparAt (if r = 7 then meterSync u i else u) r i
       let e := entryAt v r i
       tableWaits s who (args ++ [tblWord 1 r i]) = false →
       (i < regionSize s r → parOk r e = true → exec (.tableRead who r i args) s = .next (tableAnswered (setBuf v who.ctx 0 e) who 0 i 0 16)) ∧
       (i < regionSize s r → parOk r e = false → exec (.tableRead who r i args) s =
         .next (tableAnswered (countParity (setBuf v who.ctx 0 e) 8 r [i]) who 5 i 0 16)) ∧
       (regionSize s r ≤ i → exec (.tableRead who r i args) s = .next (tableAnswered u who 3 0 0 16))) ∧
      (let u := tableBegun s who 2 r i args
       let new := bufWords u who.ctx (entryWords r)
       tableWaits s who (args ++ [tblWord 2 r i]) = false →
       (i < regionSize s r → (guardEntry u r i new = false ∨ (who.acting = true ∧ guardSealed s = false)) →
         exec (.tableWrite who r i args) s = .next (tableAnswered (hostPut u r i new) who 0 i 0 16)) ∧
       (i < regionSize s r → guardEntry u r i new = true → (who.acting = false ∨ guardSealed s = true) → exec (.tableWrite who r i args) s =
         .next (levelRefresh (testFlush (setRes (guardRefused u who) (if guardSealed s then stGuardSealed else stGuardDenied) 16 [])))) ∧
       (regionSize s r ≤ i → (s.roast.guardRegions.testBit r = false ∨ (who.acting = true ∧ guardSealed s = false)) →
         exec (.tableWrite who r i args) s = .next (tableAnswered u who 3 0 0 16)))) ∧
    (∀ r i : Nat, tableWaits s who (args ++ [tblWord 1 r i]) = true → exec (.tableRead who r i args) s = .next (levelRefresh
      { s with ctl := { s.ctl with tblWaits := s.ctl.tblWaits ++ [⟨who.ctx, who.acting, args ++ [tblWord 1 r i], 16, none⟩] } })) ∧
    (s.ctl.tblWaits = [] → ∀ o : Nat, o < 2 ^ 19 →
      (o % 64 + args.length ≤ 64 → exec (.tableLoad who o args) s = .next (tableAnswered (tableBegun s who 8 0 o args) who 0 0 0 16)) ∧
      (64 < o % 64 + args.length → exec (.tableLoad who o args) s = .next (tableAnswered (tableBegun s who 8 0 o args) who 3 0 0 16)) ∧
      ∀ n ≤ 16, exec (.tableFetch who o n) s = .next (tableAnswered (tableBegun s who 9 0 o []) who 0 0 (o % 64) n)) ∧
    (let u := tableBegun s who 7 0 0 args
     s.ctl.tblWaits = [] →
     (s.tbl.flush = false → exec (.tableFlush who args) s = .next (tableAnswered
       (flushStart u [bufW u who.ctx 0] who.ctx false (who.acting && !guardSealed s)) who 0 0 0 16)) ∧
     (s.tbl.flush = true → exec (.tableFlush who args) s = .next (tableAnswered u who 6 0 0 16)))) ∧
  (closed s 20 = true → ∀ r i : Nat, exec (.tableRead who r i args) s =
    .next (levelRefresh (testFlush (setRes (isoError s 20) stDomainOff 16 []))))

/-- The table commands INSERT, LOOKUP, DELETE and NEXT. In an exact region with no parity error met, no objection of the guard, its banks awake and no
command waiting; NEXT in a region that shares no granule. INSERT overwrites the entry that the buffer's key finds, else takes the lowest free place of its bucket (for the forwarding
database then of the overflow store), else answers CODE 2. LOOKUP brings the entry found into the buffer, word 3 of a forwarding entry mended where its SPAR is bad, or answers CODE 1.
DELETE zeroes the entry found, or answers CODE 1. NEXT reads the first entry from its index on that is valid, where the region's
entries carry V, and the entry at its index where they do not; with none it is CODE 1. (R184, R186, R202, R203, R210, R213) -/
def Obligations.TableSearches : Prop :=
  (∀ (s : State) (who : Who) (r : Nat) (args : List Word), served s who = true → closed s 20 = false → args.length ≤ 15 →
    r ∈ [0, 4, 5, 8] → 0 < regionSize s r →
    (let u := tableBegun s who 3 r 0 args
     let k := bufKey u who.ctx r
     tableWaits s who (args ++ [tblWord 3 r 0]) = false →
     let new := cutKey u r (bufWords u who.ctx (entryWords r))
     (∀ i, i < 2 ^ 19 → findKey u r k = (some i, []) → guardEntry u r i new = false →
       exec (.tableInsert who r args) s = .next (tableAnswered (hostPut (searchMet u 8 r k) r i new) who 0 i 0 16)) ∧
     (∀ i, i < 2 ^ 19 → findKey u r k = (none, []) → freePlace u r k = some i → guardEntry u r i new = false →
       exec (.tableInsert who r args) s = .next (tableAnswered (hostPut (searchMet u 8 r k) r i new) who 0 i 0 16)) ∧
     (findKey u r k = (none, []) → freePlace u r k = none → isGuard r new = false → s.roast.guardRegions.testBit r = false →
       exec (.tableInsert who r args) s = .next (tableAnswered (searchMet u 8 r k) who 2 0 0 16))) ∧
    (let u := tableBegun s who 4 r 0 args
     let k := bufKey u who.ctx r
     tableWaits s who (args ++ [tblWord 4 r 0]) = false →
     (∀ i, i < 2 ^ 19 → findKey u r k = (some i, []) → exec (.tableLookup who r args) s =
       .next (tableAnswered (setBuf (searchMet u 8 r k) who.ctx 0 (entryAt (searchMet u 8 r k) r i)) who 0 i 0 16)) ∧
     (findKey u r k = (none, []) → exec (.tableLookup who r args) s = .next (tableAnswered (searchMet u 8 r k) who 1 0 0 16))) ∧
    (let u := tableBegun s who 5 r 0 args
     let k := bufKey u who.ctx r
     tableWaits s who (args ++ [tblWord 5 r 0]) = false →
     (∀ i, i < 2 ^ 19 → findKey u r k = (some i, []) → guardEntry u r i [] = false → exec (.tableDelete who r args) s =
       .next (tableAnswered ((searchMet u 8 r k).setTws (entryAddr u r i) (List.replicate (entryWords r) 0)) who 0 i 0 16)) ∧
     (findKey u r k = (none, []) → s.roast.guardRegions.testBit r = false →
       exec (.tableDelete who r args) s = .next (tableAnswered (searchMet u 8 r k) who 1 0 0 16)))) ∧
  (∀ (s : State) (who : Who) (r idx : Nat) (args : List Word), served s who = true → closed s 20 = false → args.length ≤ 15 →
    r ≤ 12 → idx < regionSize s r → regionSize s r ≤ 2 ^ 19 → mwf 0 s.tbl.mem = true → granuleShared s r = false →
    tableWaits s who (args ++ [tblWord 6 r idx]) = false →
    let u := tableBegun s who 6 r idx args
    (∀ i, r ≠ 7 → idx ≤ i → i < regionSize s r → (vBit r = none → i = idx) →
      (∀ j, idx ≤ j → j < i → isValid r (entryAt s r j) = false ∧ parOk r (entryAt s r j) = true) →
      isValid r (entryAt s r i) = true → parOk r (entryAt s r i) = true → parOk r (entryAt (sparAt u r i) r i) = true →
      exec (.tableNext who r idx args) s =
        .next (tableAnswered (setBuf (sparAt u r i) who.ctx 0 (entryAt (sparAt u r i) r i)) who 0 i 0 16)) ∧
    (vBit r ≠ none → (∀ j, idx ≤ j → j < regionSize s r → isValid r (entryAt s r j) = false ∧ parOk r (entryAt s r j) = true) →
      exec (.tableNext who r idx args) s = .next (tableAnswered u who 1 0 0 16))) ∧
  ∀ (s : State) (key i : Nat), findKey s 0 key = (some i, []) →
    i ∈ places s 0 key ∧ isValid 0 (entryAt s 0 i) = true ∧ entryKey 0 (entryAt s 0 i) % 2 ^ 64 = key % 2 ^ 64

/-- Learning, aging and flush sweeps of the forwarding database. Each waits for the banks it meets (R118). The learning engine takes its oldest request; with learning on an
unknown station gets a dynamic entry at the lowest free place with AGE 0, is counted and its notice sent; with no place it is
counted and flagged; an entry of the same reference has its AGE cleared; a frozen one counts a hit; a static, guarded or group
entry refuses it. The aging sweep visits one index at a time, counts AGE up to 3 and then deletes the entry, sparing static and
guard entries. A flush sweep visits one bucket at a time, deletes what its filters match, and after the overflow store ends,
flagged, and starts the link-down flushes that wait. (R205, R206, R214, R215, R218, R221, R222, R223) -/
def Obligations.LearningAgingAndFlushing : Prop :=
  (∀ s : State, (closed s 20 = true ∨ s.tbl.queue = []) → exec .learnCommit s = .next (levelRefresh s)) ∧
  (∀ (s : State) (q : LearnReq) (l : List LearnReq), s.tbl.queue = q :: l →
    (∃ i ∈ [(bucketOf s 0 (fdbKey q.fid q.mac)).headD 0, 262144], fdbAwake s i = false) → exec .learnCommit s = .next (levelRefresh s)) ∧
  (∀ (s : State) (q : LearnReq) (l : List LearnReq), closed s 20 = false → s.tbl.queue = q :: l →
    (∀ i ∈ [(bucketOf s 0 (fdbKey q.fid q.mac)).headD 0, 262144], fdbAwake s i = true) →
    let u := { s with tbl := { s.tbl with queue := l } }
    let k := fdbKey q.fid q.mac
    (tst (s.rw .FDB_CFG) 31 = false → exec .learnCommit s = .next (levelRefresh u)) ∧
    (tst (s.rw .FDB_CFG) 31 = true → s.roast.guardRegions.testBit 0 = true →
      exec .learnCommit s = .next (levelRefresh (u.bump .FDB_LEARN_REFUSED))) ∧
    (tst (s.rw .FDB_CFG) 31 = true → s.roast.guardRegions.testBit 0 = false →
      (findKey u 0 k = (none, []) → q.refresh = true → exec .learnCommit s = .next (levelRefresh u)) ∧
      (∀ i, findKey u 0 k = (none, []) → q.refresh = false → freePlace u 0 k = some i →
        let v := occ ((fdbPut u i [wd (k / 2 ^ 32), wd k, bitw 31 true ||| bitw 14 true ||| put 0 10 q.ref, fdbW3 0 0 0]).bump .FDB_LEARNS) 20 0x11 0
        exec .learnCommit s = .next (levelRefresh (if localRef v q.ref then learnNotice v q.fid q.mac q.ref else v))) ∧
      (findKey u 0 k = (none, []) → q.refresh = false → freePlace u 0 k = none →
        exec .learnCommit s = .next (levelRefresh ((u.bump .FDB_LEARN_FULL).setFlags .FDB_STATUS 0 0 4))) ∧
      ∀ i, findKey u 0 k = (some i, []) → oddOnes [(entryAt u 0 i).getD 3 0] = false →
        let e := entryAt u 0 i
        ((isGuard 0 e = true ∨ fdbStatic e = true ∨ fdbKind e = false) →
          exec .learnCommit s = .next (levelRefresh (u.bump .FDB_LEARN_REFUSED))) ∧
        (isGuard 0 e = false → fdbStatic e = false → fdbKind e = true →
          (fdbDest e % 1024 = q.ref → (q.refresh = true ∨ fdbAge e ≠ 0) →
            exec .learnCommit s = .next (levelRefresh (fdbPut u i (e.take 3 ++ [fdbW3 0 (fdbMoves e) (fdbWin e)])))) ∧
          (fdbDest e % 1024 ≠ q.ref → fdbFlap e = true → exec .learnCommit s = .next (levelRefresh (u.bump .FDB_FROZEN_HITS))) ∧
          (fdbDest e % 1024 ≠ q.ref → fdbFlap e = false → exec .learnCommit s = .next (levelRefresh (stationMove u i e q)))))) ∧
  (∀ s : State, (tst (s.rw .FDB_CFG) 30 = false ∨ closed s 20 = true ∨ fdbAwake s s.tbl.agePos = false) →
    exec .agingSweep s = .next (levelRefresh s)) ∧
  (∀ s : State, tst (s.rw .FDB_CFG) 30 = true → closed s 20 = false → fdbAwake s s.tbl.agePos = true → 3 ≤ s.rf .FDB_CFG 0 0 0 16 →
    let i := s.tbl.agePos
    let e := entryAt s 0 i
    let u := { s with tbl := { s.tbl with agePos := (i + 1) % 264192 } }
    (parOk 0 e = false → exec .agingSweep s = .next (levelRefresh (fdbParity u i))) ∧
    (parOk 0 e = true → isValid 0 e = false → exec .agingSweep s = .next (levelRefresh u)) ∧
    (parOk 0 e = true → isValid 0 e = true → oddOnes [e.getD 3 0] = false →
      ((fdbStatic e = true ∨ isGuard 0 e = true ∨ s.roast.guardRegions.testBit 0 = true) → exec .agingSweep s = .next (levelRefresh u)) ∧
      (fdbStatic e = false → isGuard 0 e = false → s.roast.guardRegions.testBit 0 = false →
        (fdbAge e = 3 → exec .agingSweep s = .next (levelRefresh (occ ((u.setTws (entryAddr s 0 i) [0, 0, 0, 0]).bump .FDB_AGED) 20 0x13 0))) ∧
        (fdbAge e ≠ 3 → exec .agingSweep s =
          .next (levelRefresh (fdbPut u i (e.take 3 ++ [fdbW3 (fdbAge e + 1) (fdbMoves e) (fdbWin e)]))))))) ∧
  (∀ s : State, (s.tbl.flush = false ∨ closed s 20 = true ∨ fdbAwake s (min 262144 (4 * s.tbl.flushPos)) = false) →
    exec .flushSweep s = .next (levelRefresh s)) ∧
  (∀ s : State, s.tbl.flush = true → closed s 20 = false → fdbAwake s (min 262144 (4 * s.tbl.flushPos)) = true →
    (s.tbl.flushPos < 65536 →
      let b := 4 * s.tbl.flushPos
      let u := { s with tbl := { s.tbl with flushPos := s.tbl.flushPos + 1 } }
      exec .flushSweep s = .next (levelRefresh (flushAt (flushAt (flushAt (flushAt u b) (b + 1)) (b + 2)) (b + 3)))) ∧
    (65536 ≤ s.tbl.flushPos → exec .flushSweep s = .next (levelRefresh (flushEnd ((ovfUsed s).foldl flushAt s))))) ∧
  (∀ s : State,
    let u := { s with tbl := { s.tbl with flush := false, flushLink := false, flushCtx := 0, flushPos := 0, filters := [] } }
    let v := u.setFlags .FDB_STATUS 0 0 16
    (s.tbl.waiting = [] → flushEnd s = v) ∧
    (s.tbl.waiting ≠ [] → flushEnd s = flushStart { v with tbl := { v.tbl with waiting := [] } } (s.tbl.waiting.map linkFilter) 0 true false)) ∧
  (∀ (s : State) (i : Nat), let e := entryAt s.drawn 0 i
    (parOk 0 (entryAt s 0 i) = false → flushAt s i = fdbParity s i) ∧
    (parOk 0 (entryAt s 0 i) = true → isValid 0 (entryAt s 0 i) = false → flushAt s i = s) ∧
    (parOk 0 (entryAt s 0 i) = true → isValid 0 (entryAt s 0 i) = true → oddOnes [e.getD 3 0] = false →
      ((∃ w ∈ s.tbl.filters, flushMatch s.drawn w e = true) →
        ((isGuard 0 e = false ∧ s.roast.guardRegions.testBit 0 = false) ∨ s.tbl.flushGuard = true) →
        flushAt s i = s.drawn.setTws (entryAddr s 0 i) [0, 0, 0, 0]) ∧
      (((∀ w ∈ s.tbl.filters, flushMatch s.drawn w e = false) ∨
        ((isGuard 0 e = true ∨ s.roast.guardRegions.testBit 0 = true) ∧ s.tbl.flushGuard = false)) → flushAt s i = s.drawn))) ∧
  ∀ (s : State) (w : Word) (e : List Word), fld w 24 5 = 0 → fld w 10 2 = 0 → (flushMatch s w e = true ↔
    (tst w 31 = true → fld (e.getD 0 0) 16 12 = fld w 12 12) ∧
    (tst w 30 = true → fdbKind e = true ∧ fdbDest e % 1024 = fld w 0 10) ∧ (tst w 29 = false → fdbStatic e = false))

/-- The sweeps of the redundancy functions: reset, forget and latent errors. Each sweep visits one index and moves on, wrapping at
the end of its region; while block 19 is closed it does nothing; while the stream unit sleeps it wakes it, and while the entry's bank sleeps it waits
(R118, R473). An index beyond the region or an invalid entry is passed; an
entry with a parity error is counted. The reset sweeps clear ACT of an entry that has it, and set TAKE_ANY and count a reset where
neither is set; of stream records only those with FN recovery. The forget sweep ages node entries and zeroes one aged three times,
sparing static and guard entries. The latent-error sweep acts on entries under its switch. (R104, R292, R293, R298, R299) -/
def Obligations.RedundancySweeps : Prop :=
  (∀ s : State, closed s 19 = true → exec .nodeResetSweep s = .next (levelRefresh s) ∧ exec .recordResetSweep s = .next (levelRefresh s) ∧
    exec .nodeForgetSweep s = .next (levelRefresh s) ∧ exec .latentErrorSweep s = .next (levelRefresh s)) ∧
  (∀ s : State, closed s 19 = false → domOn s 233 = false →
    exec .nodeResetSweep s = .next (levelRefresh (trigger s 2 233)) ∧ exec .recordResetSweep s = .next (levelRefresh (trigger s 2 233)) ∧
    exec .nodeForgetSweep s = .next (levelRefresh (trigger s 2 233)) ∧
    exec .latentErrorSweep s = .next (levelRefresh (if tst (s.rw .RED_CFG) 29 then trigger s 2 233 else s))) ∧
  (∀ s : State, closed s 19 = false → domOn s 233 = true →
    let on := fun r i => domOn s (tblDom (entryAddr s r i))
    (let i := s.red.nodePos
     let n := regionSize s 12
     let e := entryAt s 12 i
     let u := { s with red := { s.red with nodePos := if n = 0 then 0 else (i + 1) % n } }
     (i < n → on 12 i = false → exec .nodeResetSweep s = .next (levelRefresh s)) ∧
     (nodeTimeBad s = false → (n ≤ i ∨ on 12 i = true) →
     ((n ≤ i ∨ (parOk 12 e = true ∧ isValid 12 e = false)) → exec .nodeResetSweep s = .next (levelRefresh u)) ∧
     (i < n → parOk 12 e = false → exec .nodeResetSweep s = .next (levelRefresh (redParity u))) ∧
     (i < n → parOk 12 e = true → isValid 12 e = true →
       (tst (e.getD 0 0) 23 = true → exec .nodeResetSweep s = .next (levelRefresh (putEntry u 12 i (setBit e (0, 23) false)))) ∧
       (tst (e.getD 0 0) 23 = false → tst (e.getD 0 0) 24 = true → exec .nodeResetSweep s = .next (levelRefresh u)) ∧
       (tst (e.getD 0 0) 23 = false → tst (e.getD 0 0) 24 = false →
         exec .nodeResetSweep s = .next (levelRefresh ((putEntry u 12 i (setBit e (0, 24) true)).bump .RED_RESETS)))))) ∧
    (let i := s.red.recPos
     let n := regionSize s 9
     let e := entryAt s 9 i
     let u := { s with red := { s.red with recPos := if n = 0 then 0 else (i + 1) % n } }
     (i < n → on 9 i = false → exec .recordResetSweep s = .next (levelRefresh s)) ∧
     (frerTimeBad s = false → i < n → on 9 i = true → parOk 9 e = true → isValid 9 e = true →
       (fld (e.getD 0 0) 27 2 ≠ 1 → exec .recordResetSweep s = .next (levelRefresh u)) ∧
       (fld (e.getD 0 0) 27 2 = 1 →
         (tst (e.getD 0 0) 25 = true → exec .recordResetSweep s = .next (levelRefresh (putEntry u 9 i (setBit e (0, 25) false)))) ∧
         (tst (e.getD 0 0) 25 = false → tst (e.getD 0 0) 26 = false →
           exec .recordResetSweep s = .next (levelRefresh ((putEntry u 9 i (setBit e (0, 26) true)).bump .RED_RESETS)))))) ∧
    (let i := s.red.forgetPos
     let n := regionSize s 12
     let e := entryAt s 12 i
     let w := e.getD 0 0
     let u := { s with red := { s.red with forgetPos := if n = 0 then 0 else (i + 1) % n } }
     (i < n → on 12 i = false → exec .nodeForgetSweep s = .next (levelRefresh s)) ∧
     (nodeTimeBad s = false → i < n → on 12 i = true → parOk 12 e = true → isValid 12 e = true →
       ((tst w 28 = true ∨ isGuard 12 e = true ∨ s.roast.guardRegions.testBit 12 = true) → exec .nodeForgetSweep s = .next (levelRefresh u)) ∧
       (tst w 28 = false → isGuard 12 e = false → s.roast.guardRegions.testBit 12 = false →
         (fld w 21 2 = 3 → exec .nodeForgetSweep s = .next (levelRefresh (u.setTws (entryAddr s 12 i) (List.replicate 8 0)))) ∧
         (fld w 21 2 ≠ 3 → exec .nodeForgetSweep s =
           .next (levelRefresh (putEntry u 12 i (setAt e 0 (setFld w 21 2 (fld w 21 2 + 1))))))))) ∧
    (let i := s.red.latPos
     let n := regionSize s 12
     let m := regionSize s 9
     let u := { s with red := { s.red with latPos := if n + m = 0 then 0 else (i + 1) % (n + m) } }
     (tst (s.rw .RED_CFG) 29 = false → exec .latentErrorSweep s = .next (levelRefresh s)) ∧
     (tst (s.rw .RED_CFG) 29 = true → leTimeBad s = false →
       (i < n → on 12 i = true → parOk 12 (entryAt s 12 i) = true → isValid 12 (entryAt s 12 i) = true → exec .latentErrorSweep s =
         .next (levelRefresh (if tst ((entryAt s 12 i).getD 0 0) 27 then u else latentVisit u 12 i))) ∧
       (n ≤ i → i - n < m → on 9 (i - n) = true → parOk 9 (entryAt s 9 (i - n)) = true → isValid 9 (entryAt s 9 (i - n)) = true → exec .latentErrorSweep s =
         .next (levelRefresh (if fld ((entryAt s 9 (i - n)).getD 1 0) 30 2 = 0 then u else latentVisit u 9 (i - n))))))) ∧
  ∀ (s : State) (r i : Nat),
    let u := if (entOf s r i).diff > (s.rf .RED_LE_CFG 0 0 16 16 : Int) then
      ((s.bump .RED_LATENT).wr .RED_LAST_LE 0 0 (bitw 31 (r == 9) ||| put 0 16 i)).setFlags .RED_STATUS 0 0 1 else s
    let e := entryAt u r i
    latentVisit s r i = if r = 12 then putEntry u 12 i (setAt e 7 (setFld (e.getD 7 0) 0 16 0))
      else putEntry u 9 i (setAt e 1 (setFld (e.getD 1 0) 0 16 0))

/-- Gate lists: entries, hold advance and the change of configuration. With a list running and its next operating entry due,
GATE_ENTRY_START applies that entry: place, gates and, with preemption active, hold; an entry not yet due, a stopped list or a
closed block 18 leaves all as it was. HOLD_ADVANCE asserts hold SCH_GUARD's advance before a Set-And-Hold-MAC entry of a port with
preemption active, and otherwise does nothing. CONFIG_CHANGE at CHANGE_TIME copies the administrative list into the operating
registers, starts it, counts and flags it, and applies the entry in effect; before that time it does nothing. (R68, R264, R265,
R266, R268, R271, R402) -/
def Obligations.GateLists : Prop :=
  (∀ (s : State) (p : Nat), ((s.sch p).running = false ∨ closed s 18 = true) → exec (.gateEntryStart p) s = .next (levelRefresh s)) ∧
  (∀ (s : State) (p : Nat) (x : GPos), (s.sch p).running = true → closed s 18 = false → gNext s p (gPos s p) = some x →
    ((x.admin = true ∨ ((s.now : Int) < x.start ∧ lastTick s x.start = false)) → exec (.gateEntryStart p) s = .next (levelRefresh s)) ∧
    (x.admin = false → (s.now : Int) < x.start → lastTick s x.start = true →
      exec (.gateEntryStart p) s = .next (levelRefresh (gatesClose s p x))) ∧
    (placeBad s p x = false → gatesClose s p x = setGates s p ((s.sch p).gates &&& (gEnt s (if x.admin then adminList s p else operList s p) x.j).gates)) ∧
    (x.admin = false → x.start ≤ (s.now : Int) →
      exec (.gateEntryStart p) s = .next (levelRefresh (gateApply s p x)) ∧
      (placeBad s p x = false → mmActive s p = false → (gEnt s (operList s p) x.j).ok = true →
        gateApply s p x = setGates (s.setSch p { s.sch p with entry := x.j, start := x.start, cycle := x.cyc, ival := x.len }) p
          (gEnt s (operList s p) x.j).gates))) ∧
  (∀ (s : State) (p : Nat), gNext s p (gPos s p) = none → exec (.holdAdvance p) s = .next (levelRefresh s)) ∧
  (∀ (s : State) (p : Nat) (x : GPos), gNext s p (gPos s p) = some x →
    let e := gEnt s (if x.admin then adminList s p else operList s p) x.j
    (e.op = 1 → mmActive s p = true → closed s 18 = false → x.start ≤ s.now + s.rf .SCH_GUARD p 0 16 16 →
      exec (.holdAdvance p) s = .next (levelRefresh (holdOn s p))) ∧
    ((e.op ≠ 1 ∨ mmActive s p = false ∨ closed s 18 = true ∨ (s.now : Int) + s.rf .SCH_GUARD p 0 16 16 < x.start) →
      exec (.holdAdvance p) s = .next (levelRefresh s))) ∧
  (∀ (s : State) (t : Int), lastTick s t = true ↔ t * 2 ^ 32 < (s.time.now.units : Int) + incr s) ∧
  (∀ (s : State) (p : Nat), ((s.sch p).pending = false ∨ closed s 18 = true ∨ ((s.now : Int) < changeTime s p ∧ lastTick s (changeTime s p) = false)) →
    exec (.configChange p) s = .next (levelRefresh s)) ∧
  (∀ (s : State) (p : Nat), (s.sch p).pending = true → closed s 18 = false → (s.now : Int) < changeTime s p →
    lastTick s (changeTime s p) = true → exec (.configChange p) s = .next (levelRefresh (gatesClose s p (changePos s p)))) ∧
  (∀ (s : State) (p : Nat), (s.sch p).pending = true → closed s 18 = false → changeTime s p ≤ (s.now : Int) →
    let u := (((((s.wr .SCH_OPER_LIST p 0 (s.rw .SCH_ADMIN_LIST p)).wr .SCH_OPER_CYCLE p 0 (s.rw .SCH_ADMIN_CYCLE p)).wr .SCH_OPER_EXT p 0
      (s.rw .SCH_ADMIN_EXT p)).wr .SCH_OPER_BASE_SEC_HI p 0 (s.rw .SCH_ADMIN_BASE_SEC_HI p)).wr .SCH_OPER_BASE_SEC_LO p 0
      (s.rw .SCH_ADMIN_BASE_SEC_LO p)).wr .SCH_OPER_BASE_NS p 0 (s.rw .SCH_ADMIN_BASE_NS p)
    let v := ((u.setSch p { s.sch p with running := true, pending := false, rewr := false }).bump .SCH_CFG_CHANGES p).setFlags .SCH_STATUS p 0 1
    exec (.configChange p) s = .next (levelRefresh (gateApply v p (gLocate v p)))) ∧
  (∀ (s : State) (p : Nat), (s.sch p).hold = true → holdOn s p = s) ∧
  ∀ (s : State) (p : Nat), (s.sch p).hold = false →
    holdOn s p = occ (macCount (((schSync s p).setSch p { (schSync s p).sch p with hold := true }).setMac p
      { (schSync s p).mac p with hold := true }) p 53) 18 0x14 p

/-- The Timekeeper's ticks, its commands SET, ADD, SUBTRACT, ARM_AUTO and DISARM_AUTO, and the time PLL. While the time PLL runs a
tick counts, and from the second on the time advances by INCR, which is 4 ns at FREQ 0; while it is lost nothing moves. A step
that waits executes at the tick: SET makes the time TK_STEP, ADD and SUBTRACT add it to and take it from the time so advanced. The
rows SET, ADD and SUBTRACT write TK_CMD and include the tick at which the step acts (the model's choice, log entry 62). ARM_AUTO
and DISARM_AUTO set and clear the automatic step. A step within range leaves exactly its time. The PLL's relock flags TIME_LOST,
arms the automatic step and goes to HOLDOVER, cause 6; with XO_IN good TIME_PLL reads 1 and time I/O is released. (R305, R306, R310, R328, R329, R331, R464) -/
def Obligations.TimekeeperAndSteps : Prop :=
  (∀ s : State, s.time.pllLost = true → exec .timekeeperTick s = .next (levelRefresh s)) ∧
  (∀ s : State, s.time.pllLost = false →
    let n : Int := if s.time.ticks = 0 then s.time.now.units else s.time.now.units + incr s
    let u := { s with time := { s.time with
      now := TimeVal.of n.toNat, ticks := s.time.ticks + 1, cmd := none, autoStep := none
      auto := if s.time.autoStep.isSome then false else s.time.auto } }
    (s.time.cmd = none → s.time.autoStep = none → exec .timekeeperTick s = .next (levelRefresh u)) ∧
    (∀ x, s.time.cmd = none → s.time.autoStep = some x → exec .timekeeperTick s = .next (levelRefresh (stepTo u true (n - 65536 * x)))) ∧
    (∀ a v, s.time.cmd = some (a, v) → s.time.autoStep = none → v.ns ≤ 999999999 → exec .timekeeperTick s = .next (levelRefresh
      (stepTo u false (if a = 1 then v.units else if a = 2 then (u.time.now.units : Int) + v.units else u.time.now.units - v.units))))) ∧
  (∀ s : State, freqNow s = 0 → incr s = 4 * 2 ^ 32) ∧
  (∀ (s : State) (auto : Bool) (n : Nat), n < 2 ^ 64 * 1000000000 * 2 ^ 32 →
    (stepTo s auto n).time.now = TimeVal.of n ∧ (TimeVal.of n).units = n) ∧
  (∀ (s : State) (who : Who) (w : Word), Reached s who ⟨.TK_CMD, 0, 0⟩ → MayWrite s who ⟨.TK_CMD, 0, 0⟩ →
    let t := touched s ⟨.TK_CMD, 0, 0⟩
    let v : TimeVal := ⟨s.rn .TK_STEP 0 * 2 ^ 32 + s.rn .TK_STEP 1, s.rn .TK_STEP 2, s.rn .TK_STEP 3⟩
    let u (a : Nat) := timekeeperTick (testFlush (setRes { t with time := { t.time with cmd := some (a, v) } } stOk 0 []))
    (fld w 29 3 = 1 → exec (.set who w) s = .next (levelRefresh (u 1))) ∧
    (fld w 29 3 = 2 → exec (.add who w) s = .next (levelRefresh (u 2))) ∧
    (fld w 29 3 = 3 → exec (.subtract who w) s = .next (levelRefresh (u 3))) ∧
    (fld w 29 3 = 4 → exec (.armAuto who w) s =
      .next (wrote s ⟨.TK_CMD, 0, 0⟩ (fun s => { s with time := { s.time with auto := true } }))) ∧
    (fld w 29 3 = 5 → exec (.disarmAuto who w) s =
      .next (wrote s ⟨.TK_CMD, 0, 0⟩ (fun s => { s with time := { s.time with auto := false } })))) ∧
  (∀ s : State, s.time.pllLost = true → s.time.begun = true → exec .timePllRelock s =
    .next (levelRefresh (timePllBack
      (holdover ({ s with time := { s.time with pllLost := false, auto := true } }.setFlags .TK_STATUS 0 0 512) 6)))) ∧
  (∀ s : State, timePllBack s = if s.hot.clk.testBit 0 = true then xoFree (setClkBit s 4 true) 22 else s) ∧
  ∀ s : State, (s.time.pllLost = false ∨ s.time.begun = false) → exec .timePllRelock s = .next (levelRefresh s)

/-- PTP messages that reach the engine: what each does in its domain. With the engine running, a message of its type in a served
domain is consumed and counted, else counted as ignored; block 21 closed discards it. A Sync of the parent gives a sample at once,
or in a two-step domain waits for its Follow_Up, which gives the sample when the number agrees and counts a mismatch else. An
Announce of another grandmaster stores its identity, flags it and restarts the servo. Delay_Req and Pdelay_Req are answered;
Pdelay_Resp, its Follow_Up and Delay_Resp measure the delays; a second responder refuses the sample (log entry 115). Loss of Sync or Announce of the parent flags and holds the servo
over. (R314, R315, R319, R320, R321, R324, R325, R326, R327) -/
def Obligations.PtpMessagesReceived : Prop :=
  (∀ (s : State) (p t : Nat) (f : Bytes), closed s 21 = true →
    exec (.syncRx p f t) s = .next (levelRefresh (isoDiscard s 21)) ∧ exec (.followUpRx p f) s = .next (levelRefresh (isoDiscard s 21)) ∧
    exec (.announceRx p f) s = .next (levelRefresh (isoDiscard s 21)) ∧ exec (.delayReqRx p f t) s = .next (levelRefresh (isoDiscard s 21)) ∧
    exec (.pdelayReqRx p f t) s = .next (levelRefresh (isoDiscard s 21))) ∧
  (∀ (s : State) (p t d : Nat) (f b : Bytes), closed s 21 = false → domOn s 220 = true → ptpBody s p f = some b → msgDom s b = some d →
    let u := ptpTake s d p
    let ty := beAt b 0 1 % 16
    (fromParent s d p = false →
      (ty = 0 → exec (.syncRx p f t) s = .next (levelRefresh (ptpIgnore s))) ∧
      (ty = 8 → exec (.followUpRx p f) s = .next (levelRefresh (ptpIgnore s))) ∧
      (ty = 0xB → exec (.announceRx p f) s = .next (levelRefresh (ptpIgnore s)))) ∧
    (fromParent s d p = true →
      (ty = 0 → domTwoStep s d = false →
        exec (.syncRx p f t) s = .next (levelRefresh (ptpSample u d p (stampAt s b 34) t (cfAt b)))) ∧
      (ty = 0 → domTwoStep s d = true → exec (.syncRx p f t) s =
        .next (levelRefresh { u with time := { u.time with fuWait := some (beAt b 30 2, t, cfAt b) } })) ∧
      (ty = 8 → ∀ t2 c, s.time.fuWait = some (beAt b 30 2, t2, c) → exec (.followUpRx p f) s =
        .next (levelRefresh (ptpSample { u with time := { u.time with fuWait := none } } d p (stampAt s b 34) t2 (c + cfAt b)))) ∧
      (ty = 8 → (∀ x, s.time.fuWait = some x → x.1 ≠ beAt b 30 2) →
        exec (.followUpRx p f) s = .next (levelRefresh (u.bump .TK_FU_MISMATCH))) ∧
      (ty = 0xB →
        (wd (beAt b 53 4) = s.rw .TK_GM_ID_HI → wd (beAt b 57 4) = s.rw .TK_GM_ID_LO → exec (.announceRx p f) s = .next (levelRefresh u)) ∧
        ((wd (beAt b 53 4) ≠ s.rw .TK_GM_ID_HI ∨ wd (beAt b 57 4) ≠ s.rw .TK_GM_ID_LO) →
          let v := ((u.wr .TK_GM_ID_HI 0 0 (wd (beAt b 53 4))).wr .TK_GM_ID_LO 0 0 (wd (beAt b 57 4))).setFlags .TK_STATUS 0 0 32
          exec (.announceRx p f) s = .next (levelRefresh (if s.time.servo = .free then v else acquire v)))) ∧
      (ty = 9 → domP2p s d = false → beAt b 44 10 = portId s p → ∀ q t3 t1 t2 c, s.time.dreq = some (q, some t3) →
        s.time.lastSync = some (t1, t2, c) → q = beAt b 30 2 →
        let raw := ((t2 - t1 - c) + (stampAt s b 34 - t3 - cfAt b)) * 32768
        let v := { u with time := { u.time with dreq := none } }
        (rawOk v p raw = false → exec (.delayRespRx p f) s = .next (levelRefresh v)) ∧
        (rawOk v p raw = true →
          let dl := filtered v p v.time.pathValid v.time.pathDelay raw
          exec (.delayRespRx p f) s = .next (levelRefresh
            ({ v with time := { v.time with pathDelay := dl, pathValid := true } }.wr .TK_PATH_DELAY 0 0 (wOfInt (dl / 2 ^ 28))))))) ∧
    (ty = 1 → p < 128 → domP2p s d = false → s.rf .TK_PSTATE d (p / 16) (2 * (p % 16)) 2 = 2 → fromParent s d p = false →
      exec (.delayReqRx p f t) s = .next (levelRefresh (ptpSend u {
        kind := 9, dom := d, port := p, seq := beAt b 30 2, due := u.mono
        body := ptpHead u d 9 54 0 (cfAt b - ((t % 65536 : Nat) : Int)) p (beAt b 30 2) 3 (logByte u .TK_DOM_INT d 20) ++ ptpStamp t ++
          slice b 20 10 }))) ∧
    (ty = 2 → p < 128 → tst (s.rw .TK_PORT_CFG p) 30 = true → domP2p s d = true → domTwoStep s d = false →
      exec (.pdelayReqRx p f t) s = .next (levelRefresh (ptpSend u {
        kind := 3, dom := d, port := p, seq := beAt b 30 2, due := u.mono
        body := ptpHead u d 3 54 0 (cfAt b) p (beAt b 30 2) 5 0x7F ++ beBytes 10 0 ++ slice b 20 10
        note := .pdelayResp p (beAt b 30 2) t true (beBytes 1 d ++ slice b 20 10) }))) ∧
    (pdMatch s d p b = false →
      (ty = 3 → exec (.pdelayRespRx p f t) s = .next (levelRefresh (ptpIgnore s))) ∧
      (ty = 0xA → exec (.pdelayRespFollowUpRx p f) s = .next (levelRefresh (ptpIgnore s)))) ∧
    (pdMatch s d p b = true →
      let x := mget {} s.time.pds p
      let y := { x with who := some (beAt b 20 10) }
      (ty = 3 → x.who = none → nbit (beAt b 6 1) 1 = true → exec (.pdelayRespRx p f t) s =
        .next (levelRefresh (setPd u p { y with wait := some (t, (stampAt s b 34).toNat, cfAt b) }))) ∧
      (ty = 3 → x.who = none → nbit (beAt b 6 1) 1 = false → exec (.pdelayRespRx p f t) s =
        .next (levelRefresh (pdSample (setPd u p y) p (((t : Int) - x.t1.getD 0 - cfAt b) * 32768)))) ∧
      (ty = 3 → x.who = some (beAt b 20 10) → exec (.pdelayRespRx p f t) s = .next (levelRefresh u)) ∧
      (ty = 3 → ∀ w, x.who = some w → w ≠ beAt b 20 10 →
        let v := u.wr .TK_PORT_PD_STATUS p 0 (s.rw .TK_PORT_PD_STATUS p ||| bitw 30 true)
        let z := { x with done := true, multi := true, wait := none, prior := none }
        (x.multi = true → exec (.pdelayRespRx p f t) s = .next (levelRefresh v)) ∧
        (x.multi = false → x.prior = none → x.done = false → exec (.pdelayRespRx p f t) s = .next (levelRefresh (pdLost (setPd v p z) p))) ∧
        (x.multi = false → x.prior = none → x.done = true → exec (.pdelayRespRx p f t) s = .next (levelRefresh (setPd v p z)))) ∧
      (ty = 0xA → ∀ t4 t2 c, x.wait = some (t4, t2, c) → x.who = some (beAt b 20 10) → exec (.pdelayRespFollowUpRx p f) s =
        .next (levelRefresh (pdSample u p (((t4 : Int) - x.t1.getD 0 - (stampAt s b 34 - t2 + c + cfAt b)) * 32768)))))) ∧
  (∀ (s : State) (d : Nat), ptpRuns s = true → servoSrc s = 1 → d = parentDom s →
    exec (.syncLost d) s = .next (levelRefresh (holdFrom (s.setFlags .TK_STATUS 0 0 64) 2)) ∧
    exec (.annLost d) s = .next (levelRefresh (holdFrom (s.setFlags .TK_STATUS 0 0 128) 3))) ∧
  ∀ (s : State) (d : Nat), (ptpRuns s = false ∨ servoSrc s ≠ 1 ∨ d ≠ parentDom s) →
    exec (.syncLost d) s = .next (levelRefresh s) ∧ exec (.annLost d) s = .next (levelRefresh s)

/-- PTP messages that the engine sends: when each falls due, and the retry of those that wait for a buffer. While the engine runs,
the oldest waiting Follow_Up and Pdelay_Resp_Follow_Up are sent. Of a boundary clock's domain SYNC_DUE and ANNOUNCE_DUE send one
message at each MASTER port in ascending order, each with its next number. PDELAY_REQ_DUE of a port with PD_EN counts an
unanswered request as lost and sends the next one; DELAY_REQ_DUE sends one at the parent port of an end-to-end domain. The retry
tries every waiting message again, and skips a Sync or Announce 200 us after it was due. A message takes a buffer and leaves as a
frame of its own, or waits where no buffer serves it. With the engine stopped nothing is sent. (R316, R319, R320, R321, R322, R356, R357) -/
def Obligations.PtpMessagesSent : Prop :=
  (∀ s : State, ptpRuns s = true →
    (∀ m t, s.time.fus = m :: t → exec .followUpSend s = .next (levelRefresh (ptpSend { s with time := { s.time with fus := t } } m))) ∧
    (∀ m t, s.time.pfus = m :: t → exec .pdelayRespFollowUpSend s =
      .next (levelRefresh (ptpSend { s with time := { s.time with pfus := t } } m)))) ∧
  (∀ (s : State) (d p : Nat), ptpRuns s = false →
    exec .followUpSend s = .next (levelRefresh s) ∧ exec .pdelayRespFollowUpSend s = .next (levelRefresh s) ∧
    exec (.syncDue d) s = .next (levelRefresh s) ∧ exec (.announceDue d) s = .next (levelRefresh s) ∧
    exec (.pdelayReqDue p) s = .next (levelRefresh s) ∧ exec (.delayReqDue d) s = .next (levelRefresh s)) ∧
  (∀ (s : State) (d : Nat), ptpRuns s = true →
    (domBc s d = false → exec (.syncDue d) s = .next (levelRefresh s) ∧ exec (.announceDue d) s = .next (levelRefresh s)) ∧
    (domBc s d = true →
      let next := fun (s : State) p k => mget 0 s.time.seqs ((4 * p + d) * 16 + k)
      let bump := fun (s : State) p k => { s with time := { s.time with
        seqs := mput 0 s.time.seqs ((4 * p + d) * 16 + k) ((next s p k + 1) % 65536) } }
      exec (.syncDue d) s = .next (levelRefresh ((masterPorts s d).foldl (fun s p => ptpSend (bump s p 0) {
        kind := 0, dom := d, port := p, seq := next s p 0, due := s.mono
        body := ptpHead s d 0 44 (if domTwoStep s d then 0x200 else 0) 0 p (next s p 0) 0 (logByte s .TK_DOM_INT d 28) ++ beBytes 10 0
        note := .sync d p (next s p 0) (!domTwoStep s d) }) s)) ∧
      exec (.announceDue d) s = .next (levelRefresh ((masterPorts s d).foldl (fun s p => ptpSend (bump s p 11) {
        kind := 0xB, dom := d, port := p, seq := next s p 11, due := s.mono, body := announceBody s d p (next s p 11) }) s)))) ∧
  (∀ (s : State) (d : Nat), (masterPorts s d).Pairwise (· < ·) ∧ ∀ p, p ∈ masterPorts s d ↔ p < 128 ∧ portPresent s p = true ∧
    s.rf .TK_PSTATE d (p / 16) (2 * (p % 16)) 2 = 2 ∧ fromParent s d p = false) ∧
  (∀ (s : State) (p d : Nat), ptpRuns s = true → p < 128 → portPresent s p = true → tst (s.rw .TK_PORT_CFG p) 31 = true →
    d = fld (s.rw .TK_PORT_CFG p) 28 2 → domServed s d = true →
    let t := if (mget {} s.time.pds p).sent = true ∧ (mget {} s.time.pds p).done = false then pdLost s p else s
    let q := mget 0 t.time.seqs ((4 * p + d) * 16 + 2)
    let u := { t with time := { t.time with seqs := mput 0 t.time.seqs ((4 * p + d) * 16 + 2) ((q + 1) % 65536) } }
    let v := setPd u p { (mget {} t.time.pds p) with seq := q, sent := true, t1 := none, who := none, done := false, multi := false, prior := none, wait := none }
    exec (.pdelayReqDue p) s = .next (levelRefresh (ptpSend v {
      kind := 2, dom := d, port := p, seq := q, due := v.mono, note := .pdelayReq p q
      body := ptpHead v d 2 54 0 0 p q 5 0x7F ++ beBytes 20 0 }))) ∧
  (∀ (s : State) (p : Nat), let n := fld (s.rw .TK_PORT_PD_STATUS p) 0 2
    n ≤ 1 → pdLost s p = s.wr .TK_PORT_PD_STATUS p 0 (setFld (s.rw .TK_PORT_PD_STATUS p) 0 2 (n + 1))) ∧
  (∀ (s : State) (p d : Nat), ptpRuns s = true → servoSrc s = 1 → d = parentDom s → p = parentPort s → domServed s d = true →
    domP2p s d = false → portPresent s p = true →
    let q := mget 0 s.time.seqs ((4 * p + d) * 16 + 1)
    let u := { s with time := { s.time with
      seqs := mput 0 s.time.seqs ((4 * p + d) * 16 + 1) ((q + 1) % 65536), dreq := some (q, none) } }
    exec (.delayReqDue d) s = .next (levelRefresh (ptpSend u {
      kind := 1, dom := d, port := p, seq := q, due := s.mono, note := .delayReq d p q
      body := ptpHead u d 1 44 0 0 p q 1 0x7F ++ beBytes 10 0 }))) ∧
  (∀ s : State, closed s 21 = true → exec .ptpEngineRetry s = .next (levelRefresh s)) ∧
  (∀ s : State, closed s 21 = false → exec .ptpEngineRetry s = .next (levelRefresh (s.time.retry.foldl (fun s m =>
    if (m.kind = 0 ∨ m.kind = 0xB) ∧ m.due + 200000 < s.mono then s.bump .LBM_FAIL 2 (poolFor ((pad60 (ptpFrame s m)).length + 16))
    else ptpSend s m) { s with time := { s.time with retry := [] } }))) ∧
  (∀ (s : State) (m : PtpMsg), m.atSend s = if m.kind = 0xB then { m with
    body := patch m.body 34 (beBytes 6 s.time.now.sec ++ beBytes 4 s.time.now.ns) } else m) ∧
  ∀ (s : State) (n : PtpMsg), let m := n.atSend s
    msgWild s m = false → let r := lbmTake s 2 ((pad60 (ptpFrame s m)).length + 16)
    (r.1 = none → ptpSend s n = { r.2 with time := { r.2.time with retry := r.2.time.retry ++ [m] } }) ∧
    (∀ k, r.1 = some k → pairOf r.2 (portRef r.2 m.port) = none → m.kind ≠ 2 → m.kind ≠ 3 →
      let u := occ r.2 21 0x10 m.port
      ptpSend s n = originate (bufPut u k 16 (pad60 (ptpFrame s m))) {
                                  src := 133, feed := 10, ref := portRef u 133, rate := portRate u 133, t := u.stamp 0
                                  bytes := pad60 (ptpFrame s m), buf := some (2, k)
                                  plan := [{ id := 0, frame := 0, port := m.port, queue := u.rf .TK_DOM_CFG m.dom 0 24 3, kind := .own,
                                             store := true, note := m.note }] })

/-- PPS input and outputs and the IRIG-B output. While time I/O runs with the input enabled and a ball for it, a PPS_IN edge
counts; one within 0.9 s of the last accepted edge is a glitch, counted and flagged; any other stores its timestamp, flags it and,
with SRC 2, gives the servo its offset from the nearest second. Its loss flags, and with SRC 2 holds the servo over. A PPS output
that is high falls WIDTH after its second; one that is low rises at the nearest second unless the role is being given up; a
disabled one goes low. An IRIG frame starts at the nearest second with its code, and applies a leap second. (R332, R333, R334,
R335, R402, R420) -/
def Obligations.TimeInputsAndOutputs : Prop :=
  (∀ (s : State) (half : Nat), (tioRuns s = false ∨ tst (s.rw .TIO_PPS_IN_CFG) 31 = false ∨ ppsBall s = false) →
    exec (.ppsInEdge half) s = .next (levelRefresh s)) ∧
  (∀ (s : State) (half : Nat), tioRuns s = true → tst (s.rw .TIO_PPS_IN_CFG) 31 = true → ppsBall s = true → ppsShared s = false →
    let u := s.bump .TIO_PPS_IN_EDGES
    (∀ k, s.time.ppsTick = some k → s.time.ticks < k + 225000000 →
      exec (.ppsInEdge half) s = .next (levelRefresh ((u.bump .TIO_PPS_IN_GLITCH).setFlags .TIO_STATUS 0 0 2))) ∧
    ((∀ k, s.time.ppsTick = some k → k + 225000000 ≤ s.time.ticks) →
      let t := s.stamp half
      let v := (((u.wr .TIO_PPS_IN 0 0 (wd (tsSec t / 2 ^ 32))).wr .TIO_PPS_IN 1 0 (wd (tsSec t))).wr .TIO_PPS_IN 2 0 (wd (tsNs t))).wr
        .TIO_PPS_IN 3 0 (wd (t % 65536 * 65536))
      let x := occ ({ v with time := { v.time with ppsTick := some s.time.ticks } }.setFlags .TIO_STATUS 0 0 1) 22 0x10 0
      ((servoSrc s ≠ 2 ∨ closed s 21 = true) → exec (.ppsInEdge half) s = .next (levelRefresh x)) ∧
      (servoSrc s = 2 → closed s 21 = false →
        let w : Int := (t : Int) - 65536 * s.rf .TIO_PPS_IN_CFG 0 0 0 16
        exec (.ppsInEdge half) s = .next (levelRefresh (sample x (w - (w + 32768000000000) / 65536000000000 * 65536000000000) 0))))) ∧
  (∀ s : State, tioRuns s = true → tst (s.rw .TIO_PPS_IN_CFG) 31 = true →
    let u := s.setFlags .TIO_STATUS 0 0 4
    exec .ppsInLost s = .next (levelRefresh (if servoSrc s = 2 ∧ closed s 21 = false then holdFrom u 5 else u))) ∧
  (∀ (s : State) (n : Nat), (1 < n ∨ tioRuns s = false) → exec (.ppsOutEdge n) s = .next (levelRefresh s)) ∧
  (∀ (s : State) (n : Nat), n ≤ 1 → tioRuns s = true →
    let low (t : Int) := (fun u : State => { u with time := { u.time with pps := mput false u.time.pps n false } }) (timePin s (49 + n) false t)
    (tst (s.rw .TIO_PPS_OUT n) 31 = false → mget false s.time.pps n = true → exec (.ppsOutEdge n) s = .next (levelRefresh (low (now16 s)))) ∧
    (tst (s.rw .TIO_PPS_OUT n) 31 = false → mget false s.time.pps n = false → exec (.ppsOutEdge n) s = .next (levelRefresh s)) ∧
    (tst (s.rw .TIO_PPS_OUT n) 31 = true → mget false s.time.pps n = true → exec (.ppsOutEdge n) s = .next (levelRefresh
      (low ((now16 s - outShift s n) / 16000000000 * 16000000000 + outShift s n + 16000 * s.within 1 999999 (s.rf .TIO_PPS_OUT n 0 0 20))))) ∧
    (tst (s.rw .TIO_PPS_OUT n) 31 = true → mget false s.time.pps n = false → s.twin.role = .releasing →
      exec (.ppsOutEdge n) s = .next (levelRefresh s)) ∧
    (tst (s.rw .TIO_PPS_OUT n) 31 = true → mget false s.time.pps n = false → s.twin.role ≠ .releasing →
      let c := if n = 0 then corrSlew s else s
      let u := timePin c (49 + n) true ((now16 c - outShift c n + 8000000000) / 16000000000 * 16000000000 + outShift c n)
      exec (.ppsOutEdge n) s = .next (levelRefresh { u with time := { u.time with pps := mput false u.time.pps n true } }))) ∧
  (∀ s : State, tioRuns s = false → exec .irigFrame s = .next (levelRefresh s)) ∧
  (∀ s : State, tioRuns s = true → tst (s.rw .TIO_IRIG_CFG) 27 = false → tst (s.rw .TIO_IRIG_TIME) 15 = false →
    tst (s.rw .TIO_IRIG_TIME) 14 = false →
    let b := (now16 s - outShift s 2 + 8000000000) / 16000000000
    ((s.twin.role = .releasing ∨ tst (s.rw .TIO_IRIG_CFG) 31 = false) →
      exec .irigFrame s = .next (levelRefresh { s with time := { s.time with irigBusy := false } })) ∧
    (s.twin.role ≠ .releasing → tst (s.rw .TIO_IRIG_CFG) 31 = true →
      let u := { s with time := { s.time with irigBusy := true } }
      exec .irigFrame s = .next (levelRefresh (if drives s then u.emit (.irig (b * 16000000000 + outShift s 2)
        (irigCode s (b.toNat - fld (s.rw .TIO_IRIG_TIME) 16 16) false)) else u)))) ∧
  (∀ s : State, drives s = false → corrSlew s = s) ∧
  (∀ s : State, drives s = true → s.twin.edges = 0 → corrSlew s = { s with twin := { s.twin with edges := 1 } }) ∧
  (∀ (s : State) (c : Int), s.time.corr = c → drives s = true → 1 ≤ s.twin.edges →
    (corrSlew s).time.corr = if 0 < c then max 0 (c - (2 * s.within 1 1000 (s.rf .TWN_SLEW 0 0 0 16) : Nat))
      else min 0 (c + (2 * s.within 1 1000 (s.rf .TWN_SLEW 0 0 0 16) : Nat))) ∧
  ∀ (s : State) (u : Nat) (sixty : Bool), (irigCode s u sixty).length = 100

/-- Endpoint frames from the host, the launch store, hand-off and late launches. A good endpoint frame to the control address on a
ready host lane wakes the endpoint and, of a known context, is judged as a launch: a full store, a full hold, a time too far ahead
and a late launch that asks for it are refused and counted; else it takes free cells and its place by time. A bad frame counts its
error; one for nobody counts unknown. At T - LEAD the first launch leaves the store with its copies; before that nothing does. A
launch copy not begun by T + LATE_TOL is discarded when it asks for that, else counted once. (R339, R344, R345, R346, R347, R349,
R402, R473) -/
def Obligations.EndpointLaunches : Prop :=
  (∀ (s : State) (lane : Nat) (f : Bytes), lane < 2 → portPresent s (128 + lane) = true → closed s (32 + lane) = true →
    exec (.endpointFrame lane f) s = .next (levelRefresh (isoDiscard s (32 + lane)))) ∧
  (∀ (s : State) (lane : Nat) (f : Bytes), (1 < lane ∨ (rxReady s (128 + lane) = false ∧ closed s (32 + lane) = false)) →
    rxLeft s (128 + lane) = false → exec (.endpointFrame lane f) s = .next (levelRefresh s)) ∧
  (∀ (s : State) (lane : Nat) (f : Bytes), lane ≤ 1 → rxReady s (128 + lane) = true →
    let p := 128 + lane
    let e := rxError { bytes := f, maxLen := macMaxLen s p } false false
    let u := countRxGood s p f
    (((etherHead f).2.1 ≠ 0x88B6 ∨ beAt f 0 6 ≠ controlMac s) → exec (.endpointFrame lane f) s = .next (levelRefresh (wholeFrame s p f))) ∧
    (∀ c, (etherHead f).2.1 = 0x88B6 → beAt f 0 6 = controlMac s → e = some c →
      exec (.endpointFrame lane f) s = .next (levelRefresh (countRxBad s p f.length c))) ∧
    (e = none → (etherHead f).2.1 = 0x88B6 → beAt f 0 6 = controlMac s →
      (closed u 23 = true → exec (.endpointFrame lane f) s = .next (levelRefresh (isoDiscard u 23))) ∧
      (closed u 23 = false → leftAsleep (trigger u 1 234) 234 = false →
        let v := trigger u 1 234
        (ctxMatch v lane (beAt f 6 6) ((etherHead f).1.map (· % 4096)) = none →
          exec (.endpointFrame lane f) s = .next (levelRefresh (v.bump .EPT_RX_UNKNOWN))) ∧
        ∀ ctx, ctxMatch v lane (beAt f 6 6) ((etherHead f).1.map (· % 4096)) = some ctx →
          let pl := (f.take (f.length - 4)).drop (etherHead f).2.2
          exec (.endpointFrame lane f) s = .next (levelRefresh (acceptLaunch v lane ctx (bytesWs 4 (pl.take 16)) (pad60 (pl.drop 16))))))) ∧
  (∀ (s : State) (lane ctx : Nat) (pfx : List Word) (inner : Bytes),
    let n := ceilDiv (inner.length + 4) 128
    let w2 := pfx.getD 2 0
    let t := if tst w2 29 then s.now else launchTime s (pfx.getD 0 0) (pfx.getD 1 0)
    (4096 ≤ s.ept.launches.length → acceptLaunch s lane ctx pfx inner = (s.bump .EPT_LAUNCH_FULL).setFlags .EPT_STATUS 0 0 1) ∧
    (s.ept.launches.length < 4096 →
      (s.within 80 262144 (s.rn .EPT_HOLD_MAX) < holdUsed s + n →
        acceptLaunch s lane ctx pfx inner = (s.bump .EPT_HOLD_FULL).setFlags .EPT_STATUS 0 0 2) ∧
      (holdUsed s + n ≤ s.within 80 262144 (s.rn .EPT_HOLD_MAX) →
        (s.now + 1000000 * s.within 1 4000 (s.rn .EPT_MAX_AHEAD) < t → acceptLaunch s lane ctx pfx inner = s.bump .EPT_TOO_FAR) ∧
        (t < s.now → tst w2 30 = true → acceptLaunch s lane ctx pfx inner = (s.bump .EPT_LATE_DROP).setFlags .EPT_STATUS 0 0 4) ∧
        (t ≤ s.now + 1000000 * s.within 1 4000 (s.rn .EPT_MAX_AHEAD) → s.now ≤ t → closed s 17 = true →
          acceptLaunch s lane ctx pfx inner = isoDiscard s 17) ∧
        (∀ (cs : List Nat) (v : State), t ≤ s.now + 1000000 * s.within 1 4000 (s.rn .EPT_MAX_AHEAD) → s.now ≤ t → closed s 17 = false →
          takeCells s (11 + s.car.slot) [] n = (some cs, v) →
          let x : Launch := { t := t, ctx := ctx, lane := lane, pfx := pfx, inner := inner, cells := cs, dropLate := tst w2 30 }
          acceptLaunch s lane ctx pfx inner =
            repostAll (occ (launchCells { v with ept := { v.ept with launches := launchIns x v.ept.launches } } inner cs) 23 0x10 0))))) ∧
  (∀ s : State, (s.ept.launches = [] ∨ closed s 23 = true) → exec .launchHandoff s = .next (levelRefresh s)) ∧
  (∀ (s : State) (x : Launch) (l : List Launch), s.ept.launches = x :: l → closed s 23 = false →
    (s.now + s.within 500 1000000 (s.rn .EPT_LEAD) < x.t → exec .launchHandoff s = .next (levelRefresh s)) ∧
    (x.t ≤ s.now + s.within 500 1000000 (s.rn .EPT_LEAD) →
      let u := occ ({ s with ept := { s.ept with launches := l } }.bump .EPT_LAUNCHED) 23 0x11 0
      let r := launchPlan u x
      exec .launchHandoff s = .next (levelRefresh (repostAll (originate r.2.2 {
        src := 134, feed := 11, ref := portRef u (128 + x.lane), rate := portRate u (128 + x.lane), t := u.stamp 0, bytes := x.inner
        cells := x.cells.zipIdx.map (fun c => (c.2, c.1)), head := min 128 (x.inner.length + 4), plan := r.1
        launch := some (x.t, x.dropLate), via := some (128 + x.lane), stitchSeq := r.2.1
        carry := { cls := fld (x.pfx.getD 2 0) 24 4 % 8, handleV := tst (x.pfx.getD 2 0) 31, handle := fld (x.pfx.getD 3 0) 16 16 } }))))) ∧
  ∀ (s : State) (p q pos t : Nat) (d : Bool) (c : CCopy) (f : CFrame), (queueCopies s p q)[pos]? = some c → s.frm c.frame = some f →
    f.launch = some (t, d) →
    ((c.begun = true ∨ c.late = true ∨ s.now < t + s.within 0 1000000 (s.rn .EPT_LATE_TOL)) →
      exec (.launchLate p q pos) s = .next (levelRefresh s)) ∧
    (c.begun = false → c.late = false → t + s.within 0 1000000 (s.rn .EPT_LATE_TOL) ≤ s.now → exec (.launchLate p q pos) s =
      .next (levelRefresh (if d then dropCopy ((s.bump .EPT_LATE_DROP).setFlags .EPT_STATUS 0 0 4) c
        else occ ((s.modCpy (fun x => x.id == c.id) (fun x => { x with late := true })).bump .EPT_LATE_TX) 23 0x12 0)))

/-- Line channels: frames in and out, defects, packets in and out, disable and retry. Of a running channel. A transmitted frame
carries the slot due, or ones, which is counted, or what a loopback gives; the jitter buffer moves on and fills again once it is
empty. A received frame with a good header, or the only candidate while
hunting, keeps or gains SYNC and delivers its data; the fourth header error in a row loses it. LOS and AIS are sampled, and a
defect is declared or cleared after its count. A packet is formed from what was delivered, sent when it holds a buffer, and its
number advances. A packet for one matching channel is placed if its lengths agree, else counted; a placed one fills its free
slots. A disable ends with the line low and the buffers returned. (R362, R366, R367, R368, R369, R370, R373, R374, R375, R377) -/
def Obligations.LineChannels : Prop :=
  (∀ (s : State) (c k n : Nat) (e r a b : Bool) (d : Bytes), chanRuns s c = false →
    exec (.lineFrameTx c) s = .next (levelRefresh s) ∧ exec (.lineFrameRx c k e n r d) s = .next (levelRefresh s) ∧
    exec (.losRaw c) s = .next (levelRefresh s) ∧ exec (.defectSample c a b) s = .next (levelRefresh s) ∧
    exec (.cePacketForm c) s = .next (levelRefresh s)) ∧
  (∀ (s : State) (c : Nat), chanRuns s c = true →
    let x := s.chan c
    let n := chanN s c
    let ring := (x.ring.filter (fun e => e.1 ≠ 0)).map (fun e => (e.1 - 1, e.2))
    let on := fun (s' : State) j => s'.setChan c { x with ring := ring, p := (x.p + 1) % (65536 * chanF s c), jb := j, sending := true }
    let at_ : Int := ((s.now : Int) - s.rf .LCH_CFG c 0 0 17 + 62500) / 125000 * 125000 + s.rf .LCH_CFG c 0 0 17
    let tx := fun (s' : State) d => s'.emit (.line c at_ (tst (s.rw .LCH_CFG c) 28) n (chanFailed x) d)
    let v := if mfind x.ring 0 = none then occ (s.bump .LCH_UNDERRUN c) (chanBlock c) 0x12 (c % 8) else s
    (s.rf .LCH_CFG c 0 29 2 = 0 → s.rf .LCH_CFG c 0 0 17 ≤ 124999 →
      (x.jb = .play → ring ≠ [] →
        exec (.lineFrameTx c) s = .next (levelRefresh (tx (on v .play) ((mfind x.ring 0).getD (onesBytes n))))) ∧
      (x.jb = .play → ring = [] → exec (.lineFrameTx c) s =
        .next (levelRefresh (tx ((on v .fill).setFlags .LCH_STATUS c 0 32) ((mfind x.ring 0).getD (onesBytes n))))) ∧
      (x.jb ≠ .play → exec (.lineFrameTx c) s = .next (levelRefresh (tx (on s x.jb) (onesBytes n))))) ∧
    (s.rf .LCH_CFG c 0 29 2 = 1 → s.rf .LCH_CFG c 0 0 17 ≤ 124999 → x.jb ≠ .play →
      exec (.lineFrameTx c) s = .next (levelRefresh (tx (on s x.jb) ((x.last ++ onesBytes n).take n)))) ∧
    (s.rf .LCH_CFG c 0 29 2 = 2 → s.rf .LCH_CFG c 0 0 17 ≤ 124999 → x.jb ≠ .play →
      exec (.lineFrameTx c) s = .next (levelRefresh (chanDeliver (tx (on s x.jb) (onesBytes n)) c (onesBytes n)))) ∧
    (∀ (k m : Nat) (e r : Bool) (d : Bytes), x.framer = .hunt → k ≠ 1 → exec (.lineFrameRx c k e m r d) s =
      .next (levelRefresh (framerDeliver (if 2 ≤ k then s.bump .LCH_HUNT_AMBIG c else s) c (onesBytes n)))) ∧
    (∀ (k m : Nat) (r : Bool) (d : Bytes), (x.framer = .sync ∨ (x.framer = .hunt ∧ k = 1)) →
      let v := s.setChan c { x with framer := .sync, errRun := 0, rxN := m % 16, rxRdi := r }
      let w := if m % 16 = n then v else v.setFlags .LCH_STATUS c 0 128
      exec (.lineFrameRx c k false m r d) s = .next (levelRefresh (framerDeliver w c ((d ++ onesBytes n).take n)))) ∧
    (∀ (k m : Nat) (r : Bool) (d : Bytes), x.framer = .sync →
      let v := occ (s.bump .LCH_HDR_ERR c) (chanBlock c) 0x13 (c % 8)
      (3 ≤ x.errRun → exec (.lineFrameRx c k true m r d) s =
        .next (levelRefresh (framerDeliver (v.setChan c { x with framer := .hunt, errRun := 4 }) c (onesBytes n)))) ∧
      (x.errRun < 3 → exec (.lineFrameRx c k true m r d) s =
        .next (levelRefresh (framerDeliver (v.setChan c { x with errRun := x.errRun + 1, rxRdi := r }) c ((d ++ onesBytes n).take n))))) ∧
    exec (.losRaw c) s = .next (levelRefresh (s.setChan c { x with
      framer := if x.framer = .sync then .hunt else x.framer, raw := x.raw ||| 8, last := [] })) ∧
    (∀ los ais : Bool,
      let lof := x.framer != .sync
      let rdi := x.framer == .sync && x.rxRdi
      let t0 := s.setChan c { x with raw := 8 * b2n los + 4 * b2n ais + 2 * b2n lof + b2n rdi }
      let t1 := defectStep t0 c 3 0 .LCH_INT_LOS los false
      let t2 := defectStep t1 c 2 1 .LCH_INT_AIS ais (nbit (t1.chan c).defects 3)
      let t3 := defectStep t2 c 1 2 .LCH_INT_LOF lof (nbit (t2.chan c).defects 3 || nbit (t2.chan c).defects 2)
      exec (.defectSample c los ais) s = .next (levelRefresh (defectStep t3 c 0 3 .LCH_INT_RDI rdi (decide (2 ≤ (t3.chan c).defects))))) ∧
    (x.gather ≠ [] →
      let m := n * chanF s c
      let v := s.setChan c { x with gather := [], pktPool := none, seq := (x.seq + 1) % 65536 }
      (x.pktPool = none → exec (.cePacketForm c) s = .next (levelRefresh (chanDeliver v c (x.gather.drop m)))) ∧
      (∀ k, x.pktPool = some k → phaseBad v c = false → templateBad v c = false →
        let head := chanHead v c (4 + m)
        let cw := bitw 27 (chanFailed x) ||| bitw 26 (x.jb == .fill) ||| put 16 6 (if head.length + 4 + m < 60 then 4 + m else 0) ||| put 0 16 x.seq
        let f := pad60 (head ++ wBytes cw ++ (x.gather ++ onesBytes m).take m)
        let r := chanPlan v c f
        exec (.cePacketForm c) s = .next (levelRefresh (chanDeliver (originate (occ ((bufPut r.2 k 16 f).bump .LCH_PKT_TX c) (chanBlock c) 0x10 (c % 8)) {
          src := 134, feed := 11, ref := portRef v 133, rate := portRate v 133, t := v.stamp 0, bytes := f, buf := some (3, k), chan := some c
          plan := r.1, carry := { cls := s.rf .LCH_DEST c 0 28 3 } }) c (x.gather.drop m)))))) ∧
  (∀ (s : State) (p : Nat) (f : Bytes), leftAsleep s 223 = false → cePacket (altTpid s (pipeOf p)) (f.take (f.length - 4)) = none →
    exec (.cePacketRx f p) s = .next (levelRefresh (s.bump .LCH_RX_UNMATCHED))) ∧
  (∀ (s : State) (p : Nat) (f : Bytes) (o rid : Nat) (udp : Bool), leftAsleep s 223 = false →
    cePacket (altTpid s (pipeOf p)) (f.take (f.length - 4)) = some (o, udp, rid) →
    let cs := (List.range 16).filter (fun c => chanRuns s c && tst (s.rw .LCH_PKT c) 31 == udp &&
      rid == s.rf .LCH_RXID c 0 0 (if udp then 16 else 20))
    (cs = [] → exec (.cePacketRx f p) s = .next (levelRefresh (s.bump .LCH_RX_UNMATCHED))) ∧
    (∀ c, cs = [c] → rctOf (altTpid s (pipeOf p)) (f.take (f.length - 4)) = none →
      let cw := BitVec.ofNat 32 (beAt (f.take (f.length - 4)) o 4)
      let pl := (f.take (f.length - 4)).drop (o + 4)
      (fld cw 22 4 ≠ 0 → exec (.cePacketRx f p) s = .next (levelRefresh (s.bump .LCH_RX_BADLEN c))) ∧
      (fld cw 22 4 = 0 → fld cw 16 6 = 0 → pl ≠ [] → pl.length = chanN s c * chanF s c →
        exec (.cePacketRx f p) s = .next (levelRefresh (placePacket s c cw pl 2))) ∧
      (fld cw 22 4 = 0 → fld cw 16 6 = 0 → pl ≠ [] → pl.length ≠ chanN s c * chanF s c →
        exec (.cePacketRx f p) s = .next (levelRefresh (s.bump .LCH_RX_BADLEN c))))) ∧
  (∀ (s : State) (c : Nat) (d : Bytes), let x := s.chan c
    (s.rf .LCH_CFG c 0 29 2 = 2 → framerDeliver s c d = s.setChan c { x with last := d }) ∧
    (s.rf .LCH_CFG c 0 29 2 < 2 → framerDeliver s c d = chanDeliver (s.setChan c { x with last := d }) c d) ∧
    (d ≠ [] → x.gather ≠ [] →
      let u := s.setChan c { x with gather := x.gather ++ d }
      (x.pktPool = none → chanDeliver s c d = u) ∧
      (∀ b, x.pktPool = some b → ∃ o, chanDeliver s c d = bufPut u b o d)) ∧
    (chanDeliver s c [] = s)) ∧
  (∀ (s : State) (c bit flag : Nat) (cfg : Fam) (raw : Bool),
    let x := s.chan c
    let on := nbit x.defects bit
    let lim := s.within 1 65535 (s.rf cfg c 0 (if on then 0 else 16) 16)
    let run := mget 0 x.runs bit + 1
    (raw = on → defectStep s c bit flag cfg raw false = s.setChan c { x with runs := mput 0 x.runs bit 0 }) ∧
    (raw ≠ on → run < lim → defectStep s c bit flag cfg raw false = s.setChan c { x with runs := mput 0 x.runs bit run }) ∧
    (raw ≠ on → lim ≤ run → defectStep s c bit flag cfg raw false =
      (s.setChan c { x with defects := x.defects ^^^ (1 <<< bit), runs := mput 0 x.runs bit 0 }).setFlags .LCH_STATUS c 0 (1 <<< flag)) ∧
    (on = false → defectStep s c bit flag cfg raw true = s.setChan c { x with runs := mput 0 x.runs bit 0 }) ∧
    (on = true → defectStep s c bit flag cfg raw true = (s.setChan c { x with
      defects := x.defects - 1 <<< bit, runs := mput 0 x.runs bit 0 }).setFlags .LCH_STATUS c 0 (1 <<< flag))) ∧
  (∀ (s : State) (c k : Nat) (cw : Word) (pl : Bytes), (s.chan c).jb = .play →
    let x := s.chan c
    let f := chanF s c
    let m : Int := (65536 * f : Nat)
    let d := (((fld cw 0 16 * f : Nat) : Int) - x.p).emod m
    let a := if d ≥ m / 2 then d - m else d
    (a < 1 → placePacket s c cw pl (k + 1) = (s.bump .LCH_RX_LATE c).setChan c { x with overran := false }) ∧
    (1 ≤ a → jbMax s c < a + f → x.overran = false →
      placePacket s c cw pl (k + 1) = (s.bump .LCH_RX_OVERRUN c).setChan c { x with overran := true }) ∧
    (1 ≤ a → a + f ≤ jbMax s c → (∃ i < f, (mfind x.ring (a.toNat + i)).isSome = true) →
      placePacket s c cw pl (k + 1) = (s.bump .LCH_RX_DUP c).setChan c { x with overran := false }) ∧
    (1 ≤ a → a + f ≤ jbMax s c → (∀ i < f, mfind x.ring (a.toNat + i) = none) → ∃ ring : List (Nat × Bytes),
      placePacket s c cw pl (k + 1) = occ ((s.bump .LCH_PKT_RX c).setChan c { x with
        ring := ring, overran := false, rxL := tst cw 27, rxR := tst cw 26 }) (chanBlock c) 0x11 (c % 8) ∧
      (∀ i < f, mfind ring (a.toNat + i) = some (slice pl (chanN s c * i) (chanN s c))) ∧
      ∀ j, (j < a.toNat ∨ a.toNat + f ≤ j) → mfind ring j = mfind x.ring j)) ∧
  (∀ (s : State) (c : Nat), chanPresent s c = true → (s.chan c).disabling = true →
    let u := ((chanFree s c).setChan c {}).emit (.lineOff c)
    exec (.channelDisable c) s = .next (levelRefresh (if (s.chan c).enPend then chanEnable u c else u))) ∧
  (∀ (s : State) (c : Nat), (s.chan c).disabling = false → exec (.channelDisable c) s = .next (levelRefresh s)) ∧
  (∀ (s : State) (c : Nat), chanPresent s c = true → (s.chan c).want = true → tst (s.rw .LCH_CFG c) 31 = true →
    exec (.channelBufferRetry c) s = .next (levelRefresh (chanEnable s c))) ∧
  ∀ (s : State) (c : Nat), (s.chan c).want = false → exec (.channelBufferRetry c) s = .next (levelRefresh s)

/-- Event offers, their timers and retries, dormancy, targets and DELIVER_EN. An offer leaves for a context that may be offered
sources and has some: its frame, number and count, its sources outstanding; without a buffer the context waits for the retry,
counted and flagged; with nothing to offer nothing happens. The timer of a Pending source with an outstanding offer makes it need
one of KIND 0b01, counted and flagged, unless its context is Dormant. EVT_CTX_CMD sets and clears DORMANT_HOST; a context that
wakes has its Pending sources offered. A new target makes a Pending source without an offer need one; DELIVER_EN returning to 1
does so for each Pending source that has a target and no outstanding offer. (R387, R388, R389, R390, R391, R392, R394, R402) -/
def Obligations.EventOffers : Prop :=
  (∀ (s : State) (c : Nat), (offersOk s c = false ∨ offerList s c = []) → exec (.offerSend c) s = .next (levelRefresh s)) ∧
  (∀ (s : State) (c : Nat), offersOk s c = true → offerList s c ≠ [] →
    let ns := offerList s c
    let seq := s.rf .EVT_OFFER_SEQ c 0 0 16
    let f := mcfFrame s c (s.rf .CTL_CTX_MAC_HI c 0 0 16 * 2 ^ 32 + s.rn .CTL_CTX_MAC_LO c) (controlMac s) (offerPayload s c seq ns)
    (∀ k v, lbmTake s 1 (f.length + 12) = (some k, v) →
      let x := sendControl (bufPut v k 16 (f.take (f.length - 4))) (128 + ctxLane v c) f (some (1, k))
      let w := occ ((x.bump .EVT_OFFERS).wr .EVT_OFFER_SEQ c 0 (put 0 16 (seq + 1))) 27 0x10 c
      exec (.offerSend c) s = .next (levelRefresh (ns.foldl (fun s n => s.setSrc n { s.src n with offered := some c, need := none }) w))) ∧
    (∀ v, lbmTake s 1 (f.length + 12) = (none, v) →
      let w := (v.bump .EVT_NOBUF).setFlags .EVT_STATUS 0 0 1
      exec (.offerSend c) s = .next (levelRefresh { w with evt := { w.evt with noBuf := c :: w.evt.noBuf.filter (· != c) } }))) ∧
  (∀ (s : State) (n c : Nat), (s.src n).st = .pending → (s.src n).offered = some c →
    ((dormant s c = true ∨ closed s 27 = true) → exec (.offerTimeout n) s = .next (levelRefresh s)) ∧
    (dormant s c = false → closed s 27 = false →
      let u := ((s.setSrc n { s.src n with offered := none, need := some 1 }).bump .EVT_REOFFERS).setFlags .EVT_STATUS 0 0 2
      exec (.offerTimeout n) s = .next (levelRefresh (occ u 27 0x11 (srcTarget u n % 8))))) ∧
  (∀ (s : State) (n : Nat), ((s.src n).st ≠ .pending ∨ (s.src n).offered = none) → exec (.offerTimeout n) s = .next (levelRefresh s)) ∧
  (∀ (s : State) (c : Nat), c ∉ s.evt.noBuf → exec (.offerNobufRetry c) s = .next (levelRefresh s)) ∧
  (∀ (s : State) (c : Nat), c ∈ s.evt.noBuf → exec (.offerNobufRetry c) s =
    .next (levelRefresh (offerSend { s with evt := { s.evt with noBuf := s.evt.noBuf.filter (· != c) } } c))) ∧
  (∀ (s : State) (who : Who) (w : Word), Reached s who ⟨.EVT_CTX_CMD, 0, 0⟩ → MayWrite s who ⟨.EVT_CTX_CMD, 0, 0⟩ → fld w 3 27 = 0 →
    (fld w 30 2 = 1 → exec (.setDormantHost who w) s = .next (wrote s ⟨.EVT_CTX_CMD, 0, 0⟩ (fun s => setDormHost s (fld w 0 3) true))) ∧
    (fld w 30 2 = 2 → exec (.clearDormantHost who w) s = .next (wrote s ⟨.EVT_CTX_CMD, 0, 0⟩ (fun s => setDormHost s (fld w 0 3) false)))) ∧
  (∀ (s : State) (c : Nat) (b : Bool),
    (setDormHost s c b).evt.dormHost.testBit c = b ∧ (∀ d ≠ c, (setDormHost s c b).evt.dormHost.testBit d = s.evt.dormHost.testBit d) ∧
    (setDormHost s c b).evt.dormLane = s.evt.dormLane ∧
    ∀ n, ((setDormHost s c b).src n).st = (s.src n).st ∧
      (dormant s c = false → (setDormHost s c b).src n = s.src n)) ∧
  (∀ (s : State) (who : Who) (n : Nat) (a w : Word), a.toNat = Reg.key ⟨.EVT_TGT, n, 0⟩ → Reached s who ⟨.EVT_TGT, n, 0⟩ →
    MayWrite s who ⟨.EVT_TGT, n, 0⟩ → exec (.targetWrite who a w) s =
      .next (wrote s ⟨.EVT_TGT, n, 0⟩ (fun u => targetWrite u n (w &&& writeMask u ⟨.EVT_TGT, n, 0⟩)))) ∧
  (∀ (s : State) (n i : Nat) (w : Word),
    (8 * n ≤ i → i < 8 * n + 8 → (s.src i).st = .pending → (s.src i).offered = none → (s.src i).need = none →
      (targetWrite s n w).src i = { s.src i with need := some 0 }) ∧
    ((i < 8 * n ∨ 8 * n + 8 ≤ i ∨ (s.src i).st ≠ .pending ∨ (s.src i).offered ≠ none ∨ (s.src i).need ≠ none) → (targetWrite s n w).src i = s.src i)) ∧
  (∀ (s : State) (who : Who) (w : Word), Reached s who ⟨.EVT_CFG, 0, 0⟩ → MayWrite s who ⟨.EVT_CFG, 0, 0⟩ →
    exec (.deliverEnWrite who w) s = .next (wrote s ⟨.EVT_CFG, 0, 0⟩ (fun u => deliverEnWrite u (w &&& writeMask u ⟨.EVT_CFG, 0, 0⟩)))) ∧
  (∀ (s : State) (w : Word) (n : Nat), tst (s.rw .EVT_CFG) 31 = false → tst w 31 = true → (s.src n).st = .pending →
    (s.src n).offered = none → srcMasked (s.wr .EVT_CFG 0 0 w) n = false → (deliverEnWrite s w).src n = { s.src n with need := some 2 }) ∧
  ∀ (s : State) (w : Word), (tst (s.rw .EVT_CFG) 31 = true ∨ tst w 31 = false) → deliverEnWrite s w = s.wr .EVT_CFG 0 0 w

/-- The counter collector, clears, bandwidth windows and telemetry exports. With block 28 released and its domain awake, the
collector copies the slot's counter into its mirror where the counter's block is present and awake, both of a chained pair, and
moves on, counting a sweep after the last. PCT_CMD clears the counters it names, or every peak. At a window's end each port's
totals are written, its peaks raised and the totals start again. An export counts SEQ and waits for its sweep; one that finds the
previous one still there is skipped, counted and flagged. The sweep that begins next gives its time, and at that sweep's end its records leave (log entry 55); at most 80 of them are one frame, marked
last. What a window or an export of a collector that the host has left asleep does is free (log entry 81). (R401, R403, R406, R407, R408) -/
def Obligations.CountersAndTelemetry : Prop :=
  (∀ s : State, (closed s 28 = true ∨ domOn s 227 = false) → exec .counterSweepSlot s = .next (levelRefresh s)) ∧
  (∀ s : State, closed s 28 = false → domOn s 227 = true →
    let c := s.pct.slot
    let b := if c = 0 then exportBegin s else s
    let take (u : State) : State :=
      let v := { u with pct := { u.pct with slot := (c + 1) % 320 } }
      if c = 319 then exportHand (occ (v.bump .PCT_SWEEPS) 28 0x10 0) else v
    ((counterBlkPresent s (c / 8) = false ∨ countersAwake s (c / 8) = false ∨ pctOdd s c = true) →
      exec .counterSweepSlot s = .next (levelRefresh (take b))) ∧
    (counterBlkPresent s (c / 8) = true → countersAwake s (c / 8) = true → pctOdd s c = false →
      (pctPair s c = false → exec .counterSweepSlot s = .next (levelRefresh (take (mirrorCopy b c)))) ∧
      (pctPair s c = true → exec .counterSweepSlot s = .next (levelRefresh (take (mirrorCopy (mirrorCopy b c) (c + 1))))))) ∧
  (∀ s : State, (s.pct.exp = none → exportBegin s = s ∧ exportHand s = s) ∧
    ∀ x, s.pct.exp = some x →
      (∀ v, x.sweep = some v → exportBegin s = s) ∧
      (x.sweep = none → exportHand s = s ∧ exportBegin s =
        { s with pct := { s.pct with exp := some { x with sweep := some (s.time.now.sec, s.time.now.ns) } } }) ∧
      (∀ v, x.sweep = some v →
        let rs := counterRecords s ++ x.bw
        let u := { s with pct := { s.pct with exp := none } }
        (rs = [] → exportHand s = u) ∧ (rs ≠ [] → rs.length ≤ 80 → exportHand s = telSend u x 0 true rs))) ∧
  (∀ (s : State) (c : Nat), pctBad s c = false → mget 0 (mirrorCopy s c).pct.mir c = mget 0 s.pct.cnt c) ∧
  (∀ (s : State) (who : Who) (w : Word), Reached s who ⟨.PCT_CMD, 0, 0⟩ → MayWrite s who ⟨.PCT_CMD, 0, 0⟩ →
    (fld w 30 2 = 1 → (tst w 23 = true ∨ fld w 24 6 ≤ 39) →
      exec (.clearCounters who w) s = .next (wrote s ⟨.PCT_CMD, 0, 0⟩ (fun s => (cmdCounters w).foldl clearCounter s))) ∧
    (fld w 30 2 = 2 → exec (.clearPeaks who w) s = .next (wrote s ⟨.PCT_CMD, 0, 0⟩ (fun s =>
      (List.range 134).foldl (fun s p => (s.wr .PCT_PEAK_RX p 0 0).wr .PCT_PEAK_TX p 0 0) s)))) ∧
  (∀ (s : State) (c d : Nat),
    (countersAwake s (c / 8) = true → mget 0 (clearCounter s c).pct.cnt c = 0) ∧
    (countersAwake s (c / 8) = false → mget 0 (clearCounter s c).pct.mir c = 0 ∧ c ∈ (clearCounter s c).pct.clearOnWake) ∧
    (d ≠ c → mget 0 (clearCounter s c).pct.cnt d = mget 0 s.pct.cnt d ∧ mget 0 (clearCounter s c).pct.mir d = mget 0 s.pct.mir d)) ∧
  (∀ w : Word, tst w 23 = false → ∀ c, c ∈ cmdCounters w ↔ c / 8 = fld w 24 6 ∧ tst w (c % 8) = true) ∧
  (∀ s : State, (tst (s.rw .PCT_BW_CFG) 31 = false ∨ closed s 28 = true ∨ domOn s 227 = false) → leftAsleep s 227 = false →
    exec .bandwidthWindowEnd s = .next (levelRefresh { s with pct := { s.pct with rx := [], tx := [] } })) ∧
  (∀ s : State, tst (s.rw .PCT_BW_CFG) 31 = true → closed s 28 = false → domOn s 227 = true → windowOk s = true →
    ∃ t, exec .bandwidthWindowEnd s = .next t ∧ t.pct = { s.pct with rx := [], tx := [], winNs := s.time.now.ns } ∧
      ∀ p < 134, t.rw .PCT_BW_RX p = wd (mget 0 s.pct.rx p) ∧ t.rw .PCT_BW_TX p = wd (mget 0 s.pct.tx p) ∧
        t.rn .PCT_PEAK_RX p = max (s.rn .PCT_PEAK_RX p) (wd (mget 0 s.pct.rx p)).toNat ∧
        t.rn .PCT_PEAK_TX p = max (s.rn .PCT_PEAK_TX p) (wd (mget 0 s.pct.tx p)).toNat) ∧
  (∀ (s : State) (b : Bool), (tst (s.rw .PCT_TEL_CFG) 31 = false ∨ closed s 28 = true ∨ domOn s 227 = false) → leftAsleep s 227 = false →
    exec (.telemetryExport b) s = .next (levelRefresh s)) ∧
  ∀ s : State, tst (s.rw .PCT_TEL_CFG) 31 = true → closed s 28 = false → domOn s 227 = true →
    let u := s.wr .PCT_TEL_SEQ 0 0 (wd (s.rn .PCT_TEL_SEQ + 1))
    (∀ b, (b = true ∨ s.pct.exp ≠ none) →
      exec (.telemetryExport b) s = .next (levelRefresh ((u.bump .PCT_TEL_SKIP).setFlags .PCT_STATUS 0 0 2))) ∧
    (s.pct.exp = none → exec (.telemetryExport false) s = .next (levelRefresh
      { u with pct := { s.pct with exp := some { seq := s.rn .PCT_TEL_SEQ, bw := bwRecords s } } }))

/-- The test access port: reset, state moves, capture, shift and update. TRST_N low puts the port in Test-Logic-Reset with IDCODE
selected and no TDO. A rising edge on TCK moves its state by TMS; in Capture-DR with IDCODE selected the data register takes the
identification code (stepping digit plus 1, PART, 0x0C5 and 1), in Shift-DR it shifts one place towards TDO with TDI entering at
its top. A falling edge drives TDO with bit 0 while shifting, latches a boundary-scan register in Update-DR, and takes the new
instruction in Update-IR. Every edge, in every state of the port and at every level of TMS and TDI, completes with the state so
given and nothing else changed; EXTEST and its pulse forms drive the balls at an update. Five rising edges with TMS high reach Test-Logic-Reset. Codes, lengths and captured pins are free
constants (log entry 2). (R457) -/
def Obligations.TestAccessPort : Prop :=
  (∀ (s : State) (r tms tdi : Bool), exec (.tckEdge r tms tdi false) s =
    .next (levelRefresh { s with jtag := { s.jtag with tap := .reset, ir := 1, tdo := none } })) ∧
  (∀ (s : State) (tms tdi : Bool),
    let ir (j : Jtag) : Jtag := { j with tap := tapNext s.jtag.tap tms, ir := if tapNext s.jtag.tap tms = .reset then 1 else s.jtag.ir }
    (s.jtag.tap = .capDr → s.jtag.ir = 1 → exec (.tckEdge true tms tdi true) s =
      .next (levelRefresh { s with jtag := ir { s.jtag with dr := idCode s } })) ∧
    (s.jtag.tap = .shDr → exec (.tckEdge true tms tdi true) s =
      .next (levelRefresh { s with jtag := ir { s.jtag with dr := jtagShift (drLength s.jtag.ir) s.jtag.dr tdi } })) ∧
    (s.jtag.tap = .shIr → exec (.tckEdge true tms tdi true) s =
      .next (levelRefresh { s with jtag := ir { s.jtag with irShift := jtagShift Config.irLength s.jtag.irShift tdi } })) ∧
    (s.jtag.tap ∉ [Tap.capDr, .shDr, .capIr, .shIr] → exec (.tckEdge true tms tdi true) s = .next (levelRefresh { s with jtag := ir s.jtag }))) ∧
  (∀ (s : State) (tms tdi : Bool),
    (s.jtag.tap = .shDr → exec (.tckEdge false tms tdi true) s =
      .next (levelRefresh { s with jtag := { s.jtag with tdo := some (nbit s.jtag.dr 0) } })) ∧
    (s.jtag.tap = .shIr → exec (.tckEdge false tms tdi true) s =
      .next (levelRefresh { s with jtag := { s.jtag with tdo := some (nbit s.jtag.irShift 0) } })) ∧
    (s.jtag.tap ∉ [Tap.updDr, .updIr, .shDr, .shIr] → exec (.tckEdge false tms tdi true) s =
      .next (levelRefresh { s with jtag := { s.jtag with tdo := none } }))) ∧
  (∀ (s : State) (tms tdi : Bool), exec (.tckEdge true tms tdi true) s = .next (levelRefresh { s with
    freeCtr := s.freeCtr + (if s.jtag.tap = .capIr ∨ (s.jtag.tap = .capDr ∧ s.jtag.ir ≠ 1 ∧ jtagScan s.jtag.ir = true) then 1 else 0)
    jtag := { s.jtag with
      tap := tapNext s.jtag.tap tms
      ir := if tapNext s.jtag.tap tms = .reset then 1 else s.jtag.ir
      dr := if s.jtag.tap = .shDr then jtagShift (drLength s.jtag.ir) s.jtag.dr tdi else if s.jtag.tap ≠ .capDr then s.jtag.dr
        else if s.jtag.ir = 1 then idCode s else if jtagScan s.jtag.ir then low Config.bsrLength s.free else 0
      irShift := if s.jtag.tap = .shIr then jtagShift Config.irLength s.jtag.irShift tdi
        else if s.jtag.tap = .capIr then low Config.irLength (s.free / 4 * 4 + 1) else s.jtag.irShift } })) ∧
  (∀ (s : State) (tms tdi : Bool),
    let j := s.jtag
    let ir := if j.tap = .updIr then Config.irSelect j.irShift else j.ir
    let latch := if j.tap = .updDr ∧ jtagScan j.ir = true then j.dr else j.latch
    exec (.tckEdge false tms tdi true) s = .next (levelRefresh { s with
      out := s.out ++ (if (j.tap = .updDr ∨ j.tap = .updIr) ∧ 3 ≤ ir ∧ ir ≤ 5 then [.scan ir latch] else [])
      jtag := { j with
        ir := ir, latch := latch
        tdo := if j.tap = .shDr then some (nbit j.dr 0) else if j.tap = .shIr then some (nbit j.irShift 0) else none } })) ∧
  (∀ t : Tap, tapNext (tapNext (tapNext (tapNext (tapNext t true) true) true) true) true = .reset) ∧
  ∀ s : State, idCode s % 2 = 1 ∧ idCode s / 2 % 2 ^ 11 = 0x0C5 ∧ idCode s / 2 ^ 12 % 2 ^ 16 = fld (devIdent s) 16 16 ∧
    idCode s / 2 ^ 28 = (s.boot.fuses.stepping % 16 + 1) % 16

/-- The twin's roles: heartbeats, silence, claims, takeover, handover and release. A running device toggles HB_OUT and sends
HEARTBEAT on S0 unless HB_STOP stops them. A heartbeat ends its path's silence and the failure; a path's silence is flagged, and
with every enabled path silent the twin has failed. ROLE_CLAIM claims from STANDBY on a trigger with the peer's ball high for 157
ticks; 63 ticks later CLAIM_RESOLVE enters ACTIVE with the peer's ball high, and else gives way as TWIN_ID says. HANDOVER of an
active twin starts RELEASING with a snapshot (how long a trigger lasts: log entry 42); the release ends in STANDBY. A taking-over device polls a shared flash until it is
ready, and resets it once. (R411, R412, R413, R414, R415, R419, R421, R424, R430) -/
def Obligations.TwinRoles : Prop :=
  (∀ s : State, (isRunning s = false ∨ tst (s.rw .TWN_CFG) 28 = true) → exec .pinHeartbeat s = .next (levelRefresh s)) ∧
  (∀ s : State, isRunning s = true → tst (s.rw .TWN_CFG) 28 = false → exec .pinHeartbeat s = .next (levelRefresh
    (occ ({ s with twin := { s.twin with hbOut := !s.twin.hbOut } }.emit (.pin 54 (!s.twin.hbOut) (16 * s.now : Nat))) 39 0x10 0))) ∧
  (∀ s : State, (s.twin.role = .off ∨ tst (s.rw .TWN_CFG) 28 = true ∨ hasTwin s = false) → exec .heartbeatSend s = .next (levelRefresh s)) ∧
  (∀ s : State, s.twin.role ≠ .off → tst (s.rw .TWN_CFG) 28 = false → hasTwin s = true → exec .heartbeatSend s = .next (levelRefresh
    (msgQueue { s with twin := { s.twin with hbSeq := (s.twin.hbSeq + 1) % 65536 } } 0 0 2
      (put 29 3 (roleCode s.twin.role) ||| bitw 28 (twinId s) ||| put 26 2 (devNo s) ||| bitw 25 (!s.twin.pinSilent) |||
        bitw 24 (s.time.servo == .locked) ||| put 0 16 s.twin.hbSeq) (wd s.twin.validSeq) []))) ∧
  (∀ s : State, isRunning s = true → hasTwin s = true → tst (s.rw .TWN_CFG) 27 = true →
    let u := occ s 39 0x11 0
    let v := { u with twin := { u.twin with pinSilent := false, failed := false } }
    exec .hbInEdge s = .next (levelRefresh
      (if s.twin.failed then v.setFlags .TWN_STATUS 0 0 (2 + 4 * b2n s.twin.linkSilent + 8 * b2n false) else v))) ∧
  (∀ s : State, (isRunning s = false ∨ hasTwin s = false ∨ tst (s.rw .TWN_CFG) 27 = false) → exec .hbInEdge s = .next (levelRefresh s)) ∧
  (∀ s : State, isRunning s = true → hasTwin s = true →
    (s.twin.linkSilent = true → exec (.pathSilent false) s = .next (levelRefresh s)) ∧
    (s.twin.linkSilent = false → (s.twin.pinSilent = true ∨ tst (s.rw .TWN_CFG) 27 = false) → exec (.pathSilent false) s =
      .next (levelRefresh ({ s with twin := { s.twin with linkSilent := true, failed := true } }.setFlags .TWN_STATUS 0 0 16))) ∧
    (s.twin.linkSilent = false → s.twin.pinSilent = false → tst (s.rw .TWN_CFG) 27 = true → exec (.pathSilent false) s =
      .next (levelRefresh ({ s with twin := { s.twin with linkSilent := true } }.setFlags .TWN_STATUS 0 0 4))) ∧
    (tst (s.rw .TWN_CFG) 27 = true → s.twin.pinSilent = false → exec (.pathSilent true) s = .next (levelRefresh
      (if s.twin.linkSilent then { s with twin := { s.twin with pinSilent := true, failed := true } }.setFlags .TWN_STATUS 0 0 16
        else { s with twin := { s.twin with pinSilent := true } }.setFlags .TWN_STATUS 0 0 8)))) ∧
  (∀ s : State, s.twin.role = .standby → (s.twin.entry = true ∨ s.twin.failed = true ∨ s.twin.peerRole = 4) → 157 ≤ s.twin.high →
    hasTwin s = true → exec .roleClaim s = .next (levelRefresh { s with twin := { s.twin with
      role := .claiming, claimOut := true, claimTicks := 0, entry := false
      atStart := s.twin.entry && !s.twin.failed && s.twin.peerRole != 4 } })) ∧
  (∀ s : State, (s.twin.role ≠ .standby ∨ s.twin.high < 157 ∨ hasTwin s = false ∨
      (s.twin.entry = false ∧ s.twin.failed = false ∧ s.twin.peerRole ≠ 4)) → exec .roleClaim s = .next (levelRefresh s)) ∧
  (∀ s : State, (s.twin.role ≠ .claiming ∨ s.twin.claimTicks < 63) → exec .claimResolve s = .next (levelRefresh s)) ∧
  (∀ s : State, s.twin.role = .claiming → 63 ≤ s.twin.claimTicks →
    (s.twin.peerClaim = false → exec .claimResolve s = .next (levelRefresh (enterActive s))) ∧
    (s.twin.peerClaim = true → (twinId s = true ∨ 126 ≤ s.twin.claimTicks) → exec .claimResolve s = .next (levelRefresh (dualClaim s))) ∧
    (s.twin.peerClaim = true → twinId s = false → s.twin.claimTicks < 126 → exec .claimResolve s = .next (levelRefresh s))) ∧
  (∀ s : State, (enterActive s).twin.role = .active ∧ (enterActive s).twin.since = some s.mono ∧
    (dualClaim s).twin.role = .standby ∧ (dualClaim s).twin.claimOut = false) ∧
  (∀ (s : State) (who : Who) (w : Word), Reached s who ⟨.TWN_CMD, 0, 0⟩ → MayWrite s who ⟨.TWN_CMD, 0, 0⟩ → fld w 29 3 = 1 →
    (s.twin.role = .active → hasTwin s = true → exec (.handover who w) s = .next (wrote s ⟨.TWN_CMD, 0, 0⟩ (fun u =>
      snapshotTake { u with twin := { u.twin with role := .releasing, taking := false, since := none } }))) ∧
    ((s.twin.role ≠ .active ∨ hasTwin s = false) → exec (.handover who w) s = .next (wrote s ⟨.TWN_CMD, 0, 0⟩ (fun u => u)))) ∧
  (∀ s : State, s.twin.role = .releasing → (∀ m ∈ (s.link 0).msgs, m.kind ≠ 7) → mget false s.time.pps 0 = false → mget false s.time.pps 1 = false →
    s.time.irigBusy = false → exec .roleRelease s = .next (levelRefresh (leaveRole s .standby))) ∧
  (∀ s : State, (s.twin.role ≠ .releasing ∨ s.time.irigBusy = true) → exec .roleRelease s = .next (levelRefresh s)) ∧
  (∀ s : State, s.twin.role = .active → s.twin.taking = true → tst (s.rw .TWN_CFG) 30 = true →
    (s.twin.flashReset = false →
      let u := s.emit (.flash 5 0 [])
      exec (.flashPoll false) s = .next (levelRefresh u) ∧
      exec (.flashPoll true) s = .next (levelRefresh (takeoverDone { u with twin := { s.twin with flashAuth := true } })) ∧
      exec .flashResetTimeout s = .next (levelRefresh ({ s with twin := { s.twin with flashReset := true } }.emit (.flash 6 0 [])))) ∧
    (s.twin.flashReset = true → ∀ r, exec (.flashPoll r) s = .next (levelRefresh (takeoverDone { s with twin := { s.twin with flashAuth := true } })) ∧
      exec .flashResetTimeout s = .next (levelRefresh s))) ∧
  ∀ (s : State) (r : Bool), (s.twin.role ≠ .active ∨ s.twin.taking = false ∨ tst (s.rw .TWN_CFG) 30 = false) →
    exec (.flashPoll r) s = .next (levelRefresh s) ∧ exec .flashResetTimeout s = .next (levelRefresh s)

/-- Snapshots, the self-test, and the operations of the flash. A device that holds the role with S0 up and no snapshot still in
sending takes the next one, due or by SNAP_NOW; else it takes none. A record has 32 words and the host words, and is valid. A
round of the self-test, due or by SELFTEST_NOW, advances its sequence, keeps the error total, and reports what ran and what
passed; without ST_EN it does nothing. A flash command with authority starts its operation with its address and length,
without authority results in 1; its completion stores what was read and its result. (R416, R417, R424, R425, R437) -/
def Obligations.TwinSnapshotsTestsAndFlash : Prop :=
  (∀ s : State, holdsRole s = true → (s.link 0).up = true → closed s 29 = false → (∀ m ∈ (s.link 0).msgs, m.kind ≠ 7) →
    let q := (s.twin.sentSeq + 1) % 2 ^ 32
    let r := snapRecord s q
    exec .snapshotDue s = .next (levelRefresh (snapSend q r.length (r.length + 1) 0 r { s with twin := { s.twin with sentSeq := q } }))) ∧
  (∀ s : State, (holdsRole s = false ∨ (s.link 0).up = false ∨ closed s 29 = true) → exec .snapshotDue s = .next (levelRefresh s)) ∧
  (∀ (s : State) (q : Nat), (snapRecord s q).length = 32 + hostWords s ∧ snapGood (snapRecord s q) = true ∧
    (snapRecord s q).getD 1 0 = wd q) ∧
  (∀ (s : State) (who : Who) (w : Word), Reached s who ⟨.TWN_CMD, 0, 0⟩ → MayWrite s who ⟨.TWN_CMD, 0, 0⟩ → fld w 29 3 = 2 →
    exec (.snapNow who w) s = .next (wrote s ⟨.TWN_CMD, 0, 0⟩ (fun u => snapshotTake u))) ∧
  (∀ (s : State) (m : Measured), (isRunning s = false ∨ tst (s.rw .TWN_ST_CFG) 31 = false) →
    exec (.selftestDue m) s = .next (levelRefresh s)) ∧
  (∀ (s : State) (m : Measured), isRunning s = true → tst (s.rw .TWN_ST_CFG) 31 = true →
    let ran := if holdsRole s then [1, 4, 5, 6, 7] else List.range 8
    let ok := ran.filter (testPass s m)
    ∃ t, exec (.selftestDue m) s = .next t ∧
      t.twin = { s.twin with reportSeq := (s.twin.reportSeq + 1) % 65536, bip := bipTotal s } ∧
      t.rw .TWN_HEALTH 1 = (put 16 16 (sumN (ran.map (fun i => 2 ^ i))) ||| put 0 16 (sumN (ok.map (fun i => 2 ^ i)))) ∧
      t.rw .TWN_STATUS = (if ok.length < ran.length then sqSet (s.rw .TWN_STATUS) 512 else s.rw .TWN_STATUS)) ∧
  (∀ (s : State) (who : Who) (w : Word) (m : Measured), served s who = true → fld w 29 3 = 3 → exec (.selftestNow who w m) s =
    .next (levelRefresh (testFlush (setRes (selftest (occ s 39 0x06 0) m) stOk 0 [])))) ∧
  (∀ (s : State) (who : Who) (w : Word), Reached s who ⟨.TWN_FLASH_CMD, 0, 0⟩ → MayWrite s who ⟨.TWN_FLASH_CMD, 0, 0⟩ →
    s.flash.busy = none →
    let start (op : Nat) (d : State → Bytes) : State := wrote s ⟨.TWN_FLASH_CMD, 0, 0⟩ (fun u =>
      { u with flash := { u.flash with busy := some (op, u.rn .TWN_FLASH_ADDR, fld w 0 9) } }.emit (.flash op (u.rn .TWN_FLASH_ADDR) (d u)))
    (flashAuthority s = true →
      (fld w 28 4 = 1 → exec (.flashRead who w) s = .next (start 1 (fun _ => []))) ∧
      (fld w 28 4 = 2 → exec (.flashProgram who w) s = .next (start 2 (fun u => (flashBuf u).take (fld w 0 9)))) ∧
      (fld w 28 4 = 3 → exec (.flashErase4k who w) s = .next (start 3 (fun _ => []))) ∧
      (fld w 28 4 = 4 → exec (.flashErase64k who w) s = .next (start 4 (fun _ => [])))) ∧
    (flashAuthority s = false → fld w 28 4 = 1 → exec (.flashRead who w) s =
      .next (wrote s ⟨.TWN_FLASH_CMD, 0, 0⟩ (fun u => { u with flash := { u.flash with result := 1 } })))) ∧
  (∀ (s : State) (t : Bool) (d : Bytes), s.flash.busy = none → exec (.flashOpDone t d) s = .next (levelRefresh s)) ∧
  ∀ (s : State) (t : Bool) (d : Bytes) (op a n : Nat), s.flash.busy = some (op, a, n) →
    let u := { s with flash := { busy := none, result := if t then 2 else 0 } }
    ((op ≠ 1 ∨ t = true) → exec (.flashOpDone t d) s = .next (levelRefresh (flashYield u))) ∧
    (op = 1 → t = false → exec (.flashOpDone t d) s = .next (levelRefresh (flashYield
      ((bytesWs 64 (patch (flashBuf s) 0 (d.take n))).zipIdx.foldl (fun s w => s.wr .TWN_FLASH_BUF w.2 0 w.1) u))))

/-- Stitch links: credits, their timeout, and the messages that fall due. A CREDIT block on a link whose lanes are up brings the
link up with full credits, or updates what the far end has freed; waiting messages then leave. A word of an unknown TYPE is an error, and
filler or a SEG word is no CREDIT block. A CREDIT block that leaves tells
what has been taken. Ten microseconds without one take the link down. TIME_SEND queues a TIME message of the last stamps,
LEARN_MESSAGE_DUE one of up to eight notices, IMAGE_ACK_DUE asks for the image while no block has come. A queued message takes the
next number of its kind. (R224, R402, R427, R428, R430, R431, R432, R434) -/
def Obligations.StitchLinks : Prop :=
  (∀ (s : State) (l : Nat) (w : Word), (lanesUp s l = false ∨ closed s (29 + l) = true) →
    exec (.credit l w) s = .next (levelRefresh s) ∧ exec (.creditDue l) s = .next (levelRefresh s)) ∧
  (∀ (s : State) (l : Nat) (w : Word), lanesUp s l = true → closed s (29 + l) = false →
    let u := occ s (29 + l) 0x11 0
    let end_ (v : State) : State :=
      let x := msgFlush l 0 (v.link l).msgs.length v
      if l = 0 then imagePump 16 x else x
    ((fld w 24 8 = 0x78 ∨ fld w 24 8 = 0x1E) → exec (.credit l w) s = .next (levelRefresh u)) ∧
    (fld w 24 8 ≠ 0xB4 → fld w 24 8 ≠ 0x78 → fld w 24 8 ≠ 0x1E →
      exec (.credit l w) s = .next (levelRefresh (u.bump .TWN_SEG_ERR l))) ∧
    (fld w 24 8 = 0xB4 → (s.link l).up = true → exec (.credit l w) s =
      .next (levelRefresh (end_ (u.setLink l { s.link l with freed := fld w 0 16, msgFreed := fld w 16 8 })))) ∧
    (fld w 24 8 = 0xB4 → (s.link l).up = false →
      let v := u.setLink l { s.link l with
        up := true, sent := fld w 0 16, freed := fld w 0 16, msgSent := fld w 16 8, msgFreed := fld w 16 8, tx := [], rx := [], msgs := [] }
      exec (.credit l w) s = .next (levelRefresh (end_ (trigger ((List.range 16).foldl (fun s k => trigger s 2 (186 + k)) v) 2 232)))) ∧
    (let d := ((s.link l).got + 65536 - b9Held s l % 65536) % 65536
     let v := s.setLink l { s.link l with told := d, msgTold := (s.link l).msgGot }
     exec (.creditDue l) s = .next (levelRefresh
       (occ (v.emit (.credit l (put 24 8 0xB4 ||| put 16 8 (s.link l).msgGot ||| put 0 16 d))) (29 + l) 0x10 0)))) ∧
  (∀ (s : State) (l : Nat), exec (.stitchLinkTimeout l) s = .next (levelRefresh (if (s.link l).up then stitchDown s l else s))) ∧
  (∀ (s : State) (l half : Nat), exec (.timeSend l half) s = .next (levelRefresh (msgQueue s l half 3 0 0
    (timeWords ((s.link l).timeTx.head?.map (·.2)) ++ timeWords ((s.link l).timeRx.head?.map (·.2)) ++
      [wd (((s.link l).timeRx.head?.map (·.1)).getD 0)])))) ∧
  (∀ (s : State) (l : Nat), (2 < l ∨ (s.link l).notices = []) → exec (.learnMessageDue l) s = .next (levelRefresh s)) ∧
  (∀ (s : State) (l : Nat), l ≤ 2 → (s.link l).notices ≠ [] →
    let n := (s.link l).notices.take 8
    exec (.learnMessageDue l) s = .next (levelRefresh (msgQueue (s.setLink l { s.link l with notices := (s.link l).notices.drop 8 }) l 0 4
      (put 0 4 n.length) 0 (n.flatMap (fun e => [put 16 12 e.1 ||| put 0 16 (e.2.1 / 2 ^ 32), wd e.2.1, put 0 10 e.2.2]))))) ∧
  (∀ s : State, s.boot.st = .load → bootSrc s = 2 → s.twin.blocksCame = false →
    exec .imageAckDue s = .next (levelRefresh (msgQueue s 0 0 6 0 (put 0 8 1) []))) ∧
  (∀ s : State, (s.boot.st ≠ .load ∨ bootSrc s ≠ 2 ∨ s.twin.blocksCame = true) → exec .imageAckDue s = .next (levelRefresh s)) ∧
  (∀ (s : State) (l half kind : Nat) (a b : Word) (body : List Word), ((s.link l).up = false ∨ closed s (29 + l) = true) →
    msgQueue s l half kind a b body = s) ∧
  ∀ (s : State) (l half kind : Nat) (a b : Word) (body : List Word), (s.link l).up = true → closed s (29 + l) = false →
    mget 0 ((msgQueue s l half kind a b body).link l).seqs kind = (mget 0 (s.link l).seqs kind + 1) % 65536

/-- Segments and messages that arrive over a stitch link. On a link that is up with its block released a segment counts its
blocks. A word of an unknown TYPE is an error, and filler or a CREDIT word is no segment; a data segment begins, continues or ends
the frame of its channel, and is an error where FIRST disagrees with the channel's state or the length is wrong; where the link's FIFO failed within it, FIFO_ERR is set and the frame ends with a code error. A whole message of
20 to 144 bytes with a good check does what its KIND says: a heartbeat of the other TWIN_ID gives the peer's role and ends silence and failure, a TIME
completes a set with the one before it, a LEARN brings requests, an IMAGE_BLOCK or IMAGE_ACK goes on with the passing, a SNAPSHOT
part is kept by a standby, a HEALTH is shown; a bad one is counted. On a link that is down nothing arrives, and a closed block
discards and counts what it would begin. (R412, R413, R417, R420, R425, R426, R427, R429, R430, R431, R432, R434) -/
def Obligations.StitchSegmentsAndMessages : Prop :=
  (∀ (s : State) (l half : Nat) (w : Word) (d : Bytes) (e : Bool), closed s (29 + l) = false → (s.link l).up = false →
    exec (.seg l half w d e) s = .next (levelRefresh s) ∧ exec (.heartbeat l half d) s = .next (levelRefresh s) ∧
    exec (.time l half d) s = .next (levelRefresh s) ∧ exec (.learn l half d) s = .next (levelRefresh s)) ∧
  (∀ (s : State) (l half : Nat) (w : Word) (d : Bytes) (e : Bool), l < 3 → closed s (29 + l) = true →
    (fld w 24 8 = 0x78 → tst w 19 = true → exec (.seg l half w d e) s = .next (levelRefresh (isoDiscard s (29 + l)))) ∧
    ((fld w 24 8 ≠ 0x78 ∨ tst w 19 = false) → exec (.seg l half w d e) s = .next (levelRefresh s)) ∧
    (fld (wordAt d 0) 28 4 = 2 → exec (.heartbeat l half d) s = .next (levelRefresh (isoDiscard s (29 + l))))) ∧
  (∀ (s : State) (l half : Nat) (w : Word) (d : Bytes) (e : Bool), closed s (29 + l) = false → (s.link l).up = true →
    leftAsleep s (224 + l) = false →
    let u := occ s (29 + l) 0x11 0 (1 + ceilDiv (fld w 8 8) 8)
    ((fld w 24 8 = 0xB4 ∨ fld w 24 8 = 0x1E) → exec (.seg l half w d e) s = .next (levelRefresh u)) ∧
    (fld w 24 8 ≠ 0xB4 → fld w 24 8 ≠ 0x78 → fld w 24 8 ≠ 0x1E →
      exec (.seg l half w d e) s = .next (levelRefresh (u.bump .TWN_SEG_ERR l))) ∧
    (fld w 24 8 = 0x78 → fld w 20 4 < 15 → exec (.seg l half w d false) s = .next (levelRefresh (dataSeg u l (fld w 20 4) w d)) ∧
      exec (.seg l half w d true) s = .next (levelRefresh
        (dataSeg (u.setFlags .LN_STATUS ((linkLanes l).headD 32) 0 2) l (fld w 20 4) w d true))) ∧
    (fld w 24 8 = 0x78 → fld w 20 4 = 15 → (tst w 19 = false ∨ tst w 18 = false) → exec (.seg l half w d e) s = .next (levelRefresh
      ((u.setLink l { s.link l with msgGot := ((s.link l).msgGot + 1) % 256 }).bump .TWN_SEG_ERR l)))) ∧
  (∀ (s : State) (l half : Nat) (m : Bytes), closed s (29 + l) = false → (s.link l).up = true → m.length ≤ 144 →
    leftAsleep s (224 + l) = false →
    let x := occ s (29 + l) 0x11 0 (1 + ceilDiv m.length 8)
    let u := x.setLink l { s.link l with msgGot := ((s.link l).msgGot + 1) % 256 }
    let w := wordAt m
    let body := (List.range (m.length / 4 - 5)).map (fun i => w (4 + i))
    let k := fld (w 0) 28 4
    (msgGood l m = false → k = 2 → exec (.heartbeat l half m) s = .next (levelRefresh (u.bump .TWN_MSG_ERR l))) ∧
    (msgGood l m = true →
      (k = 2 → exec (.heartbeat l half m) s = .next (levelRefresh (heartbeatRx u (w 1)))) ∧
      (k = 3 → exec (.time l half m) s = .next (levelRefresh (timeRx u l (s.stamp half) (fld (w 0) 0 16) body))) ∧
      (k = 4 → exec (.learn l half m) s = .next (levelRefresh (learnRx u l (w 1) body))) ∧
      (k = 5 → exec (.imageBlock l half m) s = .next (levelRefresh (imageBlockRx u (w 1).toNat (slice m 16 (4 * (m.length / 4 - 5)))))) ∧
      (k = 6 → exec (.imageAck l half m) s = .next (levelRefresh (imageAckRx u (w 1) (w 2)))) ∧
      (k = 7 → exec (.snapshot l half m) s = .next (levelRefresh (snapshotRx u (w 1) (w 2) body))) ∧
      (k = 8 → exec (.health l half m) s = .next (levelRefresh (healthRx u body))))) ∧
  (∀ (s : State) (a : Word), hasTwin s = true → tst a 28 = !twinId s → ¬ (s.twin.role = .active ∧ fld a 29 3 = 3 ∧ twinId s = true) →
    (heartbeatRx s a).twin = { s.twin with linkSilent := false, failed := false, peerRole := fld a 29 3 }) ∧
  (∀ (s : State) (l ch : Nat) (w : Word) (d : Bytes), (s.link l).up = true →
    let u := s.setLink l { s.link l with got := ((s.link l).got + 1) % 65536 }
    let len := fld w 8 8
    ((144 < len ∨ (len = 0 ∧ ¬ (tst w 18 = true ∧ tst w 17 = true)) ∨ tst w 19 = (mfind (s.link l).rx ch).isSome) →
      dataSeg s l ch w d = chanBad (u.bump .TWN_SEG_ERR l) l ch) ∧
    (0 < len → len ≤ 144 → tst w 19 = false → (mfind (s.link l).rx ch).isSome = true →
      dataSeg s l ch w d = segData u l ch (tst w 18) (tst w 17) (slice d 0 len)) ∧
    (16 ≤ len → len ≤ 144 → tst w 19 = true → mfind (s.link l).rx ch = none →
      crc16 0xFFFF (slice (slice d 0 len) 0 14) = beAt (slice d 0 len) 14 2 → fld (wordAt (slice d 0 len) 0) 28 4 = 1 →
      let r := u.newFrm (stitchFrame u l (slice d 0 len))
      dataSeg s l ch w d = segData (r.1.setLink l { u.link l with rx := mins (u.link l).rx ch (some r.2) }) l ch (tst w 18) (tst w 17)
        ((slice d 0 len).drop 16)) ∧
    (16 ≤ len → len ≤ 144 → tst w 19 = true → tst w 18 = true → mfind (s.link l).rx ch = none →
      crc16 0xFFFF (slice (slice d 0 len) 0 14) ≠ beAt (slice d 0 len) 14 2 → dataSeg s l ch w d = u.bump .TWN_HCRC_ERR l)) ∧
  (∀ (s : State) (l ch id : Nat) (bad : Bool) (d : Bytes) (f : CFrame), mfind (s.link l).rx ch = some (some id) → s.frm id = some f →
    f.ended = false → f.started = false → f.drip = none →
    segData s l ch false bad d = s.setFrm id ({ f with bytes := f.bytes ++ d }.stampCells s.car.slot)) ∧
  (∀ (s : State) (l ch id : Nat) (bad e : Bool) (d : Bytes) (f : CFrame), mfind (s.link l).rx ch = some (some id) → s.frm id = some f →
    f.ended = false → f.started = false → f.drip = none →
    let b := f.bytes ++ d
    let u := s.setFrm id ({ f with bytes := b, codeErr := f.codeErr || e }.stampCells s.car.slot)
    let v := u.setLink l { s.link l with rx := mdel (s.link l).rx ch }
    (bad = true → segData s l ch true bad d e =
      verdictFx (countRxAll (v.bump .TWN_BAD_END l) (130 + l) b.length) id false) ∧
    (bad = false → fcsGood b = true → f.codeErr = false → e = false →
      segData s l ch true bad d e = verdictFx (countRxGood v (130 + l) b) id true) ∧
    (bad = false → (f.codeErr = true ∨ e = true) →
      segData s l ch true bad d e = verdictFx (countRxBad v (130 + l) b.length 19) id false) ∧
    (bad = false → f.codeErr = false → e = false → fcsGood b = false →
      segData s l ch true bad d e = verdictFx (countRxBad v (130 + l) b.length 18) id false)) ∧
  (∀ (s : State) (l t q : Nat) (body : List Word),
    let x := s.link l
    let u := s.setLink l { x with timeRx := (q, t) :: x.timeRx.take 7 }
    (mfind x.timeTx (body.getD 4 0).toNat = none → timeRx s l t q body = u) ∧
    ∀ t1 t2 t3 t4 : Nat, l ≠ 0 → mfind x.timeTx (body.getD 4 0).toNat = some t1 → timeOf u (body.getD 2 0) (body.getD 3 0) = some t2 →
      timeOf u (body.getD 0 0) (body.getD 1 0) = some t3 → mfind x.timeRx ((q + 65535) % 65536) = some t4 →
      timeRx s l t q body = (u.wr .TWN_LINK_OFFSET l 0 (wOfInt ((((t2 : Int) - t1) - ((t4 : Int) - t3)) / 8192))).wr .TWN_LINK_DELAY l 0
        (wOfInt ((((t2 : Int) - t1) + ((t4 : Int) - t3)) / 8192))) ∧
  (∀ (s : State) (l : Nat) (a w0 w1 w2 : Word), fld a 0 4 = 1 → closed s 20 = false → s.tbl.queue.length < 1024 →
    let u := occ s (29 + l) 0x13 0 1
    learnRx s l a [w0, w1, w2] = { u with tbl := { u.tbl with queue := u.tbl.queue ++ [{
      fid := fld w0 16 12, mac := fld w0 0 16 * 2 ^ 32 + w1.toNat, ref := fld w2 0 10, refresh := false, notice := true }] } }) ∧
  (∀ (s : State) (off : Nat) (d : Bytes), ((s.boot.st ≠ .load ∨ bootSrc s ≠ 2) → imageBlockRx s off d = s) ∧
    (s.boot.st = .load → bootSrc s = 2 → off ≠ 0 → off ≠ s.boot.rx.length → imageBlockRx s off d =
      imageAck { s with twin := { s.twin with blocksCame := true } } s.boot.rx.length 1 0)) ∧
  (∀ (s : State) (a b : Word), (isRunning s = false → imageAckRx s a b = s) ∧
    (isRunning s = true → 2 ≤ fld b 0 8 → imageAckRx s a b = { s with twin := { s.twin with image := none } })) ∧
  (∀ (s : State) (a b : Word) (body : List Word), s.twin.role ≠ .standby → s.twin.role ≠ .claiming → snapshotRx s a b body = s) ∧
  (∀ (s : State) (a b : Word) (body : List Word), (s.twin.role = .standby ∨ s.twin.role = .claiming) → fld b 16 15 = 0 →
    body.length < fld b 0 15 → fld b 0 15 ≤ 16384 →
    let k := 16384 * (if s.twin.valid = some 0 then 1 else 0)
    (snapshotRx s a b body).twin = { s.twin with rx := some ⟨a.toNat, fld b 0 15, body.length⟩ } ∧
    ∀ j, (snapshotRx s a b body).ramW j = if k ≤ j ∧ j < k + body.length then body.getD (j - k) 0 else s.ramW j) ∧
  ∀ (s : State) (body : List Word) (k : Nat), k < 8 → k < body.length → (healthRx s body).rw .TWN_PEER_HEALTH k = body.getD k 0
end

