-- ==== Sys2Proof/Laws/Maps.lean ====
section
/-!
SUPPORT. Laws/Maps.lean: reading a sparse map after a write, and its canonical form.
-/
namespace Sys2Proof.Machine

variable {α : Type}

@[simp] theorem mfind_nil (k : Nat) : mfind ([] : List (Nat × α)) k = none := rfl

/-- What an insertion put there is found. -/
theorem mfind_mins_same (m : List (Nat × α)) (k : Nat) (v : α) : mfind (mins m k v) k = some v := by
  induction m with
  | nil => simp [mins, mfind]
  | cons p t ih =>
    obtain ⟨a, x⟩ := p
    simp only [mins]
    split
    · simp [mfind]
    · split
      · simp [mfind]
      · rename_i h1 h2
        simp only [mfind]
        rw [if_neg (fun h => h2 h.symm)]
        exact ih

/-- An insertion leaves the other keys. -/
theorem mfind_mins_ne (m : List (Nat × α)) {k j : Nat} (v : α) (h : j ≠ k) : mfind (mins m k v) j = mfind m j := by
  induction m with
  | nil => simp [mins, mfind, Ne.symm h]
  | cons p t ih =>
    obtain ⟨a, x⟩ := p
    simp only [mins]
    split
    · simp [mfind, Ne.symm h]
    · split
      · rename_i h1 h2
        subst h2
        simp [mfind, Ne.symm h]
      · simp only [mfind, ih]

/-- Nothing is found at a deleted key. -/
theorem mfind_mdel_same (m : List (Nat × α)) (k : Nat) : mfind (mdel m k) k = none := by
  induction m with
  | nil => rfl
  | cons p t ih =>
    obtain ⟨a, x⟩ := p
    simp only [mdel]
    split
    · exact ih
    · rename_i h
      simp only [mfind]
      rw [if_neg h]
      exact ih

/-- A deletion leaves the other keys. -/
theorem mfind_mdel_ne (m : List (Nat × α)) {k j : Nat} (h : j ≠ k) : mfind (mdel m k) j = mfind m j := by
  induction m with
  | nil => rfl
  | cons p t ih =>
    obtain ⟨a, x⟩ := p
    simp only [mdel]
    split
    · rename_i h1
      subst h1
      simp only [mfind, ih]
      rw [if_neg (Ne.symm h)]
    · simp only [mfind, ih]

variable [DecidableEq α]

/-- A read after a write of the same key gives the value written. -/
@[simp] theorem mget_mput_same (d : α) (m : List (Nat × α)) (k : Nat) (v : α) : mget d (mput d m k v) k = v := by
  unfold mput
  split
  · rename_i h
    simp [mget, mfind_mdel_same, h]
  · simp [mget, mfind_mins_same]

/-- A write leaves what every other key reads as. -/
theorem mget_mput_ne (e d : α) (m : List (Nat × α)) {k j : Nat} (v : α) (h : j ≠ k) : mget e (mput d m k v) j = mget e m j := by
  unfold mput
  split
  · simp [mget, mfind_mdel_ne m h]
  · simp [mget, mfind_mins_ne m v h]

/-- A read after a write, both cases. -/
theorem mget_mput (d : α) (m : List (Nat × α)) (k j : Nat) (v : α) :
    mget d (mput d m k v) j = if j = k then v else mget d m j := by
  by_cases h : j = k
  · subst h; simp
  · simp [h, mget_mput_ne d d m v h]

/-- The canonical form, entry by entry: no default, and the rest starts above the first key. -/
theorem mwf_cons (d : α) (a : Nat) (x : α) (t : List (Nat × α)) :
    mwf d ((a, x) :: t) = true ↔ x ≠ d ∧ (∀ p ∈ t.head?, a < p.1) ∧ mwf d t = true := by
  cases t with
  | nil => simp [mwf]
  | cons p t => simp [mwf, and_assoc]

/-- A deletion cannot bring a lower key to the front. -/
theorem mdel_head (d : α) (m : List (Nat × α)) (k lo : Nat) (hm : mwf d m = true) (h : ∀ p ∈ m.head?, lo < p.1) :
    ∀ p ∈ (mdel m k).head?, lo < p.1 := by
  induction m with
  | nil => simp [mdel]
  | cons q t ih =>
    obtain ⟨a, x⟩ := q
    have h0 : lo < a := h (a, x) (by simp)
    obtain ⟨_, h2, h3⟩ := (mwf_cons d a x t).1 hm
    simp only [mdel]
    split
    · exact ih h3 (fun p hp => Nat.lt_trans h0 (h2 p hp))
    · intro p hp
      simp only [List.head?_cons, Option.mem_def, Option.some.injEq] at hp
      subst hp
      exact h0

/-- Deleting keeps the canonical form. -/
theorem mwf_mdel (d : α) (m : List (Nat × α)) (k : Nat) (h : mwf d m = true) : mwf d (mdel m k) = true := by
  induction m with
  | nil => rfl
  | cons q t ih =>
    obtain ⟨a, x⟩ := q
    obtain ⟨h1, h2, h3⟩ := (mwf_cons d a x t).1 h
    simp only [mdel]
    split
    · exact ih h3
    · exact (mwf_cons d a x _).2 ⟨h1, mdel_head d t k a h3 h2, ih h3⟩

/-- Inserting a value that is not the default keeps the canonical form. -/
theorem mwf_mins (d : α) (m : List (Nat × α)) (k : Nat) (v : α) (hv : v ≠ d) (h : mwf d m = true) :
    mwf d (mins m k v) = true := by
  induction m with
  | nil => simp [mins, mwf, hv]
  | cons q t ih =>
    obtain ⟨a, x⟩ := q
    obtain ⟨h1, h2, h3⟩ := (mwf_cons d a x t).1 h
    simp only [mins]
    split
    · rename_i hk
      exact (mwf_cons d k v _).2 ⟨hv, by simpa using hk, h⟩
    · split
      · rename_i _ hk
        subst hk
        exact (mwf_cons d k v _).2 ⟨hv, h2, h3⟩
      · rename_i hk1 hk2
        refine (mwf_cons d a x _).2 ⟨h1, ?_, ih h3⟩
        have hak : a < k := Nat.lt_of_le_of_ne (Nat.le_of_not_lt hk1) (fun e => hk2 e.symm)
        cases t with
        | nil => simpa [mins] using hak
        | cons r u =>
          obtain ⟨b, y⟩ := r
          have hab : a < b := h2 (b, y) (by simp)
          simp only [mins]
          split
          · simpa using hak
          · split
            · simpa using hak
            · simpa using hab

/-- A write keeps the canonical form. -/
theorem mwf_mput (d : α) (m : List (Nat × α)) (k : Nat) (v : α) (h : mwf d m = true) : mwf d (mput d m k v) = true := by
  unfold mput
  split
  · exact mwf_mdel d m k h
  · rename_i hv
    exact mwf_mins d m k v hv h

end Sys2Proof.Machine
end

