-- ==== Sys2Proof/Laws/State.lean ====
section
/-!
SUPPORT. Laws/State.lean: what each named update of State leaves as it was, one lemma for each field, and what it writes.
-/
namespace Sys2Proof.Machine

variable (s : State) (r : Reg) (f : Fam) (i j lo n v : Nat) (w : Word) (ws : List Word) (o : Out) (b : Blk) (m : Mac) (x : LaneS)
  (q : Sch) (c : Chan) (y : SLink) (e : Src) (d : Dom)

@[simp] theorem State.setReg_pending : (s.setReg r w).pending = s.pending := rfl
@[simp] theorem State.setReg_freeCtr : (s.setReg r w).freeCtr = s.freeCtr := rfl
@[simp] theorem State.setReg_opRes : (s.setReg r w).opRes = s.opRes := rfl
@[simp] theorem State.setReg_out : (s.setReg r w).out = s.out := rfl
@[simp] theorem State.setReg_shadows : (s.setReg r w).shadows = s.shadows := rfl
@[simp] theorem State.setReg_boot : (s.setReg r w).boot = s.boot := rfl
@[simp] theorem State.setReg_roast : (s.setReg r w).roast = s.roast := rfl
@[simp] theorem State.setReg_blks : (s.setReg r w).blks = s.blks := rfl
@[simp] theorem State.setReg_hot : (s.setReg r w).hot = s.hot := rfl
@[simp] theorem State.setReg_ctl : (s.setReg r w).ctl = s.ctl := rfl
@[simp] theorem State.setReg_lanes : (s.setReg r w).lanes = s.lanes := rfl
@[simp] theorem State.setReg_macs : (s.setReg r w).macs = s.macs := rfl
@[simp] theorem State.setReg_tbl : (s.setReg r w).tbl = s.tbl := rfl
@[simp] theorem State.setReg_car : (s.setReg r w).car = s.car := rfl
@[simp] theorem State.setReg_schs : (s.setReg r w).schs = s.schs := rfl
@[simp] theorem State.setReg_red : (s.setReg r w).red = s.red := rfl
@[simp] theorem State.setReg_drip : (s.setReg r w).drip = s.drip := rfl
@[simp] theorem State.setReg_time : (s.setReg r w).time = s.time := rfl
@[simp] theorem State.setReg_ept : (s.setReg r w).ept = s.ept := rfl
@[simp] theorem State.setReg_lbm : (s.setReg r w).lbm = s.lbm := rfl
@[simp] theorem State.setReg_chans : (s.setReg r w).chans = s.chans := rfl
@[simp] theorem State.setReg_evt : (s.setReg r w).evt = s.evt := rfl
@[simp] theorem State.setReg_pct : (s.setReg r w).pct = s.pct := rfl
@[simp] theorem State.setReg_links : (s.setReg r w).links = s.links := rfl
@[simp] theorem State.setReg_twin : (s.setReg r w).twin = s.twin := rfl
@[simp] theorem State.setReg_flash : (s.setReg r w).flash = s.flash := rfl
@[simp] theorem State.setReg_temp : (s.setReg r w).temp = s.temp := rfl
@[simp] theorem State.setReg_jtag : (s.setReg r w).jtag = s.jtag := rfl

@[simp] theorem State.wr_pending : (s.wr f i j w).pending = s.pending := rfl
@[simp] theorem State.wr_freeCtr : (s.wr f i j w).freeCtr = s.freeCtr := rfl
@[simp] theorem State.wr_opRes : (s.wr f i j w).opRes = s.opRes := rfl
@[simp] theorem State.wr_out : (s.wr f i j w).out = s.out := rfl
@[simp] theorem State.wr_shadows : (s.wr f i j w).shadows = s.shadows := rfl
@[simp] theorem State.wr_boot : (s.wr f i j w).boot = s.boot := rfl
@[simp] theorem State.wr_roast : (s.wr f i j w).roast = s.roast := rfl
@[simp] theorem State.wr_blks : (s.wr f i j w).blks = s.blks := rfl
@[simp] theorem State.wr_hot : (s.wr f i j w).hot = s.hot := rfl
@[simp] theorem State.wr_ctl : (s.wr f i j w).ctl = s.ctl := rfl
@[simp] theorem State.wr_lanes : (s.wr f i j w).lanes = s.lanes := rfl
@[simp] theorem State.wr_macs : (s.wr f i j w).macs = s.macs := rfl
@[simp] theorem State.wr_tbl : (s.wr f i j w).tbl = s.tbl := rfl
@[simp] theorem State.wr_car : (s.wr f i j w).car = s.car := rfl
@[simp] theorem State.wr_schs : (s.wr f i j w).schs = s.schs := rfl
@[simp] theorem State.wr_red : (s.wr f i j w).red = s.red := rfl
@[simp] theorem State.wr_drip : (s.wr f i j w).drip = s.drip := rfl
@[simp] theorem State.wr_time : (s.wr f i j w).time = s.time := rfl
@[simp] theorem State.wr_ept : (s.wr f i j w).ept = s.ept := rfl
@[simp] theorem State.wr_lbm : (s.wr f i j w).lbm = s.lbm := rfl
@[simp] theorem State.wr_chans : (s.wr f i j w).chans = s.chans := rfl
@[simp] theorem State.wr_evt : (s.wr f i j w).evt = s.evt := rfl
@[simp] theorem State.wr_pct : (s.wr f i j w).pct = s.pct := rfl
@[simp] theorem State.wr_links : (s.wr f i j w).links = s.links := rfl
@[simp] theorem State.wr_twin : (s.wr f i j w).twin = s.twin := rfl
@[simp] theorem State.wr_flash : (s.wr f i j w).flash = s.flash := rfl
@[simp] theorem State.wr_temp : (s.wr f i j w).temp = s.temp := rfl
@[simp] theorem State.wr_jtag : (s.wr f i j w).jtag = s.jtag := rfl

@[simp] theorem State.setShadow_pending : (s.setShadow r w).pending = s.pending := rfl
@[simp] theorem State.setShadow_freeCtr : (s.setShadow r w).freeCtr = s.freeCtr := rfl
@[simp] theorem State.setShadow_opRes : (s.setShadow r w).opRes = s.opRes := rfl
@[simp] theorem State.setShadow_out : (s.setShadow r w).out = s.out := rfl
@[simp] theorem State.setShadow_regs : (s.setShadow r w).regs = s.regs := rfl
@[simp] theorem State.setShadow_boot : (s.setShadow r w).boot = s.boot := rfl
@[simp] theorem State.setShadow_roast : (s.setShadow r w).roast = s.roast := rfl
@[simp] theorem State.setShadow_blks : (s.setShadow r w).blks = s.blks := rfl
@[simp] theorem State.setShadow_hot : (s.setShadow r w).hot = s.hot := rfl
@[simp] theorem State.setShadow_ctl : (s.setShadow r w).ctl = s.ctl := rfl
@[simp] theorem State.setShadow_lanes : (s.setShadow r w).lanes = s.lanes := rfl
@[simp] theorem State.setShadow_macs : (s.setShadow r w).macs = s.macs := rfl
@[simp] theorem State.setShadow_tbl : (s.setShadow r w).tbl = s.tbl := rfl
@[simp] theorem State.setShadow_car : (s.setShadow r w).car = s.car := rfl
@[simp] theorem State.setShadow_schs : (s.setShadow r w).schs = s.schs := rfl
@[simp] theorem State.setShadow_red : (s.setShadow r w).red = s.red := rfl
@[simp] theorem State.setShadow_drip : (s.setShadow r w).drip = s.drip := rfl
@[simp] theorem State.setShadow_time : (s.setShadow r w).time = s.time := rfl
@[simp] theorem State.setShadow_ept : (s.setShadow r w).ept = s.ept := rfl
@[simp] theorem State.setShadow_lbm : (s.setShadow r w).lbm = s.lbm := rfl
@[simp] theorem State.setShadow_chans : (s.setShadow r w).chans = s.chans := rfl
@[simp] theorem State.setShadow_evt : (s.setShadow r w).evt = s.evt := rfl
@[simp] theorem State.setShadow_pct : (s.setShadow r w).pct = s.pct := rfl
@[simp] theorem State.setShadow_links : (s.setShadow r w).links = s.links := rfl
@[simp] theorem State.setShadow_twin : (s.setShadow r w).twin = s.twin := rfl
@[simp] theorem State.setShadow_flash : (s.setShadow r w).flash = s.flash := rfl
@[simp] theorem State.setShadow_temp : (s.setShadow r w).temp = s.temp := rfl
@[simp] theorem State.setShadow_jtag : (s.setShadow r w).jtag = s.jtag := rfl

@[simp] theorem State.hw_pending : (s.hw f i j w).pending = s.pending := rfl
@[simp] theorem State.hw_freeCtr : (s.hw f i j w).freeCtr = s.freeCtr := rfl
@[simp] theorem State.hw_opRes : (s.hw f i j w).opRes = s.opRes := rfl
@[simp] theorem State.hw_out : (s.hw f i j w).out = s.out := rfl
@[simp] theorem State.hw_boot : (s.hw f i j w).boot = s.boot := rfl
@[simp] theorem State.hw_roast : (s.hw f i j w).roast = s.roast := rfl
@[simp] theorem State.hw_blks : (s.hw f i j w).blks = s.blks := rfl
@[simp] theorem State.hw_hot : (s.hw f i j w).hot = s.hot := rfl
@[simp] theorem State.hw_ctl : (s.hw f i j w).ctl = s.ctl := rfl
@[simp] theorem State.hw_lanes : (s.hw f i j w).lanes = s.lanes := rfl
@[simp] theorem State.hw_macs : (s.hw f i j w).macs = s.macs := rfl
@[simp] theorem State.hw_tbl : (s.hw f i j w).tbl = s.tbl := rfl
@[simp] theorem State.hw_car : (s.hw f i j w).car = s.car := rfl
@[simp] theorem State.hw_schs : (s.hw f i j w).schs = s.schs := rfl
@[simp] theorem State.hw_red : (s.hw f i j w).red = s.red := rfl
@[simp] theorem State.hw_drip : (s.hw f i j w).drip = s.drip := rfl
@[simp] theorem State.hw_time : (s.hw f i j w).time = s.time := rfl
@[simp] theorem State.hw_ept : (s.hw f i j w).ept = s.ept := rfl
@[simp] theorem State.hw_lbm : (s.hw f i j w).lbm = s.lbm := rfl
@[simp] theorem State.hw_chans : (s.hw f i j w).chans = s.chans := rfl
@[simp] theorem State.hw_evt : (s.hw f i j w).evt = s.evt := rfl
@[simp] theorem State.hw_pct : (s.hw f i j w).pct = s.pct := rfl
@[simp] theorem State.hw_links : (s.hw f i j w).links = s.links := rfl
@[simp] theorem State.hw_twin : (s.hw f i j w).twin = s.twin := rfl
@[simp] theorem State.hw_flash : (s.hw f i j w).flash = s.flash := rfl
@[simp] theorem State.hw_temp : (s.hw f i j w).temp = s.temp := rfl
@[simp] theorem State.hw_jtag : (s.hw f i j w).jtag = s.jtag := rfl

@[simp] theorem State.hwFld_pending : (s.hwFld f i j lo n v).pending = s.pending := rfl
@[simp] theorem State.hwFld_freeCtr : (s.hwFld f i j lo n v).freeCtr = s.freeCtr := rfl
@[simp] theorem State.hwFld_opRes : (s.hwFld f i j lo n v).opRes = s.opRes := rfl
@[simp] theorem State.hwFld_out : (s.hwFld f i j lo n v).out = s.out := rfl
@[simp] theorem State.hwFld_boot : (s.hwFld f i j lo n v).boot = s.boot := rfl
@[simp] theorem State.hwFld_roast : (s.hwFld f i j lo n v).roast = s.roast := rfl
@[simp] theorem State.hwFld_blks : (s.hwFld f i j lo n v).blks = s.blks := rfl
@[simp] theorem State.hwFld_hot : (s.hwFld f i j lo n v).hot = s.hot := rfl
@[simp] theorem State.hwFld_ctl : (s.hwFld f i j lo n v).ctl = s.ctl := rfl
@[simp] theorem State.hwFld_lanes : (s.hwFld f i j lo n v).lanes = s.lanes := rfl
@[simp] theorem State.hwFld_macs : (s.hwFld f i j lo n v).macs = s.macs := rfl
@[simp] theorem State.hwFld_tbl : (s.hwFld f i j lo n v).tbl = s.tbl := rfl
@[simp] theorem State.hwFld_car : (s.hwFld f i j lo n v).car = s.car := rfl
@[simp] theorem State.hwFld_schs : (s.hwFld f i j lo n v).schs = s.schs := rfl
@[simp] theorem State.hwFld_red : (s.hwFld f i j lo n v).red = s.red := rfl
@[simp] theorem State.hwFld_drip : (s.hwFld f i j lo n v).drip = s.drip := rfl
@[simp] theorem State.hwFld_time : (s.hwFld f i j lo n v).time = s.time := rfl
@[simp] theorem State.hwFld_ept : (s.hwFld f i j lo n v).ept = s.ept := rfl
@[simp] theorem State.hwFld_lbm : (s.hwFld f i j lo n v).lbm = s.lbm := rfl
@[simp] theorem State.hwFld_chans : (s.hwFld f i j lo n v).chans = s.chans := rfl
@[simp] theorem State.hwFld_evt : (s.hwFld f i j lo n v).evt = s.evt := rfl
@[simp] theorem State.hwFld_pct : (s.hwFld f i j lo n v).pct = s.pct := rfl
@[simp] theorem State.hwFld_links : (s.hwFld f i j lo n v).links = s.links := rfl
@[simp] theorem State.hwFld_twin : (s.hwFld f i j lo n v).twin = s.twin := rfl
@[simp] theorem State.hwFld_flash : (s.hwFld f i j lo n v).flash = s.flash := rfl
@[simp] theorem State.hwFld_temp : (s.hwFld f i j lo n v).temp = s.temp := rfl
@[simp] theorem State.hwFld_jtag : (s.hwFld f i j lo n v).jtag = s.jtag := rfl

@[simp] theorem State.bump_pending : (s.bump f i j n).pending = s.pending := rfl
@[simp] theorem State.bump_freeCtr : (s.bump f i j n).freeCtr = s.freeCtr := rfl
@[simp] theorem State.bump_opRes : (s.bump f i j n).opRes = s.opRes := rfl
@[simp] theorem State.bump_out : (s.bump f i j n).out = s.out := rfl
@[simp] theorem State.bump_shadows : (s.bump f i j n).shadows = s.shadows := rfl
@[simp] theorem State.bump_boot : (s.bump f i j n).boot = s.boot := rfl
@[simp] theorem State.bump_roast : (s.bump f i j n).roast = s.roast := rfl
@[simp] theorem State.bump_blks : (s.bump f i j n).blks = s.blks := rfl
@[simp] theorem State.bump_hot : (s.bump f i j n).hot = s.hot := rfl
@[simp] theorem State.bump_ctl : (s.bump f i j n).ctl = s.ctl := rfl
@[simp] theorem State.bump_lanes : (s.bump f i j n).lanes = s.lanes := rfl
@[simp] theorem State.bump_macs : (s.bump f i j n).macs = s.macs := rfl
@[simp] theorem State.bump_tbl : (s.bump f i j n).tbl = s.tbl := rfl
@[simp] theorem State.bump_car : (s.bump f i j n).car = s.car := rfl
@[simp] theorem State.bump_schs : (s.bump f i j n).schs = s.schs := rfl
@[simp] theorem State.bump_red : (s.bump f i j n).red = s.red := rfl
@[simp] theorem State.bump_drip : (s.bump f i j n).drip = s.drip := rfl
@[simp] theorem State.bump_time : (s.bump f i j n).time = s.time := rfl
@[simp] theorem State.bump_ept : (s.bump f i j n).ept = s.ept := rfl
@[simp] theorem State.bump_lbm : (s.bump f i j n).lbm = s.lbm := rfl
@[simp] theorem State.bump_chans : (s.bump f i j n).chans = s.chans := rfl
@[simp] theorem State.bump_evt : (s.bump f i j n).evt = s.evt := rfl
@[simp] theorem State.bump_pct : (s.bump f i j n).pct = s.pct := rfl
@[simp] theorem State.bump_links : (s.bump f i j n).links = s.links := rfl
@[simp] theorem State.bump_twin : (s.bump f i j n).twin = s.twin := rfl
@[simp] theorem State.bump_flash : (s.bump f i j n).flash = s.flash := rfl
@[simp] theorem State.bump_temp : (s.bump f i j n).temp = s.temp := rfl
@[simp] theorem State.bump_jtag : (s.bump f i j n).jtag = s.jtag := rfl

@[simp] theorem State.drawn_pending : (s.drawn).pending = s.pending := rfl
@[simp] theorem State.drawn_opRes : (s.drawn).opRes = s.opRes := rfl
@[simp] theorem State.drawn_out : (s.drawn).out = s.out := rfl
@[simp] theorem State.drawn_regs : (s.drawn).regs = s.regs := rfl
@[simp] theorem State.drawn_shadows : (s.drawn).shadows = s.shadows := rfl
@[simp] theorem State.drawn_boot : (s.drawn).boot = s.boot := rfl
@[simp] theorem State.drawn_roast : (s.drawn).roast = s.roast := rfl
@[simp] theorem State.drawn_blks : (s.drawn).blks = s.blks := rfl
@[simp] theorem State.drawn_hot : (s.drawn).hot = s.hot := rfl
@[simp] theorem State.drawn_ctl : (s.drawn).ctl = s.ctl := rfl
@[simp] theorem State.drawn_lanes : (s.drawn).lanes = s.lanes := rfl
@[simp] theorem State.drawn_macs : (s.drawn).macs = s.macs := rfl
@[simp] theorem State.drawn_tbl : (s.drawn).tbl = s.tbl := rfl
@[simp] theorem State.drawn_car : (s.drawn).car = s.car := rfl
@[simp] theorem State.drawn_schs : (s.drawn).schs = s.schs := rfl
@[simp] theorem State.drawn_red : (s.drawn).red = s.red := rfl
@[simp] theorem State.drawn_drip : (s.drawn).drip = s.drip := rfl
@[simp] theorem State.drawn_time : (s.drawn).time = s.time := rfl
@[simp] theorem State.drawn_ept : (s.drawn).ept = s.ept := rfl
@[simp] theorem State.drawn_lbm : (s.drawn).lbm = s.lbm := rfl
@[simp] theorem State.drawn_chans : (s.drawn).chans = s.chans := rfl
@[simp] theorem State.drawn_evt : (s.drawn).evt = s.evt := rfl
@[simp] theorem State.drawn_pct : (s.drawn).pct = s.pct := rfl
@[simp] theorem State.drawn_links : (s.drawn).links = s.links := rfl
@[simp] theorem State.drawn_twin : (s.drawn).twin = s.twin := rfl
@[simp] theorem State.drawn_flash : (s.drawn).flash = s.flash := rfl
@[simp] theorem State.drawn_temp : (s.drawn).temp = s.temp := rfl
@[simp] theorem State.drawn_jtag : (s.drawn).jtag = s.jtag := rfl

@[simp] theorem State.emit_pending : (s.emit o).pending = s.pending := rfl
@[simp] theorem State.emit_freeCtr : (s.emit o).freeCtr = s.freeCtr := rfl
@[simp] theorem State.emit_opRes : (s.emit o).opRes = s.opRes := rfl
@[simp] theorem State.emit_regs : (s.emit o).regs = s.regs := rfl
@[simp] theorem State.emit_shadows : (s.emit o).shadows = s.shadows := rfl
@[simp] theorem State.emit_boot : (s.emit o).boot = s.boot := rfl
@[simp] theorem State.emit_roast : (s.emit o).roast = s.roast := rfl
@[simp] theorem State.emit_blks : (s.emit o).blks = s.blks := rfl
@[simp] theorem State.emit_hot : (s.emit o).hot = s.hot := rfl
@[simp] theorem State.emit_ctl : (s.emit o).ctl = s.ctl := rfl
@[simp] theorem State.emit_lanes : (s.emit o).lanes = s.lanes := rfl
@[simp] theorem State.emit_macs : (s.emit o).macs = s.macs := rfl
@[simp] theorem State.emit_tbl : (s.emit o).tbl = s.tbl := rfl
@[simp] theorem State.emit_car : (s.emit o).car = s.car := rfl
@[simp] theorem State.emit_schs : (s.emit o).schs = s.schs := rfl
@[simp] theorem State.emit_red : (s.emit o).red = s.red := rfl
@[simp] theorem State.emit_drip : (s.emit o).drip = s.drip := rfl
@[simp] theorem State.emit_time : (s.emit o).time = s.time := rfl
@[simp] theorem State.emit_ept : (s.emit o).ept = s.ept := rfl
@[simp] theorem State.emit_lbm : (s.emit o).lbm = s.lbm := rfl
@[simp] theorem State.emit_chans : (s.emit o).chans = s.chans := rfl
@[simp] theorem State.emit_evt : (s.emit o).evt = s.evt := rfl
@[simp] theorem State.emit_pct : (s.emit o).pct = s.pct := rfl
@[simp] theorem State.emit_links : (s.emit o).links = s.links := rfl
@[simp] theorem State.emit_twin : (s.emit o).twin = s.twin := rfl
@[simp] theorem State.emit_flash : (s.emit o).flash = s.flash := rfl
@[simp] theorem State.emit_temp : (s.emit o).temp = s.temp := rfl
@[simp] theorem State.emit_jtag : (s.emit o).jtag = s.jtag := rfl

@[simp] theorem State.setBlk_pending : (s.setBlk n b).pending = s.pending := rfl
@[simp] theorem State.setBlk_freeCtr : (s.setBlk n b).freeCtr = s.freeCtr := rfl
@[simp] theorem State.setBlk_opRes : (s.setBlk n b).opRes = s.opRes := rfl
@[simp] theorem State.setBlk_out : (s.setBlk n b).out = s.out := rfl
@[simp] theorem State.setBlk_regs : (s.setBlk n b).regs = s.regs := rfl
@[simp] theorem State.setBlk_shadows : (s.setBlk n b).shadows = s.shadows := rfl
@[simp] theorem State.setBlk_boot : (s.setBlk n b).boot = s.boot := rfl
@[simp] theorem State.setBlk_roast : (s.setBlk n b).roast = s.roast := rfl
@[simp] theorem State.setBlk_hot : (s.setBlk n b).hot = s.hot := rfl
@[simp] theorem State.setBlk_ctl : (s.setBlk n b).ctl = s.ctl := rfl
@[simp] theorem State.setBlk_lanes : (s.setBlk n b).lanes = s.lanes := rfl
@[simp] theorem State.setBlk_macs : (s.setBlk n b).macs = s.macs := rfl
@[simp] theorem State.setBlk_tbl : (s.setBlk n b).tbl = s.tbl := rfl
@[simp] theorem State.setBlk_car : (s.setBlk n b).car = s.car := rfl
@[simp] theorem State.setBlk_schs : (s.setBlk n b).schs = s.schs := rfl
@[simp] theorem State.setBlk_red : (s.setBlk n b).red = s.red := rfl
@[simp] theorem State.setBlk_drip : (s.setBlk n b).drip = s.drip := rfl
@[simp] theorem State.setBlk_time : (s.setBlk n b).time = s.time := rfl
@[simp] theorem State.setBlk_ept : (s.setBlk n b).ept = s.ept := rfl
@[simp] theorem State.setBlk_lbm : (s.setBlk n b).lbm = s.lbm := rfl
@[simp] theorem State.setBlk_chans : (s.setBlk n b).chans = s.chans := rfl
@[simp] theorem State.setBlk_evt : (s.setBlk n b).evt = s.evt := rfl
@[simp] theorem State.setBlk_pct : (s.setBlk n b).pct = s.pct := rfl
@[simp] theorem State.setBlk_links : (s.setBlk n b).links = s.links := rfl
@[simp] theorem State.setBlk_twin : (s.setBlk n b).twin = s.twin := rfl
@[simp] theorem State.setBlk_flash : (s.setBlk n b).flash = s.flash := rfl
@[simp] theorem State.setBlk_temp : (s.setBlk n b).temp = s.temp := rfl
@[simp] theorem State.setBlk_jtag : (s.setBlk n b).jtag = s.jtag := rfl

@[simp] theorem State.setMac_pending : (s.setMac n m).pending = s.pending := rfl
@[simp] theorem State.setMac_freeCtr : (s.setMac n m).freeCtr = s.freeCtr := rfl
@[simp] theorem State.setMac_opRes : (s.setMac n m).opRes = s.opRes := rfl
@[simp] theorem State.setMac_out : (s.setMac n m).out = s.out := rfl
@[simp] theorem State.setMac_regs : (s.setMac n m).regs = s.regs := rfl
@[simp] theorem State.setMac_shadows : (s.setMac n m).shadows = s.shadows := rfl
@[simp] theorem State.setMac_boot : (s.setMac n m).boot = s.boot := rfl
@[simp] theorem State.setMac_roast : (s.setMac n m).roast = s.roast := rfl
@[simp] theorem State.setMac_blks : (s.setMac n m).blks = s.blks := rfl
@[simp] theorem State.setMac_hot : (s.setMac n m).hot = s.hot := rfl
@[simp] theorem State.setMac_ctl : (s.setMac n m).ctl = s.ctl := rfl
@[simp] theorem State.setMac_lanes : (s.setMac n m).lanes = s.lanes := rfl
@[simp] theorem State.setMac_tbl : (s.setMac n m).tbl = s.tbl := rfl
@[simp] theorem State.setMac_car : (s.setMac n m).car = s.car := rfl
@[simp] theorem State.setMac_schs : (s.setMac n m).schs = s.schs := rfl
@[simp] theorem State.setMac_red : (s.setMac n m).red = s.red := rfl
@[simp] theorem State.setMac_drip : (s.setMac n m).drip = s.drip := rfl
@[simp] theorem State.setMac_time : (s.setMac n m).time = s.time := rfl
@[simp] theorem State.setMac_ept : (s.setMac n m).ept = s.ept := rfl
@[simp] theorem State.setMac_lbm : (s.setMac n m).lbm = s.lbm := rfl
@[simp] theorem State.setMac_chans : (s.setMac n m).chans = s.chans := rfl
@[simp] theorem State.setMac_evt : (s.setMac n m).evt = s.evt := rfl
@[simp] theorem State.setMac_pct : (s.setMac n m).pct = s.pct := rfl
@[simp] theorem State.setMac_links : (s.setMac n m).links = s.links := rfl
@[simp] theorem State.setMac_twin : (s.setMac n m).twin = s.twin := rfl
@[simp] theorem State.setMac_flash : (s.setMac n m).flash = s.flash := rfl
@[simp] theorem State.setMac_temp : (s.setMac n m).temp = s.temp := rfl
@[simp] theorem State.setMac_jtag : (s.setMac n m).jtag = s.jtag := rfl

@[simp] theorem State.setLane_pending : (s.setLane n x).pending = s.pending := rfl
@[simp] theorem State.setLane_freeCtr : (s.setLane n x).freeCtr = s.freeCtr := rfl
@[simp] theorem State.setLane_opRes : (s.setLane n x).opRes = s.opRes := rfl
@[simp] theorem State.setLane_out : (s.setLane n x).out = s.out := rfl
@[simp] theorem State.setLane_regs : (s.setLane n x).regs = s.regs := rfl
@[simp] theorem State.setLane_shadows : (s.setLane n x).shadows = s.shadows := rfl
@[simp] theorem State.setLane_boot : (s.setLane n x).boot = s.boot := rfl
@[simp] theorem State.setLane_roast : (s.setLane n x).roast = s.roast := rfl
@[simp] theorem State.setLane_blks : (s.setLane n x).blks = s.blks := rfl
@[simp] theorem State.setLane_hot : (s.setLane n x).hot = s.hot := rfl
@[simp] theorem State.setLane_ctl : (s.setLane n x).ctl = s.ctl := rfl
@[simp] theorem State.setLane_macs : (s.setLane n x).macs = s.macs := rfl
@[simp] theorem State.setLane_tbl : (s.setLane n x).tbl = s.tbl := rfl
@[simp] theorem State.setLane_car : (s.setLane n x).car = s.car := rfl
@[simp] theorem State.setLane_schs : (s.setLane n x).schs = s.schs := rfl
@[simp] theorem State.setLane_red : (s.setLane n x).red = s.red := rfl
@[simp] theorem State.setLane_drip : (s.setLane n x).drip = s.drip := rfl
@[simp] theorem State.setLane_time : (s.setLane n x).time = s.time := rfl
@[simp] theorem State.setLane_ept : (s.setLane n x).ept = s.ept := rfl
@[simp] theorem State.setLane_lbm : (s.setLane n x).lbm = s.lbm := rfl
@[simp] theorem State.setLane_chans : (s.setLane n x).chans = s.chans := rfl
@[simp] theorem State.setLane_evt : (s.setLane n x).evt = s.evt := rfl
@[simp] theorem State.setLane_pct : (s.setLane n x).pct = s.pct := rfl
@[simp] theorem State.setLane_links : (s.setLane n x).links = s.links := rfl
@[simp] theorem State.setLane_twin : (s.setLane n x).twin = s.twin := rfl
@[simp] theorem State.setLane_flash : (s.setLane n x).flash = s.flash := rfl
@[simp] theorem State.setLane_temp : (s.setLane n x).temp = s.temp := rfl
@[simp] theorem State.setLane_jtag : (s.setLane n x).jtag = s.jtag := rfl

@[simp] theorem State.setSch_pending : (s.setSch n q).pending = s.pending := rfl
@[simp] theorem State.setSch_freeCtr : (s.setSch n q).freeCtr = s.freeCtr := rfl
@[simp] theorem State.setSch_opRes : (s.setSch n q).opRes = s.opRes := rfl
@[simp] theorem State.setSch_out : (s.setSch n q).out = s.out := rfl
@[simp] theorem State.setSch_regs : (s.setSch n q).regs = s.regs := rfl
@[simp] theorem State.setSch_shadows : (s.setSch n q).shadows = s.shadows := rfl
@[simp] theorem State.setSch_boot : (s.setSch n q).boot = s.boot := rfl
@[simp] theorem State.setSch_roast : (s.setSch n q).roast = s.roast := rfl
@[simp] theorem State.setSch_blks : (s.setSch n q).blks = s.blks := rfl
@[simp] theorem State.setSch_hot : (s.setSch n q).hot = s.hot := rfl
@[simp] theorem State.setSch_ctl : (s.setSch n q).ctl = s.ctl := rfl
@[simp] theorem State.setSch_lanes : (s.setSch n q).lanes = s.lanes := rfl
@[simp] theorem State.setSch_macs : (s.setSch n q).macs = s.macs := rfl
@[simp] theorem State.setSch_tbl : (s.setSch n q).tbl = s.tbl := rfl
@[simp] theorem State.setSch_car : (s.setSch n q).car = s.car := rfl
@[simp] theorem State.setSch_red : (s.setSch n q).red = s.red := rfl
@[simp] theorem State.setSch_drip : (s.setSch n q).drip = s.drip := rfl
@[simp] theorem State.setSch_time : (s.setSch n q).time = s.time := rfl
@[simp] theorem State.setSch_ept : (s.setSch n q).ept = s.ept := rfl
@[simp] theorem State.setSch_lbm : (s.setSch n q).lbm = s.lbm := rfl
@[simp] theorem State.setSch_chans : (s.setSch n q).chans = s.chans := rfl
@[simp] theorem State.setSch_evt : (s.setSch n q).evt = s.evt := rfl
@[simp] theorem State.setSch_pct : (s.setSch n q).pct = s.pct := rfl
@[simp] theorem State.setSch_links : (s.setSch n q).links = s.links := rfl
@[simp] theorem State.setSch_twin : (s.setSch n q).twin = s.twin := rfl
@[simp] theorem State.setSch_flash : (s.setSch n q).flash = s.flash := rfl
@[simp] theorem State.setSch_temp : (s.setSch n q).temp = s.temp := rfl
@[simp] theorem State.setSch_jtag : (s.setSch n q).jtag = s.jtag := rfl

@[simp] theorem State.setChan_pending : (s.setChan n c).pending = s.pending := rfl
@[simp] theorem State.setChan_freeCtr : (s.setChan n c).freeCtr = s.freeCtr := rfl
@[simp] theorem State.setChan_opRes : (s.setChan n c).opRes = s.opRes := rfl
@[simp] theorem State.setChan_out : (s.setChan n c).out = s.out := rfl
@[simp] theorem State.setChan_regs : (s.setChan n c).regs = s.regs := rfl
@[simp] theorem State.setChan_shadows : (s.setChan n c).shadows = s.shadows := rfl
@[simp] theorem State.setChan_boot : (s.setChan n c).boot = s.boot := rfl
@[simp] theorem State.setChan_roast : (s.setChan n c).roast = s.roast := rfl
@[simp] theorem State.setChan_blks : (s.setChan n c).blks = s.blks := rfl
@[simp] theorem State.setChan_hot : (s.setChan n c).hot = s.hot := rfl
@[simp] theorem State.setChan_ctl : (s.setChan n c).ctl = s.ctl := rfl
@[simp] theorem State.setChan_lanes : (s.setChan n c).lanes = s.lanes := rfl
@[simp] theorem State.setChan_macs : (s.setChan n c).macs = s.macs := rfl
@[simp] theorem State.setChan_tbl : (s.setChan n c).tbl = s.tbl := rfl
@[simp] theorem State.setChan_car : (s.setChan n c).car = s.car := rfl
@[simp] theorem State.setChan_schs : (s.setChan n c).schs = s.schs := rfl
@[simp] theorem State.setChan_red : (s.setChan n c).red = s.red := rfl
@[simp] theorem State.setChan_drip : (s.setChan n c).drip = s.drip := rfl
@[simp] theorem State.setChan_time : (s.setChan n c).time = s.time := rfl
@[simp] theorem State.setChan_ept : (s.setChan n c).ept = s.ept := rfl
@[simp] theorem State.setChan_lbm : (s.setChan n c).lbm = s.lbm := rfl
@[simp] theorem State.setChan_evt : (s.setChan n c).evt = s.evt := rfl
@[simp] theorem State.setChan_pct : (s.setChan n c).pct = s.pct := rfl
@[simp] theorem State.setChan_links : (s.setChan n c).links = s.links := rfl
@[simp] theorem State.setChan_twin : (s.setChan n c).twin = s.twin := rfl
@[simp] theorem State.setChan_flash : (s.setChan n c).flash = s.flash := rfl
@[simp] theorem State.setChan_temp : (s.setChan n c).temp = s.temp := rfl
@[simp] theorem State.setChan_jtag : (s.setChan n c).jtag = s.jtag := rfl

@[simp] theorem State.setLink_pending : (s.setLink n y).pending = s.pending := rfl
@[simp] theorem State.setLink_freeCtr : (s.setLink n y).freeCtr = s.freeCtr := rfl
@[simp] theorem State.setLink_opRes : (s.setLink n y).opRes = s.opRes := rfl
@[simp] theorem State.setLink_out : (s.setLink n y).out = s.out := rfl
@[simp] theorem State.setLink_regs : (s.setLink n y).regs = s.regs := rfl
@[simp] theorem State.setLink_shadows : (s.setLink n y).shadows = s.shadows := rfl
@[simp] theorem State.setLink_boot : (s.setLink n y).boot = s.boot := rfl
@[simp] theorem State.setLink_roast : (s.setLink n y).roast = s.roast := rfl
@[simp] theorem State.setLink_blks : (s.setLink n y).blks = s.blks := rfl
@[simp] theorem State.setLink_hot : (s.setLink n y).hot = s.hot := rfl
@[simp] theorem State.setLink_ctl : (s.setLink n y).ctl = s.ctl := rfl
@[simp] theorem State.setLink_lanes : (s.setLink n y).lanes = s.lanes := rfl
@[simp] theorem State.setLink_macs : (s.setLink n y).macs = s.macs := rfl
@[simp] theorem State.setLink_tbl : (s.setLink n y).tbl = s.tbl := rfl
@[simp] theorem State.setLink_car : (s.setLink n y).car = s.car := rfl
@[simp] theorem State.setLink_schs : (s.setLink n y).schs = s.schs := rfl
@[simp] theorem State.setLink_red : (s.setLink n y).red = s.red := rfl
@[simp] theorem State.setLink_drip : (s.setLink n y).drip = s.drip := rfl
@[simp] theorem State.setLink_time : (s.setLink n y).time = s.time := rfl
@[simp] theorem State.setLink_ept : (s.setLink n y).ept = s.ept := rfl
@[simp] theorem State.setLink_lbm : (s.setLink n y).lbm = s.lbm := rfl
@[simp] theorem State.setLink_chans : (s.setLink n y).chans = s.chans := rfl
@[simp] theorem State.setLink_evt : (s.setLink n y).evt = s.evt := rfl
@[simp] theorem State.setLink_pct : (s.setLink n y).pct = s.pct := rfl
@[simp] theorem State.setLink_twin : (s.setLink n y).twin = s.twin := rfl
@[simp] theorem State.setLink_flash : (s.setLink n y).flash = s.flash := rfl
@[simp] theorem State.setLink_temp : (s.setLink n y).temp = s.temp := rfl
@[simp] theorem State.setLink_jtag : (s.setLink n y).jtag = s.jtag := rfl

@[simp] theorem State.setSrc_pending : (s.setSrc n e).pending = s.pending := rfl
@[simp] theorem State.setSrc_freeCtr : (s.setSrc n e).freeCtr = s.freeCtr := rfl
@[simp] theorem State.setSrc_opRes : (s.setSrc n e).opRes = s.opRes := rfl
@[simp] theorem State.setSrc_out : (s.setSrc n e).out = s.out := rfl
@[simp] theorem State.setSrc_regs : (s.setSrc n e).regs = s.regs := rfl
@[simp] theorem State.setSrc_shadows : (s.setSrc n e).shadows = s.shadows := rfl
@[simp] theorem State.setSrc_boot : (s.setSrc n e).boot = s.boot := rfl
@[simp] theorem State.setSrc_roast : (s.setSrc n e).roast = s.roast := rfl
@[simp] theorem State.setSrc_blks : (s.setSrc n e).blks = s.blks := rfl
@[simp] theorem State.setSrc_hot : (s.setSrc n e).hot = s.hot := rfl
@[simp] theorem State.setSrc_ctl : (s.setSrc n e).ctl = s.ctl := rfl
@[simp] theorem State.setSrc_lanes : (s.setSrc n e).lanes = s.lanes := rfl
@[simp] theorem State.setSrc_macs : (s.setSrc n e).macs = s.macs := rfl
@[simp] theorem State.setSrc_tbl : (s.setSrc n e).tbl = s.tbl := rfl
@[simp] theorem State.setSrc_car : (s.setSrc n e).car = s.car := rfl
@[simp] theorem State.setSrc_schs : (s.setSrc n e).schs = s.schs := rfl
@[simp] theorem State.setSrc_red : (s.setSrc n e).red = s.red := rfl
@[simp] theorem State.setSrc_drip : (s.setSrc n e).drip = s.drip := rfl
@[simp] theorem State.setSrc_time : (s.setSrc n e).time = s.time := rfl
@[simp] theorem State.setSrc_ept : (s.setSrc n e).ept = s.ept := rfl
@[simp] theorem State.setSrc_lbm : (s.setSrc n e).lbm = s.lbm := rfl
@[simp] theorem State.setSrc_chans : (s.setSrc n e).chans = s.chans := rfl
@[simp] theorem State.setSrc_pct : (s.setSrc n e).pct = s.pct := rfl
@[simp] theorem State.setSrc_links : (s.setSrc n e).links = s.links := rfl
@[simp] theorem State.setSrc_twin : (s.setSrc n e).twin = s.twin := rfl
@[simp] theorem State.setSrc_flash : (s.setSrc n e).flash = s.flash := rfl
@[simp] theorem State.setSrc_temp : (s.setSrc n e).temp = s.temp := rfl
@[simp] theorem State.setSrc_jtag : (s.setSrc n e).jtag = s.jtag := rfl

@[simp] theorem State.setDom_pending : (s.setDom n d).pending = s.pending := rfl
@[simp] theorem State.setDom_freeCtr : (s.setDom n d).freeCtr = s.freeCtr := rfl
@[simp] theorem State.setDom_opRes : (s.setDom n d).opRes = s.opRes := rfl
@[simp] theorem State.setDom_out : (s.setDom n d).out = s.out := rfl
@[simp] theorem State.setDom_regs : (s.setDom n d).regs = s.regs := rfl
@[simp] theorem State.setDom_shadows : (s.setDom n d).shadows = s.shadows := rfl
@[simp] theorem State.setDom_boot : (s.setDom n d).boot = s.boot := rfl
@[simp] theorem State.setDom_roast : (s.setDom n d).roast = s.roast := rfl
@[simp] theorem State.setDom_blks : (s.setDom n d).blks = s.blks := rfl
@[simp] theorem State.setDom_ctl : (s.setDom n d).ctl = s.ctl := rfl
@[simp] theorem State.setDom_lanes : (s.setDom n d).lanes = s.lanes := rfl
@[simp] theorem State.setDom_macs : (s.setDom n d).macs = s.macs := rfl
@[simp] theorem State.setDom_tbl : (s.setDom n d).tbl = s.tbl := rfl
@[simp] theorem State.setDom_car : (s.setDom n d).car = s.car := rfl
@[simp] theorem State.setDom_schs : (s.setDom n d).schs = s.schs := rfl
@[simp] theorem State.setDom_red : (s.setDom n d).red = s.red := rfl
@[simp] theorem State.setDom_drip : (s.setDom n d).drip = s.drip := rfl
@[simp] theorem State.setDom_time : (s.setDom n d).time = s.time := rfl
@[simp] theorem State.setDom_ept : (s.setDom n d).ept = s.ept := rfl
@[simp] theorem State.setDom_lbm : (s.setDom n d).lbm = s.lbm := rfl
@[simp] theorem State.setDom_chans : (s.setDom n d).chans = s.chans := rfl
@[simp] theorem State.setDom_evt : (s.setDom n d).evt = s.evt := rfl
@[simp] theorem State.setDom_pct : (s.setDom n d).pct = s.pct := rfl
@[simp] theorem State.setDom_links : (s.setDom n d).links = s.links := rfl
@[simp] theorem State.setDom_twin : (s.setDom n d).twin = s.twin := rfl
@[simp] theorem State.setDom_flash : (s.setDom n d).flash = s.flash := rfl
@[simp] theorem State.setDom_temp : (s.setDom n d).temp = s.temp := rfl
@[simp] theorem State.setDom_jtag : (s.setDom n d).jtag = s.jtag := rfl

@[simp] theorem State.setTw_pending : (s.setTw n w).pending = s.pending := rfl
@[simp] theorem State.setTw_freeCtr : (s.setTw n w).freeCtr = s.freeCtr := rfl
@[simp] theorem State.setTw_opRes : (s.setTw n w).opRes = s.opRes := rfl
@[simp] theorem State.setTw_out : (s.setTw n w).out = s.out := rfl
@[simp] theorem State.setTw_regs : (s.setTw n w).regs = s.regs := rfl
@[simp] theorem State.setTw_shadows : (s.setTw n w).shadows = s.shadows := rfl
@[simp] theorem State.setTw_boot : (s.setTw n w).boot = s.boot := rfl
@[simp] theorem State.setTw_roast : (s.setTw n w).roast = s.roast := rfl
@[simp] theorem State.setTw_blks : (s.setTw n w).blks = s.blks := rfl
@[simp] theorem State.setTw_hot : (s.setTw n w).hot = s.hot := rfl
@[simp] theorem State.setTw_ctl : (s.setTw n w).ctl = s.ctl := rfl
@[simp] theorem State.setTw_lanes : (s.setTw n w).lanes = s.lanes := rfl
@[simp] theorem State.setTw_macs : (s.setTw n w).macs = s.macs := rfl
@[simp] theorem State.setTw_car : (s.setTw n w).car = s.car := rfl
@[simp] theorem State.setTw_schs : (s.setTw n w).schs = s.schs := rfl
@[simp] theorem State.setTw_red : (s.setTw n w).red = s.red := rfl
@[simp] theorem State.setTw_drip : (s.setTw n w).drip = s.drip := rfl
@[simp] theorem State.setTw_time : (s.setTw n w).time = s.time := rfl
@[simp] theorem State.setTw_ept : (s.setTw n w).ept = s.ept := rfl
@[simp] theorem State.setTw_lbm : (s.setTw n w).lbm = s.lbm := rfl
@[simp] theorem State.setTw_chans : (s.setTw n w).chans = s.chans := rfl
@[simp] theorem State.setTw_evt : (s.setTw n w).evt = s.evt := rfl
@[simp] theorem State.setTw_pct : (s.setTw n w).pct = s.pct := rfl
@[simp] theorem State.setTw_links : (s.setTw n w).links = s.links := rfl
@[simp] theorem State.setTw_twin : (s.setTw n w).twin = s.twin := rfl
@[simp] theorem State.setTw_flash : (s.setTw n w).flash = s.flash := rfl
@[simp] theorem State.setTw_temp : (s.setTw n w).temp = s.temp := rfl
@[simp] theorem State.setTw_jtag : (s.setTw n w).jtag = s.jtag := rfl

@[simp] theorem State.setRamW_pending : (s.setRamW n w).pending = s.pending := rfl
@[simp] theorem State.setRamW_freeCtr : (s.setRamW n w).freeCtr = s.freeCtr := rfl
@[simp] theorem State.setRamW_opRes : (s.setRamW n w).opRes = s.opRes := rfl
@[simp] theorem State.setRamW_out : (s.setRamW n w).out = s.out := rfl
@[simp] theorem State.setRamW_regs : (s.setRamW n w).regs = s.regs := rfl
@[simp] theorem State.setRamW_shadows : (s.setRamW n w).shadows = s.shadows := rfl
@[simp] theorem State.setRamW_boot : (s.setRamW n w).boot = s.boot := rfl
@[simp] theorem State.setRamW_roast : (s.setRamW n w).roast = s.roast := rfl
@[simp] theorem State.setRamW_blks : (s.setRamW n w).blks = s.blks := rfl
@[simp] theorem State.setRamW_ctl : (s.setRamW n w).ctl = s.ctl := rfl
@[simp] theorem State.setRamW_lanes : (s.setRamW n w).lanes = s.lanes := rfl
@[simp] theorem State.setRamW_macs : (s.setRamW n w).macs = s.macs := rfl
@[simp] theorem State.setRamW_tbl : (s.setRamW n w).tbl = s.tbl := rfl
@[simp] theorem State.setRamW_car : (s.setRamW n w).car = s.car := rfl
@[simp] theorem State.setRamW_schs : (s.setRamW n w).schs = s.schs := rfl
@[simp] theorem State.setRamW_red : (s.setRamW n w).red = s.red := rfl
@[simp] theorem State.setRamW_drip : (s.setRamW n w).drip = s.drip := rfl
@[simp] theorem State.setRamW_time : (s.setRamW n w).time = s.time := rfl
@[simp] theorem State.setRamW_ept : (s.setRamW n w).ept = s.ept := rfl
@[simp] theorem State.setRamW_lbm : (s.setRamW n w).lbm = s.lbm := rfl
@[simp] theorem State.setRamW_chans : (s.setRamW n w).chans = s.chans := rfl
@[simp] theorem State.setRamW_evt : (s.setRamW n w).evt = s.evt := rfl
@[simp] theorem State.setRamW_pct : (s.setRamW n w).pct = s.pct := rfl
@[simp] theorem State.setRamW_links : (s.setRamW n w).links = s.links := rfl
@[simp] theorem State.setRamW_twin : (s.setRamW n w).twin = s.twin := rfl
@[simp] theorem State.setRamW_flash : (s.setRamW n w).flash = s.flash := rfl
@[simp] theorem State.setRamW_temp : (s.setRamW n w).temp = s.temp := rfl
@[simp] theorem State.setRamW_jtag : (s.setRamW n w).jtag = s.jtag := rfl

@[simp] theorem setRes_pending : (setRes s n v ws).pending = s.pending := rfl
@[simp] theorem setRes_freeCtr : (setRes s n v ws).freeCtr = s.freeCtr := rfl
@[simp] theorem setRes_out : (setRes s n v ws).out = s.out := rfl
@[simp] theorem setRes_regs : (setRes s n v ws).regs = s.regs := rfl
@[simp] theorem setRes_shadows : (setRes s n v ws).shadows = s.shadows := rfl
@[simp] theorem setRes_boot : (setRes s n v ws).boot = s.boot := rfl
@[simp] theorem setRes_roast : (setRes s n v ws).roast = s.roast := rfl
@[simp] theorem setRes_blks : (setRes s n v ws).blks = s.blks := rfl
@[simp] theorem setRes_hot : (setRes s n v ws).hot = s.hot := rfl
@[simp] theorem setRes_ctl : (setRes s n v ws).ctl = s.ctl := rfl
@[simp] theorem setRes_lanes : (setRes s n v ws).lanes = s.lanes := rfl
@[simp] theorem setRes_macs : (setRes s n v ws).macs = s.macs := rfl
@[simp] theorem setRes_tbl : (setRes s n v ws).tbl = s.tbl := rfl
@[simp] theorem setRes_car : (setRes s n v ws).car = s.car := rfl
@[simp] theorem setRes_schs : (setRes s n v ws).schs = s.schs := rfl
@[simp] theorem setRes_red : (setRes s n v ws).red = s.red := rfl
@[simp] theorem setRes_drip : (setRes s n v ws).drip = s.drip := rfl
@[simp] theorem setRes_time : (setRes s n v ws).time = s.time := rfl
@[simp] theorem setRes_ept : (setRes s n v ws).ept = s.ept := rfl
@[simp] theorem setRes_lbm : (setRes s n v ws).lbm = s.lbm := rfl
@[simp] theorem setRes_chans : (setRes s n v ws).chans = s.chans := rfl
@[simp] theorem setRes_evt : (setRes s n v ws).evt = s.evt := rfl
@[simp] theorem setRes_pct : (setRes s n v ws).pct = s.pct := rfl
@[simp] theorem setRes_links : (setRes s n v ws).links = s.links := rfl
@[simp] theorem setRes_twin : (setRes s n v ws).twin = s.twin := rfl
@[simp] theorem setRes_flash : (setRes s n v ws).flash = s.flash := rfl
@[simp] theorem setRes_temp : (setRes s n v ws).temp = s.temp := rfl
@[simp] theorem setRes_jtag : (setRes s n v ws).jtag = s.jtag := rfl

@[simp] theorem State.drawn_freeCtr : s.drawn.freeCtr = s.freeCtr + 1 := rfl
@[simp] theorem State.emit_out : (s.emit o).out = s.out ++ [o] := rfl
@[simp] theorem setRes_opRes : (setRes s n v ws).opRes = ⟨n, v, ws⟩ := rfl

end Sys2Proof.Machine
end

