-- ==== Sys2Proof/Laws/Report.lean ====
section
/-!
SUPPORT. Laws/Report.lean: what reporting can do (event edges, sequence-clear flags, performance counters, level sources): it writes
registers, event sources and counters, and nothing else of the state.
-/
namespace Sys2Proof.Machine

/-- A register reads as what was last written to it. -/
@[simp] theorem reg_setReg_same (s : State) (r : Reg) (w : Word) : (s.setReg r w).reg r = w := by
  simp [State.reg, State.setReg]

/-- A register write leaves every register at another key. -/
theorem reg_setReg_ne (s : State) {r q : Reg} (w : Word) (h : q.key ≠ r.key) : (s.setReg r w).reg q = s.reg q := by
  exact mget_mput_ne _ _ _ _ h

/-- The same of a register named by family and indices. -/
@[simp] theorem rw_wr_same (s : State) (f : Fam) (i j : Nat) (w : Word) : (s.wr f i j w).rw f i j = w := by
  simp [State.rw, State.wr]

theorem rw_wr_ne (s : State) {f g : Fam} {i j k l : Nat} (w : Word) (h : Reg.key ⟨g, k, l⟩ ≠ Reg.key ⟨f, i, j⟩) :
    (s.wr f i j w).rw g k l = s.rw g k l := reg_setReg_ne s w h

/-- A memory word reads as what was last written to it, and a write leaves every other word. -/
theorem tw_setTw (s : State) (k j : Nat) (w : Word) : (s.setTw k w).tw j = if j = k then w else s.tw j := by
  simp [State.tw, State.setTw, mget_mput]

theorem ramW_setRamW (s : State) (k j : Nat) (w : Word) : (s.setRamW k w).ramW j = if j = k then w else s.ramW j := by
  simp [State.ramW, State.setRamW, mget_mput]

/-- An event source reads as what was last written to it. -/
theorem src_setSrc (s : State) (k j : Nat) (x : Src) : (s.setSrc k x).src j = if j = k then x else s.src j := by
  simp [State.src, State.setSrc, mget_mput]

theorem blk_setBlk (s : State) (k j : Nat) (x : Blk) : (s.setBlk k x).blk j = if j = k then x else s.blk j := by
  simp [State.blk, State.setBlk, mget_mput]

theorem mac_setMac (s : State) (k j : Nat) (x : Mac) : (s.setMac k x).mac j = if j = k then x else s.mac j := by
  simp [State.mac, State.setMac, mget_mput]

theorem lane_setLane (s : State) (k j : Nat) (x : LaneS) : (s.setLane k x).lane j = if j = k then x else s.lane j := by
  simp [State.lane, State.setLane, mget_mput]

theorem chan_setChan (s : State) (k j : Nat) (x : Chan) : (s.setChan k x).chan j = if j = k then x else s.chan j := by
  simp [State.chan, State.setChan, mget_mput]

theorem link_setLink (s : State) (k j : Nat) (x : SLink) : (s.setLink k x).link j = if j = k then x else s.link j := by
  simp [State.link, State.setLink, mget_mput]

theorem sch_setSch (s : State) (k j : Nat) (x : Sch) : (s.setSch k x).sch j = if j = k then x else s.sch j := by
  simp [State.sch, State.setSch, mget_mput]

/-- `t` is `s` but for registers, event sources and performance counters. -/
def Reports (s t : State) : Prop := t = { s with regs := t.regs, evt := t.evt, pct := t.pct }

theorem Reports.refl (s : State) : Reports s s := rfl

theorem Reports.trans {s t u : State} (h : Reports s t) (g : Reports t u) : Reports s u := by
  unfold Reports at *
  rw [h] at g
  exact g

/-- A fold of steps that only report only reports. -/
theorem Reports.foldl {β : Type} (g : State → β → State) (hg : ∀ s b, Reports s (g s b)) (l : List β) (s : State) :
    Reports s (l.foldl g s) := by
  induction l generalizing s with
  | nil => exact .refl s
  | cons b t ih => exact (hg s b).trans (ih _)

/-- `t` is `s` but for registers and event sources. -/
def Marks (s t : State) : Prop := t = { s with regs := t.regs, evt := t.evt }

theorem Marks.refl (s : State) : Marks s s := rfl

theorem Marks.trans {s t u : State} (h : Marks s t) (g : Marks t u) : Marks s u := by
  unfold Marks at *
  rw [h] at g
  exact g

theorem Marks.foldl {β : Type} (g : State → β → State) (hg : ∀ s b, Marks s (g s b)) (l : List β) (s : State) :
    Marks s (l.foldl g s) := by
  induction l generalizing s with
  | nil => exact .refl s
  | cons b t ih => exact (hg s b).trans (ih _)

theorem raiseEdge_marks (s : State) (n : Nat) : Marks s (raiseEdge s n) := by
  unfold raiseEdge
  split
  · exact .refl s
  · dsimp only
    split <;> rfl

theorem levelStep_marks (s : State) (n : Nat) : Marks s (levelStep s n) := by
  unfold levelStep
  split
  · exact .refl s
  · split <;> rfl

theorem setReg_marks (s : State) (r : Reg) (w : Word) : Marks s (s.setReg r w) := rfl

theorem setFlags_marks (s : State) (f : Fam) (i j m : Nat) : Marks s (s.setFlags f i j m) := by
  unfold State.setFlags
  split
  · exact .refl s
  · exact (setReg_marks s _ _).trans (Marks.foldl _ raiseEdge_marks _ _)

theorem setReg_reports (s : State) (r : Reg) (w : Word) : Reports s (s.setReg r w) := rfl

theorem setPct_reports (s : State) (p : Pct) : Reports s { s with pct := p } := rfl

theorem pend_reports (s : State) (n : Nat) : Reports s (pend s n) := rfl

theorem bump_reports (s : State) (f : Fam) (i j n : Nat) : Reports s (s.bump f i j n) := rfl

theorem raiseEdge_reports (s : State) (n : Nat) : Reports s (raiseEdge s n) := by
  unfold raiseEdge
  split
  · exact .refl s
  · dsimp only
    split <;> rfl

theorem levelStep_reports (s : State) (n : Nat) : Reports s (levelStep s n) := by
  unfold levelStep
  split
  · exact .refl s
  · split <;> rfl

theorem levelRefresh_reports (s : State) : Reports s (levelRefresh s) := Reports.foldl _ levelStep_reports _ s

theorem setFlags_reports (s : State) (f : Fam) (i j m : Nat) : Reports s (s.setFlags f i j m) := by
  unfold State.setFlags
  split
  · exact .refl s
  · exact (setReg_reports s _ _).trans (Reports.foldl _ raiseEdge_reports _ _)

theorem sumN_from (l : List Nat) (a : Nat) : l.foldl (· + ·) a = a + sumN l := by
  unfold sumN
  induction l generalizing a with
  | nil => rfl
  | cons b t ih => rw [List.foldl_cons, List.foldl_cons, ih, ih (0 + b)]; omega

/-- No member of a list exceeds its sum. -/
theorem le_sumN {l : List Nat} {c : Nat} (h : c ∈ l) : c ≤ sumN l := by
  induction l with
  | nil => cases h
  | cons b t ih =>
    have e : sumN (b :: t) = b + sumN t := by
      show t.foldl (· + ·) (0 + b) = _
      rw [sumN_from]; omega
    rcases List.mem_cons.1 h with rfl | h
    · omega
    · have := ih h; omega

/-- One counter's advance changes nothing but counters; what it says has wrapped is the counter itself or its chained neighbour. -/
theorem pctStep_cases (s : State) (c n : Nat) :
    (pctStep s c n).2 = { s with pct := (pctStep s c n).2.pct } ∧
    ∀ k ∈ (pctStep s c n).1, k = c ∨ (k = c + 1 ∧ c % 2 = 0) := by
  unfold pctStep
  dsimp only
  split
  · exact ⟨rfl, by simp⟩
  · split
    · rename_i h
      refine ⟨rfl, fun k hk => ?_⟩
      split at hk
      · cases hk
      · exact .inr ⟨(Option.mem_some.1 hk).symm, h.1⟩
    · exact ⟨rfl, fun k hk => .inl (Option.mem_some.1 hk).symm⟩

/-- Counters that advance together change nothing but counters, and what has wrapped lies among them and their neighbours. -/
theorem pctFold_cases (N : Nat) (cs : List Nat) (hc : ∀ c ∈ cs, c < 2 * N) (a : List Nat × State) (ha : ∀ k ∈ a.1, k < 2 * N) :
    let r := cs.foldl (fun (a : List Nat × State) c => let x := pctStep a.2 c n; (a.1 ++ x.1.toList, x.2)) a
    r.2 = { a.2 with pct := r.2.pct } ∧ ∀ k ∈ r.1, k < 2 * N := by
  induction cs generalizing a with
  | nil => exact ⟨rfl, ha⟩
  | cons c t ih =>
    have h := pctStep_cases a.2 c n
    have g := ih (fun d hd => hc d (List.mem_cons_of_mem _ hd)) (a.1 ++ (pctStep a.2 c n).1.toList, (pctStep a.2 c n).2) (by
      intro k hk
      rcases List.mem_append.1 hk with hk | hk
      · exact ha k hk
      · have := h.2 k (Option.mem_toList.1 hk)
        have := hc c (List.mem_cons_self ..)
        omega)
    simp only [List.foldl_cons]
    refine ⟨?_, g.2⟩
    have e (p : Pct) : { (pctStep a.2 c n).2 with pct := p } = { a.2 with pct := p } := by rw [h.1]
    exact g.1.trans (e _)

theorem pctAdds_reports (s : State) (cs : List Nat) (n : Nat) : Reports s (pctAdds s cs n) := by
  obtain ⟨N, hN⟩ : ∃ N, ∀ c ∈ cs, c < 2 * N := by
    refine ⟨sumN cs + 1, fun c hc => ?_⟩
    have := le_sumN hc
    omega
  have h := (pctFold_cases (n := n) N cs hN ([], s) (by simp)).1
  unfold pctAdds
  dsimp only
  have g : Reports s (cs.foldl (fun (a : List Nat × State) c => let x := pctStep a.2 c n; (a.1 ++ x.1.toList, x.2)) ([], s)).2 := by
    rw [h]
    rfl
  split
  · exact g
  · exact (g.trans (setFlags_reports _ _ _ _ _)).trans (setFlags_reports _ _ _ _ _)

theorem pctAdd_reports (s : State) (c n : Nat) : Reports s (pctAdd s c n) := pctAdds_reports s [c] n

theorem occ_reports (s : State) (b ev sub n : Nat) : Reports s (occ s b ev sub n) := pctAdds_reports s _ n

theorem isoDiscard_reports (s : State) (b n : Nat) : Reports s (isoDiscard s b n) :=
  (bump_reports s _ _ _ _).trans (occ_reports _ _ _ _ _)

theorem isoError_reports (s : State) (b n : Nat) : Reports s (isoError s b n) :=
  (bump_reports s _ _ _ _).trans (occ_reports _ _ _ _ _)

theorem Reports.pending_eq {s t : State} (h : Reports s t) : t.pending = s.pending := by rw [h]
theorem Reports.freeCtr_eq {s t : State} (h : Reports s t) : t.freeCtr = s.freeCtr := by rw [h]
theorem Reports.opRes_eq {s t : State} (h : Reports s t) : t.opRes = s.opRes := by rw [h]
theorem Reports.out_eq {s t : State} (h : Reports s t) : t.out = s.out := by rw [h]
theorem Reports.shadows_eq {s t : State} (h : Reports s t) : t.shadows = s.shadows := by rw [h]
theorem Reports.boot_eq {s t : State} (h : Reports s t) : t.boot = s.boot := by rw [h]
theorem Reports.roast_eq {s t : State} (h : Reports s t) : t.roast = s.roast := by rw [h]
theorem Reports.blks_eq {s t : State} (h : Reports s t) : t.blks = s.blks := by rw [h]
theorem Reports.hot_eq {s t : State} (h : Reports s t) : t.hot = s.hot := by rw [h]
theorem Reports.ctl_eq {s t : State} (h : Reports s t) : t.ctl = s.ctl := by rw [h]
theorem Reports.lanes_eq {s t : State} (h : Reports s t) : t.lanes = s.lanes := by rw [h]
theorem Reports.macs_eq {s t : State} (h : Reports s t) : t.macs = s.macs := by rw [h]
theorem Reports.tbl_eq {s t : State} (h : Reports s t) : t.tbl = s.tbl := by rw [h]
theorem Reports.car_eq {s t : State} (h : Reports s t) : t.car = s.car := by rw [h]
theorem Reports.schs_eq {s t : State} (h : Reports s t) : t.schs = s.schs := by rw [h]
theorem Reports.red_eq {s t : State} (h : Reports s t) : t.red = s.red := by rw [h]
theorem Reports.drip_eq {s t : State} (h : Reports s t) : t.drip = s.drip := by rw [h]
theorem Reports.time_eq {s t : State} (h : Reports s t) : t.time = s.time := by rw [h]
theorem Reports.ept_eq {s t : State} (h : Reports s t) : t.ept = s.ept := by rw [h]
theorem Reports.lbm_eq {s t : State} (h : Reports s t) : t.lbm = s.lbm := by rw [h]
theorem Reports.chans_eq {s t : State} (h : Reports s t) : t.chans = s.chans := by rw [h]
theorem Reports.links_eq {s t : State} (h : Reports s t) : t.links = s.links := by rw [h]
theorem Reports.twin_eq {s t : State} (h : Reports s t) : t.twin = s.twin := by rw [h]
theorem Reports.flash_eq {s t : State} (h : Reports s t) : t.flash = s.flash := by rw [h]
theorem Reports.temp_eq {s t : State} (h : Reports s t) : t.temp = s.temp := by rw [h]
theorem Reports.jtag_eq {s t : State} (h : Reports s t) : t.jtag = s.jtag := by rw [h]

@[simp] theorem raiseEdge_pending (s : State) (n : Nat) : (raiseEdge s n).pending = s.pending := (raiseEdge_reports s n).pending_eq
@[simp] theorem raiseEdge_freeCtr (s : State) (n : Nat) : (raiseEdge s n).freeCtr = s.freeCtr := (raiseEdge_reports s n).freeCtr_eq
@[simp] theorem raiseEdge_opRes (s : State) (n : Nat) : (raiseEdge s n).opRes = s.opRes := (raiseEdge_reports s n).opRes_eq
@[simp] theorem raiseEdge_out (s : State) (n : Nat) : (raiseEdge s n).out = s.out := (raiseEdge_reports s n).out_eq
@[simp] theorem raiseEdge_shadows (s : State) (n : Nat) : (raiseEdge s n).shadows = s.shadows := (raiseEdge_reports s n).shadows_eq
@[simp] theorem raiseEdge_boot (s : State) (n : Nat) : (raiseEdge s n).boot = s.boot := (raiseEdge_reports s n).boot_eq
@[simp] theorem raiseEdge_roast (s : State) (n : Nat) : (raiseEdge s n).roast = s.roast := (raiseEdge_reports s n).roast_eq
@[simp] theorem raiseEdge_blks (s : State) (n : Nat) : (raiseEdge s n).blks = s.blks := (raiseEdge_reports s n).blks_eq
@[simp] theorem raiseEdge_hot (s : State) (n : Nat) : (raiseEdge s n).hot = s.hot := (raiseEdge_reports s n).hot_eq
@[simp] theorem raiseEdge_ctl (s : State) (n : Nat) : (raiseEdge s n).ctl = s.ctl := (raiseEdge_reports s n).ctl_eq
@[simp] theorem raiseEdge_lanes (s : State) (n : Nat) : (raiseEdge s n).lanes = s.lanes := (raiseEdge_reports s n).lanes_eq
@[simp] theorem raiseEdge_macs (s : State) (n : Nat) : (raiseEdge s n).macs = s.macs := (raiseEdge_reports s n).macs_eq
@[simp] theorem raiseEdge_tbl (s : State) (n : Nat) : (raiseEdge s n).tbl = s.tbl := (raiseEdge_reports s n).tbl_eq
@[simp] theorem raiseEdge_car (s : State) (n : Nat) : (raiseEdge s n).car = s.car := (raiseEdge_reports s n).car_eq
@[simp] theorem raiseEdge_schs (s : State) (n : Nat) : (raiseEdge s n).schs = s.schs := (raiseEdge_reports s n).schs_eq
@[simp] theorem raiseEdge_red (s : State) (n : Nat) : (raiseEdge s n).red = s.red := (raiseEdge_reports s n).red_eq
@[simp] theorem raiseEdge_drip (s : State) (n : Nat) : (raiseEdge s n).drip = s.drip := (raiseEdge_reports s n).drip_eq
@[simp] theorem raiseEdge_time (s : State) (n : Nat) : (raiseEdge s n).time = s.time := (raiseEdge_reports s n).time_eq
@[simp] theorem raiseEdge_ept (s : State) (n : Nat) : (raiseEdge s n).ept = s.ept := (raiseEdge_reports s n).ept_eq
@[simp] theorem raiseEdge_lbm (s : State) (n : Nat) : (raiseEdge s n).lbm = s.lbm := (raiseEdge_reports s n).lbm_eq
@[simp] theorem raiseEdge_chans (s : State) (n : Nat) : (raiseEdge s n).chans = s.chans := (raiseEdge_reports s n).chans_eq
@[simp] theorem raiseEdge_links (s : State) (n : Nat) : (raiseEdge s n).links = s.links := (raiseEdge_reports s n).links_eq
@[simp] theorem raiseEdge_twin (s : State) (n : Nat) : (raiseEdge s n).twin = s.twin := (raiseEdge_reports s n).twin_eq
@[simp] theorem raiseEdge_flash (s : State) (n : Nat) : (raiseEdge s n).flash = s.flash := (raiseEdge_reports s n).flash_eq
@[simp] theorem raiseEdge_temp (s : State) (n : Nat) : (raiseEdge s n).temp = s.temp := (raiseEdge_reports s n).temp_eq
@[simp] theorem raiseEdge_jtag (s : State) (n : Nat) : (raiseEdge s n).jtag = s.jtag := (raiseEdge_reports s n).jtag_eq

@[simp] theorem levelRefresh_pending (s : State) : (levelRefresh s).pending = s.pending := (levelRefresh_reports s).pending_eq
@[simp] theorem levelRefresh_freeCtr (s : State) : (levelRefresh s).freeCtr = s.freeCtr := (levelRefresh_reports s).freeCtr_eq
@[simp] theorem levelRefresh_opRes (s : State) : (levelRefresh s).opRes = s.opRes := (levelRefresh_reports s).opRes_eq
@[simp] theorem levelRefresh_out (s : State) : (levelRefresh s).out = s.out := (levelRefresh_reports s).out_eq
@[simp] theorem levelRefresh_shadows (s : State) : (levelRefresh s).shadows = s.shadows := (levelRefresh_reports s).shadows_eq
@[simp] theorem levelRefresh_boot (s : State) : (levelRefresh s).boot = s.boot := (levelRefresh_reports s).boot_eq
@[simp] theorem levelRefresh_roast (s : State) : (levelRefresh s).roast = s.roast := (levelRefresh_reports s).roast_eq
@[simp] theorem levelRefresh_blks (s : State) : (levelRefresh s).blks = s.blks := (levelRefresh_reports s).blks_eq
@[simp] theorem levelRefresh_hot (s : State) : (levelRefresh s).hot = s.hot := (levelRefresh_reports s).hot_eq
@[simp] theorem levelRefresh_ctl (s : State) : (levelRefresh s).ctl = s.ctl := (levelRefresh_reports s).ctl_eq
@[simp] theorem levelRefresh_lanes (s : State) : (levelRefresh s).lanes = s.lanes := (levelRefresh_reports s).lanes_eq
@[simp] theorem levelRefresh_macs (s : State) : (levelRefresh s).macs = s.macs := (levelRefresh_reports s).macs_eq
@[simp] theorem levelRefresh_tbl (s : State) : (levelRefresh s).tbl = s.tbl := (levelRefresh_reports s).tbl_eq
@[simp] theorem levelRefresh_car (s : State) : (levelRefresh s).car = s.car := (levelRefresh_reports s).car_eq
@[simp] theorem levelRefresh_schs (s : State) : (levelRefresh s).schs = s.schs := (levelRefresh_reports s).schs_eq
@[simp] theorem levelRefresh_red (s : State) : (levelRefresh s).red = s.red := (levelRefresh_reports s).red_eq
@[simp] theorem levelRefresh_drip (s : State) : (levelRefresh s).drip = s.drip := (levelRefresh_reports s).drip_eq
@[simp] theorem levelRefresh_time (s : State) : (levelRefresh s).time = s.time := (levelRefresh_reports s).time_eq
@[simp] theorem levelRefresh_ept (s : State) : (levelRefresh s).ept = s.ept := (levelRefresh_reports s).ept_eq
@[simp] theorem levelRefresh_lbm (s : State) : (levelRefresh s).lbm = s.lbm := (levelRefresh_reports s).lbm_eq
@[simp] theorem levelRefresh_chans (s : State) : (levelRefresh s).chans = s.chans := (levelRefresh_reports s).chans_eq
@[simp] theorem levelRefresh_links (s : State) : (levelRefresh s).links = s.links := (levelRefresh_reports s).links_eq
@[simp] theorem levelRefresh_twin (s : State) : (levelRefresh s).twin = s.twin := (levelRefresh_reports s).twin_eq
@[simp] theorem levelRefresh_flash (s : State) : (levelRefresh s).flash = s.flash := (levelRefresh_reports s).flash_eq
@[simp] theorem levelRefresh_temp (s : State) : (levelRefresh s).temp = s.temp := (levelRefresh_reports s).temp_eq
@[simp] theorem levelRefresh_jtag (s : State) : (levelRefresh s).jtag = s.jtag := (levelRefresh_reports s).jtag_eq

@[simp] theorem setFlags_pending (s : State) (f : Fam) (i j m : Nat) : (s.setFlags f i j m).pending = s.pending := (setFlags_reports s f i j m).pending_eq
@[simp] theorem setFlags_freeCtr (s : State) (f : Fam) (i j m : Nat) : (s.setFlags f i j m).freeCtr = s.freeCtr := (setFlags_reports s f i j m).freeCtr_eq
@[simp] theorem setFlags_opRes (s : State) (f : Fam) (i j m : Nat) : (s.setFlags f i j m).opRes = s.opRes := (setFlags_reports s f i j m).opRes_eq
@[simp] theorem setFlags_out (s : State) (f : Fam) (i j m : Nat) : (s.setFlags f i j m).out = s.out := (setFlags_reports s f i j m).out_eq
@[simp] theorem setFlags_shadows (s : State) (f : Fam) (i j m : Nat) : (s.setFlags f i j m).shadows = s.shadows := (setFlags_reports s f i j m).shadows_eq
@[simp] theorem setFlags_boot (s : State) (f : Fam) (i j m : Nat) : (s.setFlags f i j m).boot = s.boot := (setFlags_reports s f i j m).boot_eq
@[simp] theorem setFlags_roast (s : State) (f : Fam) (i j m : Nat) : (s.setFlags f i j m).roast = s.roast := (setFlags_reports s f i j m).roast_eq
@[simp] theorem setFlags_blks (s : State) (f : Fam) (i j m : Nat) : (s.setFlags f i j m).blks = s.blks := (setFlags_reports s f i j m).blks_eq
@[simp] theorem setFlags_hot (s : State) (f : Fam) (i j m : Nat) : (s.setFlags f i j m).hot = s.hot := (setFlags_reports s f i j m).hot_eq
@[simp] theorem setFlags_ctl (s : State) (f : Fam) (i j m : Nat) : (s.setFlags f i j m).ctl = s.ctl := (setFlags_reports s f i j m).ctl_eq
@[simp] theorem setFlags_lanes (s : State) (f : Fam) (i j m : Nat) : (s.setFlags f i j m).lanes = s.lanes := (setFlags_reports s f i j m).lanes_eq
@[simp] theorem setFlags_macs (s : State) (f : Fam) (i j m : Nat) : (s.setFlags f i j m).macs = s.macs := (setFlags_reports s f i j m).macs_eq
@[simp] theorem setFlags_tbl (s : State) (f : Fam) (i j m : Nat) : (s.setFlags f i j m).tbl = s.tbl := (setFlags_reports s f i j m).tbl_eq
@[simp] theorem setFlags_car (s : State) (f : Fam) (i j m : Nat) : (s.setFlags f i j m).car = s.car := (setFlags_reports s f i j m).car_eq
@[simp] theorem setFlags_schs (s : State) (f : Fam) (i j m : Nat) : (s.setFlags f i j m).schs = s.schs := (setFlags_reports s f i j m).schs_eq
@[simp] theorem setFlags_red (s : State) (f : Fam) (i j m : Nat) : (s.setFlags f i j m).red = s.red := (setFlags_reports s f i j m).red_eq
@[simp] theorem setFlags_drip (s : State) (f : Fam) (i j m : Nat) : (s.setFlags f i j m).drip = s.drip := (setFlags_reports s f i j m).drip_eq
@[simp] theorem setFlags_time (s : State) (f : Fam) (i j m : Nat) : (s.setFlags f i j m).time = s.time := (setFlags_reports s f i j m).time_eq
@[simp] theorem setFlags_ept (s : State) (f : Fam) (i j m : Nat) : (s.setFlags f i j m).ept = s.ept := (setFlags_reports s f i j m).ept_eq
@[simp] theorem setFlags_lbm (s : State) (f : Fam) (i j m : Nat) : (s.setFlags f i j m).lbm = s.lbm := (setFlags_reports s f i j m).lbm_eq
@[simp] theorem setFlags_chans (s : State) (f : Fam) (i j m : Nat) : (s.setFlags f i j m).chans = s.chans := (setFlags_reports s f i j m).chans_eq
@[simp] theorem setFlags_links (s : State) (f : Fam) (i j m : Nat) : (s.setFlags f i j m).links = s.links := (setFlags_reports s f i j m).links_eq
@[simp] theorem setFlags_twin (s : State) (f : Fam) (i j m : Nat) : (s.setFlags f i j m).twin = s.twin := (setFlags_reports s f i j m).twin_eq
@[simp] theorem setFlags_flash (s : State) (f : Fam) (i j m : Nat) : (s.setFlags f i j m).flash = s.flash := (setFlags_reports s f i j m).flash_eq
@[simp] theorem setFlags_temp (s : State) (f : Fam) (i j m : Nat) : (s.setFlags f i j m).temp = s.temp := (setFlags_reports s f i j m).temp_eq
@[simp] theorem setFlags_jtag (s : State) (f : Fam) (i j m : Nat) : (s.setFlags f i j m).jtag = s.jtag := (setFlags_reports s f i j m).jtag_eq

@[simp] theorem occ_pending (s : State) (b ev sub n : Nat) : (occ s b ev sub n).pending = s.pending := (occ_reports s b ev sub n).pending_eq
@[simp] theorem occ_freeCtr (s : State) (b ev sub n : Nat) : (occ s b ev sub n).freeCtr = s.freeCtr := (occ_reports s b ev sub n).freeCtr_eq
@[simp] theorem occ_opRes (s : State) (b ev sub n : Nat) : (occ s b ev sub n).opRes = s.opRes := (occ_reports s b ev sub n).opRes_eq
@[simp] theorem occ_out (s : State) (b ev sub n : Nat) : (occ s b ev sub n).out = s.out := (occ_reports s b ev sub n).out_eq
@[simp] theorem occ_shadows (s : State) (b ev sub n : Nat) : (occ s b ev sub n).shadows = s.shadows := (occ_reports s b ev sub n).shadows_eq
@[simp] theorem occ_boot (s : State) (b ev sub n : Nat) : (occ s b ev sub n).boot = s.boot := (occ_reports s b ev sub n).boot_eq
@[simp] theorem occ_roast (s : State) (b ev sub n : Nat) : (occ s b ev sub n).roast = s.roast := (occ_reports s b ev sub n).roast_eq
@[simp] theorem occ_blks (s : State) (b ev sub n : Nat) : (occ s b ev sub n).blks = s.blks := (occ_reports s b ev sub n).blks_eq
@[simp] theorem occ_hot (s : State) (b ev sub n : Nat) : (occ s b ev sub n).hot = s.hot := (occ_reports s b ev sub n).hot_eq
@[simp] theorem occ_ctl (s : State) (b ev sub n : Nat) : (occ s b ev sub n).ctl = s.ctl := (occ_reports s b ev sub n).ctl_eq
@[simp] theorem occ_lanes (s : State) (b ev sub n : Nat) : (occ s b ev sub n).lanes = s.lanes := (occ_reports s b ev sub n).lanes_eq
@[simp] theorem occ_macs (s : State) (b ev sub n : Nat) : (occ s b ev sub n).macs = s.macs := (occ_reports s b ev sub n).macs_eq
@[simp] theorem occ_tbl (s : State) (b ev sub n : Nat) : (occ s b ev sub n).tbl = s.tbl := (occ_reports s b ev sub n).tbl_eq
@[simp] theorem occ_car (s : State) (b ev sub n : Nat) : (occ s b ev sub n).car = s.car := (occ_reports s b ev sub n).car_eq
@[simp] theorem occ_schs (s : State) (b ev sub n : Nat) : (occ s b ev sub n).schs = s.schs := (occ_reports s b ev sub n).schs_eq
@[simp] theorem occ_red (s : State) (b ev sub n : Nat) : (occ s b ev sub n).red = s.red := (occ_reports s b ev sub n).red_eq
@[simp] theorem occ_drip (s : State) (b ev sub n : Nat) : (occ s b ev sub n).drip = s.drip := (occ_reports s b ev sub n).drip_eq
@[simp] theorem occ_time (s : State) (b ev sub n : Nat) : (occ s b ev sub n).time = s.time := (occ_reports s b ev sub n).time_eq
@[simp] theorem occ_ept (s : State) (b ev sub n : Nat) : (occ s b ev sub n).ept = s.ept := (occ_reports s b ev sub n).ept_eq
@[simp] theorem occ_lbm (s : State) (b ev sub n : Nat) : (occ s b ev sub n).lbm = s.lbm := (occ_reports s b ev sub n).lbm_eq
@[simp] theorem occ_chans (s : State) (b ev sub n : Nat) : (occ s b ev sub n).chans = s.chans := (occ_reports s b ev sub n).chans_eq
@[simp] theorem occ_links (s : State) (b ev sub n : Nat) : (occ s b ev sub n).links = s.links := (occ_reports s b ev sub n).links_eq
@[simp] theorem occ_twin (s : State) (b ev sub n : Nat) : (occ s b ev sub n).twin = s.twin := (occ_reports s b ev sub n).twin_eq
@[simp] theorem occ_flash (s : State) (b ev sub n : Nat) : (occ s b ev sub n).flash = s.flash := (occ_reports s b ev sub n).flash_eq
@[simp] theorem occ_temp (s : State) (b ev sub n : Nat) : (occ s b ev sub n).temp = s.temp := (occ_reports s b ev sub n).temp_eq
@[simp] theorem occ_jtag (s : State) (b ev sub n : Nat) : (occ s b ev sub n).jtag = s.jtag := (occ_reports s b ev sub n).jtag_eq

@[simp] theorem isoDiscard_pending (s : State) (b n : Nat) : (isoDiscard s b n).pending = s.pending := (isoDiscard_reports s b n).pending_eq
@[simp] theorem isoDiscard_freeCtr (s : State) (b n : Nat) : (isoDiscard s b n).freeCtr = s.freeCtr := (isoDiscard_reports s b n).freeCtr_eq
@[simp] theorem isoDiscard_opRes (s : State) (b n : Nat) : (isoDiscard s b n).opRes = s.opRes := (isoDiscard_reports s b n).opRes_eq
@[simp] theorem isoDiscard_out (s : State) (b n : Nat) : (isoDiscard s b n).out = s.out := (isoDiscard_reports s b n).out_eq
@[simp] theorem isoDiscard_shadows (s : State) (b n : Nat) : (isoDiscard s b n).shadows = s.shadows := (isoDiscard_reports s b n).shadows_eq
@[simp] theorem isoDiscard_boot (s : State) (b n : Nat) : (isoDiscard s b n).boot = s.boot := (isoDiscard_reports s b n).boot_eq
@[simp] theorem isoDiscard_roast (s : State) (b n : Nat) : (isoDiscard s b n).roast = s.roast := (isoDiscard_reports s b n).roast_eq
@[simp] theorem isoDiscard_blks (s : State) (b n : Nat) : (isoDiscard s b n).blks = s.blks := (isoDiscard_reports s b n).blks_eq
@[simp] theorem isoDiscard_hot (s : State) (b n : Nat) : (isoDiscard s b n).hot = s.hot := (isoDiscard_reports s b n).hot_eq
@[simp] theorem isoDiscard_ctl (s : State) (b n : Nat) : (isoDiscard s b n).ctl = s.ctl := (isoDiscard_reports s b n).ctl_eq
@[simp] theorem isoDiscard_lanes (s : State) (b n : Nat) : (isoDiscard s b n).lanes = s.lanes := (isoDiscard_reports s b n).lanes_eq
@[simp] theorem isoDiscard_macs (s : State) (b n : Nat) : (isoDiscard s b n).macs = s.macs := (isoDiscard_reports s b n).macs_eq
@[simp] theorem isoDiscard_tbl (s : State) (b n : Nat) : (isoDiscard s b n).tbl = s.tbl := (isoDiscard_reports s b n).tbl_eq
@[simp] theorem isoDiscard_car (s : State) (b n : Nat) : (isoDiscard s b n).car = s.car := (isoDiscard_reports s b n).car_eq
@[simp] theorem isoDiscard_schs (s : State) (b n : Nat) : (isoDiscard s b n).schs = s.schs := (isoDiscard_reports s b n).schs_eq
@[simp] theorem isoDiscard_red (s : State) (b n : Nat) : (isoDiscard s b n).red = s.red := (isoDiscard_reports s b n).red_eq
@[simp] theorem isoDiscard_drip (s : State) (b n : Nat) : (isoDiscard s b n).drip = s.drip := (isoDiscard_reports s b n).drip_eq
@[simp] theorem isoDiscard_time (s : State) (b n : Nat) : (isoDiscard s b n).time = s.time := (isoDiscard_reports s b n).time_eq
@[simp] theorem isoDiscard_ept (s : State) (b n : Nat) : (isoDiscard s b n).ept = s.ept := (isoDiscard_reports s b n).ept_eq
@[simp] theorem isoDiscard_lbm (s : State) (b n : Nat) : (isoDiscard s b n).lbm = s.lbm := (isoDiscard_reports s b n).lbm_eq
@[simp] theorem isoDiscard_chans (s : State) (b n : Nat) : (isoDiscard s b n).chans = s.chans := (isoDiscard_reports s b n).chans_eq
@[simp] theorem isoDiscard_links (s : State) (b n : Nat) : (isoDiscard s b n).links = s.links := (isoDiscard_reports s b n).links_eq
@[simp] theorem isoDiscard_twin (s : State) (b n : Nat) : (isoDiscard s b n).twin = s.twin := (isoDiscard_reports s b n).twin_eq
@[simp] theorem isoDiscard_flash (s : State) (b n : Nat) : (isoDiscard s b n).flash = s.flash := (isoDiscard_reports s b n).flash_eq
@[simp] theorem isoDiscard_temp (s : State) (b n : Nat) : (isoDiscard s b n).temp = s.temp := (isoDiscard_reports s b n).temp_eq
@[simp] theorem isoDiscard_jtag (s : State) (b n : Nat) : (isoDiscard s b n).jtag = s.jtag := (isoDiscard_reports s b n).jtag_eq

@[simp] theorem isoError_pending (s : State) (b n : Nat) : (isoError s b n).pending = s.pending := (isoError_reports s b n).pending_eq
@[simp] theorem isoError_freeCtr (s : State) (b n : Nat) : (isoError s b n).freeCtr = s.freeCtr := (isoError_reports s b n).freeCtr_eq
@[simp] theorem isoError_opRes (s : State) (b n : Nat) : (isoError s b n).opRes = s.opRes := (isoError_reports s b n).opRes_eq
@[simp] theorem isoError_out (s : State) (b n : Nat) : (isoError s b n).out = s.out := (isoError_reports s b n).out_eq
@[simp] theorem isoError_shadows (s : State) (b n : Nat) : (isoError s b n).shadows = s.shadows := (isoError_reports s b n).shadows_eq
@[simp] theorem isoError_boot (s : State) (b n : Nat) : (isoError s b n).boot = s.boot := (isoError_reports s b n).boot_eq
@[simp] theorem isoError_roast (s : State) (b n : Nat) : (isoError s b n).roast = s.roast := (isoError_reports s b n).roast_eq
@[simp] theorem isoError_blks (s : State) (b n : Nat) : (isoError s b n).blks = s.blks := (isoError_reports s b n).blks_eq
@[simp] theorem isoError_hot (s : State) (b n : Nat) : (isoError s b n).hot = s.hot := (isoError_reports s b n).hot_eq
@[simp] theorem isoError_ctl (s : State) (b n : Nat) : (isoError s b n).ctl = s.ctl := (isoError_reports s b n).ctl_eq
@[simp] theorem isoError_lanes (s : State) (b n : Nat) : (isoError s b n).lanes = s.lanes := (isoError_reports s b n).lanes_eq
@[simp] theorem isoError_macs (s : State) (b n : Nat) : (isoError s b n).macs = s.macs := (isoError_reports s b n).macs_eq
@[simp] theorem isoError_tbl (s : State) (b n : Nat) : (isoError s b n).tbl = s.tbl := (isoError_reports s b n).tbl_eq
@[simp] theorem isoError_car (s : State) (b n : Nat) : (isoError s b n).car = s.car := (isoError_reports s b n).car_eq
@[simp] theorem isoError_schs (s : State) (b n : Nat) : (isoError s b n).schs = s.schs := (isoError_reports s b n).schs_eq
@[simp] theorem isoError_red (s : State) (b n : Nat) : (isoError s b n).red = s.red := (isoError_reports s b n).red_eq
@[simp] theorem isoError_drip (s : State) (b n : Nat) : (isoError s b n).drip = s.drip := (isoError_reports s b n).drip_eq
@[simp] theorem isoError_time (s : State) (b n : Nat) : (isoError s b n).time = s.time := (isoError_reports s b n).time_eq
@[simp] theorem isoError_ept (s : State) (b n : Nat) : (isoError s b n).ept = s.ept := (isoError_reports s b n).ept_eq
@[simp] theorem isoError_lbm (s : State) (b n : Nat) : (isoError s b n).lbm = s.lbm := (isoError_reports s b n).lbm_eq
@[simp] theorem isoError_chans (s : State) (b n : Nat) : (isoError s b n).chans = s.chans := (isoError_reports s b n).chans_eq
@[simp] theorem isoError_links (s : State) (b n : Nat) : (isoError s b n).links = s.links := (isoError_reports s b n).links_eq
@[simp] theorem isoError_twin (s : State) (b n : Nat) : (isoError s b n).twin = s.twin := (isoError_reports s b n).twin_eq
@[simp] theorem isoError_flash (s : State) (b n : Nat) : (isoError s b n).flash = s.flash := (isoError_reports s b n).flash_eq
@[simp] theorem isoError_temp (s : State) (b n : Nat) : (isoError s b n).temp = s.temp := (isoError_reports s b n).temp_eq
@[simp] theorem isoError_jtag (s : State) (b n : Nat) : (isoError s b n).jtag = s.jtag := (isoError_reports s b n).jtag_eq

end Sys2Proof.Machine
end

