-- ==== Sys2Proof/Laws/Holds.lean ====
section
/-!
SUPPORT. Laws/Holds.lean: what counting the cycles of held blocks can change.
-/
namespace Sys2Proof.Machine

/-- Counting the holds only reports: it touches nothing but counters, their overflow registers and event sources. -/
theorem countHolds_reports (s : State) : Reports s (countHolds s) := by
  refine Reports.foldl _ (fun t x => ?_) _ s
  dsimp only
  split
  · exact pctAdd_reports _ _ _
  · exact Reports.refl _

@[simp] theorem countHolds_hot (s : State) : (countHolds s).hot = s.hot := (countHolds_reports s).hot_eq
@[simp] theorem countHolds_boot (s : State) : (countHolds s).boot = s.boot := (countHolds_reports s).boot_eq
@[simp] theorem countHolds_macs (s : State) : (countHolds s).macs = s.macs := (countHolds_reports s).macs_eq
@[simp] theorem countHolds_pending (s : State) : (countHolds s).pending = s.pending := (countHolds_reports s).pending_eq

end Sys2Proof.Machine
end

