-- ==== Sys2Proof/Laws/Registers.lean ====
section
/-!
SUPPORT. Laws/Registers.lean: which registers and event sources reporting can write.
-/
namespace Sys2Proof.Machine

/-- An edge writes no register. -/
@[simp] theorem raiseEdge_regs (s : State) (n : Nat) : (raiseEdge s n).regs = s.regs := by
  unfold raiseEdge
  split
  · rfl
  · dsimp only
    split <;> rfl

@[simp] theorem raiseEdge_pct (s : State) (n : Nat) : (raiseEdge s n).pct = s.pct := by
  unfold raiseEdge
  split
  · rfl
  · dsimp only
    split <;> rfl

/-- An edge of source `n` leaves every other source. -/
theorem raiseEdge_src_ne (s : State) {n j : Nat} (h : j ≠ n) : (raiseEdge s n).src j = s.src j := by
  unfold raiseEdge
  split
  · rfl
  · dsimp only
    split <;> simp [pend, src_setSrc, h]

/-- Edges of a list of sources write no register and no counter. -/
theorem edges_regs (l : List Nat) (s : State) : (l.foldl raiseEdge s).regs = s.regs := by
  induction l generalizing s with
  | nil => rfl
  | cons a t ih => rw [List.foldl_cons, ih, raiseEdge_regs]

theorem edges_pct (l : List Nat) (s : State) : (l.foldl raiseEdge s).pct = s.pct := by
  induction l generalizing s with
  | nil => rfl
  | cons a t ih => rw [List.foldl_cons, ih, raiseEdge_pct]

/-- Setting flags writes the one register. -/
theorem setFlags_regs (s : State) (f : Fam) (i j m : Nat) (h : m ≠ 0) :
    (s.setFlags f i j m).regs = (s.wr f i j (sqSet (s.rw f i j) m)).regs := by
  simp only [State.setFlags, h, if_false]
  exact edges_regs _ _

@[simp] theorem setFlags_pct (s : State) (f : Fam) (i j m : Nat) : (s.setFlags f i j m).pct = s.pct := by
  unfold State.setFlags
  split
  · rfl
  · exact edges_pct _ _

/-- A register at another key keeps its word when flags are set. -/
theorem setFlags_reg_ne (s : State) {r : Reg} {f : Fam} {i j : Nat} (m : Nat) (h : r.key ≠ Reg.key ⟨f, i, j⟩) :
    (s.setFlags f i j m).reg r = s.reg r := by
  by_cases hm : m = 0
  · simp [State.setFlags, hm]
  · rw [State.reg, setFlags_regs _ _ _ _ _ hm]
    exact reg_setReg_ne s _ h

/-- The register itself takes the flags. -/
theorem setFlags_rw_same (s : State) (f : Fam) (i j m : Nat) (h : m ≠ 0) :
    (s.setFlags f i j m).rw f i j = sqSet (s.rw f i j) m := by
  rw [State.rw, State.reg, setFlags_regs _ _ _ _ _ h]
  exact reg_setReg_same s _ _

/-- Following one level condition writes at most EVT_WITHDRAWN. -/
theorem levelStep_reg (s : State) (n : Nat) {r : Reg} (h : r.key ≠ Reg.key ⟨.EVT_WITHDRAWN, 0, 0⟩) :
    (levelStep s n).reg r = s.reg r := by
  unfold levelStep
  split
  · rfl
  · split
    · rfl
    · exact reg_setReg_ne _ _ h
    · rfl

/-- The end of a command writes at most EVT_WITHDRAWN among the registers. -/
theorem levelRefresh_reg (s : State) {r : Reg} (h : r.key ≠ Reg.key ⟨.EVT_WITHDRAWN, 0, 0⟩) :
    (levelRefresh s).reg r = s.reg r := by
  unfold levelRefresh
  generalize levelSources = l
  induction l generalizing s with
  | nil => rfl
  | cons a t ih => rw [List.foldl_cons, ih, levelStep_reg s a h]

/-- Additions to counters write at most PCT_STATUS and, for the counters `2 * N` lie above, PCT_OVF_n below `N / 12 + 1`. -/
theorem pctAdds_reg (s : State) (cs : List Nat) (n N : Nat) (hc : ∀ c ∈ cs, c < 2 * N) {r : Reg}
    (h : r.key ≠ Reg.key ⟨.PCT_STATUS, 0, 0⟩) (g : ∀ k, 24 * k < 2 * N → r.key ≠ Reg.key ⟨.PCT_OVF, k, 0⟩) :
    (pctAdds s cs n).reg r = s.reg r := by
  have f := pctFold_cases (n := n) N cs hc ([], s) (by simp)
  unfold pctAdds
  dsimp only at f ⊢
  generalize cs.foldl (fun (a : List Nat × State) c => let x := pctStep a.2 c n; (a.1 ++ x.1.toList, x.2)) ([], s) = a at f ⊢
  have e : a.2.reg r = s.reg r := by rw [f.1]; rfl
  split
  · exact e
  · rename_i c t hl
    have := f.2 c (by rw [hl]; exact List.mem_cons_self ..)
    rw [setFlags_reg_ne _ _ h, setFlags_reg_ne _ _ (g _ (by omega)), e]

/-- An addition to a counter of the 40 blocks writes at most PCT_STATUS and PCT_OVF_n among the registers. -/
theorem pctAdd_reg (s : State) (c n : Nat) (hc : c < 320) {r : Reg} (h : r.key ≠ Reg.key ⟨.PCT_STATUS, 0, 0⟩)
    (g : ∀ k < 14, r.key ≠ Reg.key ⟨.PCT_OVF, k, 0⟩) : (pctAdd s c n).reg r = s.reg r :=
  pctAdds_reg s [c] n 160 (by simpa using hc) h (fun k hk => g k (by omega))

/-- Occurrences in a block write at most PCT_STATUS and PCT_OVF_n among the registers, whatever block they name. -/
theorem occ_reg_any (s : State) (b ev sub n : Nat) {r : Reg} (h : r.key ≠ Reg.key ⟨.PCT_STATUS, 0, 0⟩)
    (g : ∀ k, 24 * k < 8 * b + 8 → r.key ≠ Reg.key ⟨.PCT_OVF, k, 0⟩) : (occ s b ev sub n).reg r = s.reg r :=
  pctAdds_reg s _ n (4 * b + 4) (by simp; omega) h (fun k hk => g k (by omega))

/-- Occurrences in one of the 40 blocks write at most PCT_STATUS and PCT_OVF_n among the registers. -/
theorem occ_reg (s : State) (b ev sub n : Nat) (hb : b < 40) {r : Reg} (h : r.key ≠ Reg.key ⟨.PCT_STATUS, 0, 0⟩)
    (g : ∀ k < 14, r.key ≠ Reg.key ⟨.PCT_OVF, k, 0⟩) : (occ s b ev sub n).reg r = s.reg r :=
  occ_reg_any s b ev sub n h (fun k hk => g k (by omega))

end Sys2Proof.Machine
end

