-- ==== Sys2Proof/Laws/HostOps.lean ====
section
/-!
SUPPORT. Laws/HostOps.lean: single operations of a served issuer: that they reach their register, and what the access itself counts.
-/
namespace Sys2Proof.Machine

/-- Reaching a register only counts the access. -/
theorem touched_reports (s : State) (r : Reg) : Reports s (touched s r) := by
  unfold touched
  split
  · exact occ_reports _ _ _ _ _
  · exact .refl s

/-- Reaching a register leaves every register below the counter block. -/
theorem touched_reg (s : State) (r : Reg) {q : Reg} (h : q.key ≠ Reg.key ⟨.PCT_STATUS, 0, 0⟩)
    (g : ∀ k, q.key ≠ Reg.key ⟨.PCT_OVF, k, 0⟩) : (touched s r).reg q = s.reg q := by
  unfold touched
  split
  · exact occ_reg_any _ _ _ _ _ h (fun k _ => g k)
  · rfl

@[simp] theorem closed_touched (s : State) (r : Reg) (b : Nat) : closed (touched s r) b = closed s b := by
  simp only [closed, State.blk, (touched_reports s r).blks_eq]

@[simp] theorem regClosed_touched (s : State) (r q : Reg) : regClosed (touched s r) q = regClosed s q := by
  simp only [regClosed, closed_touched]

@[simp] theorem regAsleep_touched (s : State) (r q : Reg) : regAsleep (touched s r) q = regAsleep s q := by
  simp only [regAsleep, domDown, domOn, State.dom, laneMode, laneRec, State.lane, (touched_reports s r).hot_eq,
    (touched_reports s r).lanes_eq, (touched_reports s r).roast_eq]

@[simp] theorem isGuardReg_touched (s : State) (r q : Reg) : isGuardReg (touched s r) q = isGuardReg s q := by
  simp only [isGuardReg, (touched_reports s r).roast_eq]

@[simp] theorem guardSealed_touched (s : State) (r : Reg) : guardSealed (touched s r) = guardSealed s := by
  simp only [guardSealed, State.rw]
  rw [touched_reg s r (by decide) (fun k => by simp only [Reg.key, Fam.row]; omega)]

/-- A register that is reached is not turned away. -/
theorem turnedAway_none {s : State} {q r : Reg} (h1 : regClosed s r = false) (h2 : regAsleep s r = false) :
    turnedAway (touched s q) r = none := by
  simp [turnedAway, h1, h2]

/-- An issuer that may write a register is not refused. -/
theorem guardJudge_none {s : State} {who : Who} {r q : Reg} (h : MayWrite s who r) :
    guardJudge (touched s q) who (isGuardReg (touched s q) r) = none := by
  unfold guardJudge
  rw [isGuardReg_touched, guardSealed_touched]
  rcases h with h | ⟨h1, h2⟩
  · simp [h]
  · simp [h1, h2]

/-- A permitted write of a register that is reached and is no window does what its access type says, and nothing else. -/
theorem writeOp_reached {s : State} {who : Who} {r : Reg} {w : Word} (h : Reached s who r) (hm : MayWrite s who r)
    (hw : windowAddr r.f = none) :
    commit (writeOp s who r.key w) = .next (wrote s r (fun s => regWrite s who.ctx r w false)) := by
  obtain ⟨h1, h2, h3, h4⟩ := h
  simp only [commit, writeOp, hostOp, h1, if_true, doneRes, hostWrite, h2, accWrite, guardJudge_none hm, turnedAway_none h3 h4, hw, wrote]

/-- A write-action register is no guard register. -/
theorem isGuardReg_wa (s : State) {r : Reg} (h : r.f.row.acc = .wa) : isGuardReg s r = false := by
  simp [isGuardReg, h]

end Sys2Proof.Machine
end

