-- ==== Sys2Proof/Machine/Pins.lean ====
section
/-!
DEFINITION. Machine/Pins.lean: what the device drives on each CMOS ball (04_startup_reset.md R87, R91, R105;
03_roast_image.md R73; 19_electrical.md R455).
-/
namespace Sys2Proof.Machine

/-- What a ball shows: nothing driven, beside its pull; a level; the traffic of its interface; or the last level it had. -/
inductive Drv where
  | hiz | low | high | active | hold
deriving DecidableEq, Repr

/-- The pins section has been applied (R87). -/
def pinsApplied (s : State) : Bool := s.boot.st == .running || (s.boot.st == .apply && s.boot.applied)

/-- The record of a pin in the pins section (R73). -/
def pinRec (s : State) (pin : Nat) : Option Word := s.roast.pins.find? (fun w => fld w 22 10 == pin)

/-- FUNC of a pin (R73): 0 for one without a record. -/
def pinFunc (s : State) (pin : Nat) : Nat := (pinRec s pin).elim 0 (fun w => fld w 18 4)

/-- The pull of a ball. -/
inductive Pull where
  | none | down | up
deriving DecidableEq, Repr

/-- The reset-state pull of a pin (R455). -/
def resetPull (pin : Nat) : Pull :=
  if pin = 53 ∨ (62 ≤ pin ∧ pin < 66) ∨ (67 ≤ pin ∧ pin < 72) ∨ pin = 82 ∨ pin = 83 then .up
  else if pin = 52 ∨ (72 ≤ pin ∧ pin < 80) then .none
  else .down

/-- The drive strength of a ball in mA (R450): DRIVE codes 0 to 3 select 2, 4, 8 and 12 mA, and a pin
without a record drives at 8 mA. -/
def ballStrength (s : State) (pin : Nat) : Nat :=
  match if pinsApplied s then pinRec s pin else none with
  | none => 8
  | some w => if fld w 14 2 = 3 then 12 else 2 ^ (fld w 14 2 + 1)

/-- The pull of a ball (R73, R455): its reset-state pull until the pins section is applied, and then that of its record. -/
def ballPull (s : State) (pin : Nat) : Pull :=
  match if pinsApplied s then pinRec s pin else none with
  | none => resetPull pin
  | some w => if fld w 16 2 = 0 then .none else if fld w 16 2 = 1 then .down else .up

/-- A level as a drive. -/
def level (b : Bool) : Drv := if b then .high else .low

/-- SAFE of a pin (R73): 0 high-impedance, 1 low, 2 high, 3 hold last; a pin without a record lets go while its block is held or its
wrapper is closed (DESIGN CHOICE, log entry 95). -/
def safeDrive (s : State) (pin : Nat) : Drv :=
  match (pinRec s pin).elim 0 (fun w => fld w 12 2) with
  | 0 => .hiz
  | 1 => .low
  | 2 => .high
  | _ => .hold

/-- A role output (R87, R411): driven by the device that has the role; otherwise low on a device without a twin. -/
def roleDrive (s : State) (d : Drv) : Drv := if drives s then d else if hasTwin s then .hiz else .low

/-- The drive of a ball after image application (R87), its block being in service. -/
def ballRunning (s : State) (pin : Nat) : Drv :=
  if pin < 16 then (if !chanPresent s pin then .hiz else if (s.chan pin).on then .active else .low)
  else if pin < 32 then .hiz
  else if pin < 48 then (if pinFunc s pin = 2 then roleDrive s (level (mget false s.time.pps 1)) else .hiz)
  else if pin = 49 ∨ pin = 50 then roleDrive s (level (mget false s.time.pps (pin - 49)))
  else if pin = 51 then roleDrive s (if s.time.irigBusy then .active else .low)
  else if pin = 52 then (if s.twin.claimOut then .low else .hiz)
  else if pin = 54 then (if isRunning s && !tst (s.rw .TWN_CFG) 28 then level s.twin.hbOut else .hiz)
  else if 56 ≤ pin ∧ pin < 62 then .active
  else if pin = 64 ∨ pin = 65 then .low
  else if 66 ≤ pin ∧ pin < 72 then (if s.flash.busy.isSome then .active else .hiz)
  else if pin = 80 ∨ pin = 81 then .low
  else .hiz

/-- What the device drives on the ball of pin index `pin` (R87, R91, R105): before the pins section is applied nothing but the flash
balls during a flash boot; while the pin's block is held in reset its SAFE level; else what its block drives. -/
def ballDrive (s : State) (pin : Nat) : Drv :=
  if !pinsApplied s then
    (if 66 ≤ pin ∧ pin < 72 ∧ s.boot.st = .load ∧ bootSrc s ≠ 1 ∧ bootSrc s ≠ 2 then .active else .hiz)
  else if (pinBlock pin (pinFunc s pin)).any (closed s) then safeDrive s pin
  else ballRunning s pin

/-- TX_DISABLE of front port `p` on the serial-GPIO chains (R73, R87): asserted wherever the chains run, until a host enables the
port; while they do not run, the board's pull asserts it (R89). -/
def txDisable (s : State) (p : Nat) : Bool := !pinsApplied s || (s.mac p).txDis

end Sys2Proof.Machine
end

