-- ==== Sys2Proof/WellFormed.lean ====
section
/-!
DEFINITION. WellFormed.lean: which commands are well formed: every number names something the spec numbers, and a command that is a
write of a command register carries its own action.  The meanings are total; they do not rely on this.
-/
namespace Sys2Proof

open Sys2Proof.Machine

/-- A host context number, 0 to 7 (R45). -/
def okCtx (c : Nat) : Bool := decide (c < 8)
/-- The issuer is one of the eight contexts. -/
def okWho (w : Who) : Bool := okCtx w.ctx
/-- A port, 0 to 133 (R15, R16). -/
def okPort (p : Nat) : Bool := decide (p < 134)
/-- A lane, 0 to 41 (R14). -/
def okLane (l : Nat) : Bool := decide (l < 42)
/-- A host lane: 0 for H0, 1 for H1. -/
def okHost (h : Nat) : Bool := decide (h < 2)
/-- A block that BLOCK_RESET can name (R102). -/
def okBlock (b : Nat) : Bool := decide (b < 35)
/-- A power domain (R117). -/
def okDomain (d : Nat) : Bool := decide (d < 236)
/-- A line channel (R361). -/
def okChan (c : Nat) : Bool := decide (c < 16)
/-- An event source: ARG[9:0] (R33). -/
def okSource (n : Nat) : Bool := decide (n < 1024)
/-- An update group (R466). -/
def okGroup (g : Nat) : Bool := decide (g < 16)
/-- A mask of update groups: ARG[15:0] (R33). -/
def okGroups (m : Nat) : Bool := decide (m < 2 ^ 16)
/-- A mask of blocks (R33). -/
def okMask (m : Nat) : Bool := decide (m < 2 ^ 64)
/-- A stitch link: 0 for S0. -/
def okLink (l : Nat) : Bool := decide (l < 3)
/-- A PTP domain of the engine (R316). -/
def okPtpDom (d : Nat) : Bool := decide (d < 4)
/-- Half nanoseconds within a tick of 4 ns (R306, R311). -/
def okHalf (h : Nat) : Bool := decide (h < 8)
/-- A table region (R69). -/
def okRegion (r : Nat) : Bool := decide (r ≤ 12)
/-- INDEX of a table command (R210). -/
def okIndex (i : Nat) : Bool := decide (i < 2 ^ 19)
/-- A supervised rail (R86). -/
def okRail (r : Nat) : Bool := decide (r < 5)
/-- Fuse fields within their widths. -/
def okFuses (f : Fuses) : Bool := decide (f.part < 2 ^ 16) && decide (f.stepping < 2 ^ 8) && decide (f.bootMac < 2 ^ 48)
/-- Straps within their widths (R453). -/
def okStraps (x : Straps) : Bool := decide (x.bsetId < 4) && decide (x.bootSrc < 4)
/-- COUNT of a burst (R33). -/
def okCount (n : Nat) : Bool := decide (1 ≤ n) && decide (n ≤ 256)
/-- The time of a timed UPDATE (R49, R60). -/
def okTime (sec ns : Nat) : Bool := decide (sec < 2 ^ 64) && decide (ns < 1000000000)
/-- The address names a register of the access type (R41: bits [1:0] are ignored). -/
def okAcc (a : Word) (t : Access) : Bool :=
  match decodeAddr a.toNat with
  | some r => r.f.row.acc == t
  | none => false
/-- The address names a register of one of the families. -/
def okFam (a : Word) (l : List Fam) : Bool :=
  match decodeAddr a.toNat with
  | some r => l.contains r.f
  | none => false
/-- The address names the first register of its family. -/
def okFirst (a : Word) : Bool :=
  match decodeAddr a.toNat with
  | some r => r.i == 0
  | none => false
/-- The field of `n` bits at bit `lo` of a written word holds the value of the command. -/
def okField (w : Word) (lo n v : Nat) : Bool := fld w lo n == v
/-- Argument words of a table command: the command word is the last of at most 16 (R33). -/
def okArgs (l : List Word) : Bool := decide (l.length ≤ 15)
/-- OFFSET in a context's buffer (R210). -/
def okOffset (o : Nat) : Bool := decide (o < 64)
/-- The KIND of a stitch message (R430). -/
def okKind (m : Bytes) (k : Nat) : Bool := fld (wordAt m 0) 28 4 == k

/-- The command is well formed. -/
def Instr.wf (i : Instr) : Bool :=
  match i with
  | .powerOnReset => true
  | .resetNAssert => true
  | .resetNRelease => true
  | .railLoss rail => okRail rail
  | .fuseLoadDone fuses _ => okFuses fuses
  | .railsGood straps => okStraps straps
  | .bootClocksLocked => true
  | .clockLockTimeout => true
  | .imageCheck _ => true
  | .imageApply => true
  | .bootOffer => true
  | .bootBlock lane _ => okHost lane
  | .controlFrame lane waiting _ => okHost lane && waiting.all okCtx
  | .read who _ => okWho who
  | .write who _ _ => okWho who
  | .rmw who _ _ _ => okWho who
  | .burstRead who _ _ count => okWho who && okCount count
  | .burstWrite who _ _ data => okWho who && okCount data.length
  | .fence who => okWho who
  | .fenceComplete ctx => okCtx ctx
  | .updateImmediate who groups => okWho who && okGroups groups
  | .updateTimed who groups sec ns => okWho who && okGroups groups && okTime sec ns
  | .updateCancel who groups => okWho who && okGroups groups
  | .timedStrobeFire group => okGroup group
  | .eventClaim who source => okWho who && okSource source
  | .eventComplete who source => okWho who && okSource source
  | .blockResetPulse who mask => okWho who && okMask mask
  | .blockResetHold who mask => okWho who && okMask mask
  | .blockResetRelease who mask => okWho who && okMask mask
  | .isolationComplete block => okBlock block
  | .resetPulseEnd block => okBlock block
  | .blockRelease block => okBlock block
  | .clockFail block => okBlock block
  | .freeListRebuildDone => true
  | .sequenceClear who addr _ => okWho who && okAcc addr .sq
  | .indDataAccess who addr _ _ => okWho who && okFam addr [.LN_IND_DATA, .HOT_IND_DATA, .CAR_IND_DATA, .TBL_IND_DATA]
  | .guardSeal who data => okWho who && okField data 0 1 1
  | .timeLatchRead who addr => okWho who && okFam addr [.TK_TIME, .TIO_PPS_IN] && okFirst addr
  | .hotplateTick _ => true
  | .domainReady domain => okDomain domain
  | .domainIdleSleep domain => okDomain domain
  | .domainShutdownDone domain => okDomain domain
  | .domainWakeCmd who data => okWho who && okField data 30 2 0
  | .domainSleepCmd who data => okWho who && okField data 30 2 1
  | .domModeWrite who addr _ => okWho who && okFam addr [.HOT_DOM_MODE]
  | .dozeEntry port => okPort port
  | .rxWakeSignal port => okPort port
  | .transmitPathSleep port => okPort port
  | .gateLeadWake port => okPort port
  | .xoLost => true
  | .xoReturn => true
  | .srefWindow ref _ => decide (ref < 2)
  | .tempSample _ => true
  | .lanePllGood lane => okLane lane
  | .tapUpdateRequest lane tap _ => okLane lane && decide (tap < 5)
  | .trainingComplete lane => okLane lane
  | .trainingTimeout lane => okLane lane
  | .laneSyncGained lane => okLane lane
  | .laneSyncLost lane => okLane lane
  | .laneWakeTimeout lane => okLane lane
  | .alignmentMarker lane _ _ _ _ => okLane lane
  | .rateMatchDelete lane _ _ _ => okLane lane
  | .rateMatchInsert lane _ _ => okLane lane
  | .laneTestWrite who lane data => okWho who && okLane lane && okField data 0 1 0
  | .prbsClear who lane data => okWho who && okLane lane && okField data 0 1 1
  | .txTapsWrite who lane _ => okWho who && okLane lane
  | .eyeScanStart who lane data => okWho who && okLane lane && okField data 31 1 1
  | .eyeScanDone lane _ => okLane lane
  | .frameStart port half _ => okPort port && okHalf half
  | .fragmentRx port half _ _ _ _ _ => okPort port && okHalf half
  | .lookupStart port _ => okPort port
  | .admission port => okPort port
  | .fcsVerdict port _ _ err => okPort port && decide (err < 4)
  | .carafeSlot _ _ => true
  | .scrubRead _ => true
  | .copyAged port _ _ => okPort port
  | .schedulerSelect port => okPort port
  | .transmitStart port half => okPort port && okHalf half
  | .preempt port _ => okPort port
  | .transmitEnd port _ => okPort port
  | .portEnable who port data => okWho who && okPort port && okField data 31 1 1
  | .portDisable who port data => okWho who && okPort port && okField data 31 1 0
  | .disableDrainLimit port => okPort port
  | .disableEnd port => okPort port
  | .linkUp port speed => okPort port && decide (speed ≤ 5)
  | .linkDown port => okPort port
  | .remoteFaultRx port => okPort port
  | .localFaultRx port => okPort port
  | .verifyMpacketRx port => okPort port
  | .respondMpacketRx port => okPort port
  | .verifyTimeout port => okPort port
  | .txLpiEntry port => okPort port
  | .txLpiExit port => okPort port
  | .rxLpiChange port _ => okPort port
  | .dripBurstWrite who ctx _ => okWho who && okCtx ctx
  | .tableRead who region index args => okWho who && okRegion region && okIndex index && okArgs args
  | .tableWrite who region index args => okWho who && okRegion region && okIndex index && okArgs args
  | .tableInsert who region args => okWho who && okRegion region && okArgs args
  | .tableLookup who region args => okWho who && okRegion region && okArgs args
  | .tableDelete who region args => okWho who && okRegion region && okArgs args
  | .tableNext who region index args => okWho who && okRegion region && okIndex index && okArgs args
  | .tableFlush who args => okWho who && okArgs args
  | .tableLoad who offset args => okWho who && okOffset offset && okArgs args
  | .tableFetch who offset count => okWho who && okOffset offset && decide (count ≤ 16)
  | .learnCommit => true
  | .agingSweep => true
  | .flushSweep => true
  | .gateEntryStart port => okPort port
  | .holdAdvance port => okPort port
  | .configChange port => okPort port
  | .nodeResetSweep => true
  | .recordResetSweep => true
  | .nodeForgetSweep => true
  | .latentErrorSweep => true
  | .timekeeperTick => true
  | .timePllRelock => true
  | .set who data => okWho who && okField data 29 3 1
  | .add who data => okWho who && okField data 29 3 2
  | .subtract who data => okWho who && okField data 29 3 3
  | .armAuto who data => okWho who && okField data 29 3 4
  | .disarmAuto who data => okWho who && okField data 29 3 5
  | .syncRx port _ _ => okPort port
  | .followUpRx port _ => okPort port
  | .announceRx port _ => okPort port
  | .delayReqRx port _ _ => okPort port
  | .delayRespRx port _ => okPort port
  | .pdelayReqRx port _ _ => okPort port
  | .pdelayRespRx port _ _ => okPort port
  | .pdelayRespFollowUpRx port _ => okPort port
  | .followUpSend => true
  | .pdelayRespFollowUpSend => true
  | .syncDue dom => okPtpDom dom
  | .announceDue dom => okPtpDom dom
  | .pdelayReqDue port => okPort port
  | .delayReqDue dom => okPtpDom dom
  | .syncLost dom => okPtpDom dom
  | .annLost dom => okPtpDom dom
  | .ppsInEdge half => okHalf half
  | .ppsInLost => true
  | .ppsOutEdge output => decide (output < 2)
  | .irigFrame => true
  | .endpointFrame lane _ => okHost lane
  | .launchHandoff => true
  | .launchLate port _ _ => okPort port
  | .lineFrameTx chan => okChan chan
  | .lineFrameRx chan _ _ _ _ _ => okChan chan
  | .defectSample chan _ _ => okChan chan
  | .cePacketForm chan => okChan chan
  | .cePacketRx _ port => okPort port
  | .channelBufferRetry chan => okChan chan
  | .channelDisable chan => okChan chan
  | .offerSend ctx => okCtx ctx
  | .offerTimeout source => okSource source
  | .offerNobufRetry ctx => okCtx ctx
  | .setDormantHost who data => okWho who && okField data 30 2 1
  | .clearDormantHost who data => okWho who && okField data 30 2 2
  | .targetWrite who addr _ => okWho who && okFam addr [.EVT_TGT]
  | .deliverEnWrite who _ => okWho who
  | .counterSweepSlot => true
  | .counterLatchRead who addr => okWho who && okFam addr [.PCT_VAL_HI]
  | .clearCounters who data => okWho who && okField data 30 2 1
  | .clearPeaks who data => okWho who && okField data 30 2 2
  | .bandwidthWindowEnd => true
  | .telemetryExport _ => true
  | .pinHeartbeat => true
  | .heartbeatSend => true
  | .hbInEdge => true
  | .heartbeat link half msg => okLink link && okHalf half && okKind msg 2
  | .pathSilent _ => true
  | .roleClaim => true
  | .claimResolve => true
  | .flashPoll _ => true
  | .flashResetTimeout => true
  | .handover who data => okWho who && okField data 29 3 1
  | .roleRelease => true
  | .snapshotDue => true
  | .snapNow who data => okWho who && okField data 29 3 2
  | .snapshot link half msg => okLink link && okHalf half && okKind msg 7
  | .selftestDue _ => true
  | .selftestNow who data _ => okWho who && okField data 29 3 3
  | .health link half msg => okLink link && okHalf half && okKind msg 8
  | .seg link half _ _ _ => okLink link && okHalf half
  | .credit link _ => okLink link
  | .creditDue link => okLink link
  | .stitchLinkTimeout link => okLink link
  | .timeSend link half => okLink link && okHalf half
  | .time link half msg => okLink link && okHalf half && okKind msg 3
  | .learn link half msg => okLink link && okHalf half && okKind msg 4
  | .imageBlock link half msg => okLink link && okHalf half && okKind msg 5
  | .imageAck link half msg => okLink link && okHalf half && okKind msg 6
  | .imageAckDue => true
  | .flashRead who data => okWho who && okField data 28 4 1
  | .flashProgram who data => okWho who && okField data 28 4 2
  | .flashErase4k who data => okWho who && okField data 28 4 3
  | .flashErase64k who data => okWho who && okField data 28 4 4
  | .flashOpDone _ _ => true
  | .ptpEngineRetry => true
  | .learnMessageDue link => okLink link
  | .losRaw chan => okChan chan
  | .tckEdge _ _ _ _ => true

end Sys2Proof
end

