-- ==== Sys2Proof/Tests/Slice0.lean ====
section
/-!
SUPPORT. Tests/Slice0.lean: the model's own tests: ill-formed commands that the checks refuse, states and operands that meet the
hypotheses of the statements (`test_hyp_<statement>`), and small tests of single commands from the spec's own numbers.
-/
set_option Elab.async false
namespace Sys2Proof.Tests
open Sys2Proof Sys2Proof.Machine

/-! ## Well-formedness: one ill-formed term for each check -/

/-- Host context 0, not acting as the guard context. -/
def w0 : Who := ⟨0, false⟩

theorem test_wf_context : Instr.wf (.read ⟨8, false⟩ 0) = false ∧ Instr.wf (.read ⟨7, true⟩ 0) = true := by decide
theorem test_wf_waiting : Instr.wf (.controlFrame 0 [3, 9] []) = false ∧ Instr.wf (.controlFrame 1 [3, 7] []) = true := by decide
theorem test_wf_port : Instr.wf (.admission 134) = false ∧ Instr.wf (.admission 133) = true := by decide
theorem test_wf_lane : Instr.wf (.lanePllGood 42) = false ∧ Instr.wf (.lanePllGood 41) = true := by decide
theorem test_wf_host : Instr.wf (.bootBlock 2 []) = false ∧ Instr.wf (.bootBlock 1 []) = true := by decide
theorem test_wf_block : Instr.wf (.blockRelease 35) = false ∧ Instr.wf (.blockRelease 34) = true := by decide
theorem test_wf_domain : Instr.wf (.domainReady 236) = false ∧ Instr.wf (.domainReady 235) = true := by decide
theorem test_wf_channel : Instr.wf (.losRaw 16) = false ∧ Instr.wf (.losRaw 15) = true := by decide
theorem test_wf_source : Instr.wf (.offerTimeout 1024) = false ∧ Instr.wf (.offerTimeout 1023) = true := by decide
theorem test_wf_group : Instr.wf (.timedStrobeFire 16) = false ∧ Instr.wf (.timedStrobeFire 15) = true := by decide
theorem test_wf_groups :
    Instr.wf (.updateImmediate w0 0x10000) = false ∧ Instr.wf (.updateImmediate w0 0xFFFF) = true := by decide
theorem test_wf_mask : Instr.wf (.blockResetPulse w0 (2 ^ 64)) = false ∧ Instr.wf (.blockResetPulse w0 1) = true := by decide
theorem test_wf_link : Instr.wf (.creditDue 3) = false ∧ Instr.wf (.creditDue 2) = true := by decide
theorem test_wf_ptp_domain : Instr.wf (.syncDue 4) = false ∧ Instr.wf (.syncDue 3) = true := by decide
theorem test_wf_half : Instr.wf (.ppsInEdge 8) = false ∧ Instr.wf (.ppsInEdge 7) = true := by decide
theorem test_wf_region : Instr.wf (.tableRead w0 13 0 []) = false ∧ Instr.wf (.tableRead w0 12 0 []) = true := by decide
theorem test_wf_index : Instr.wf (.tableRead w0 0 (2 ^ 19) []) = false ∧ Instr.wf (.tableNext w0 0 (2 ^ 19) []) = false := by decide
theorem test_wf_args : Instr.wf (.tableFlush w0 (List.replicate 16 0)) = false ∧ Instr.wf (.tableFlush w0 [0]) = true := by decide
theorem test_wf_offset : Instr.wf (.tableLoad w0 64 []) = false ∧ Instr.wf (.tableLoad w0 63 []) = true := by decide
theorem test_wf_fetch : Instr.wf (.tableFetch w0 0 17) = false ∧ Instr.wf (.tableFetch w0 0 16) = true := by decide
theorem test_wf_rail : Instr.wf (.railLoss 5) = false ∧ Instr.wf (.railLoss 4) = true := by decide
theorem test_wf_fuses :
    Instr.wf (.fuseLoadDone { blankFuses with part := 0x10000 } true) = false ∧
    Instr.wf (.fuseLoadDone { blankFuses with bootMac := 2 ^ 48 } true) = false ∧
    Instr.wf (.fuseLoadDone blankFuses true) = true := by decide
theorem test_wf_straps :
    Instr.wf (.railsGood ⟨false, 4, 0⟩) = false ∧ Instr.wf (.railsGood ⟨false, 0, 4⟩) = false ∧ Instr.wf (.railsGood ⟨true, 3, 3⟩) = true := by decide
theorem test_wf_count :
    Instr.wf (.burstRead w0 0 0 0) = false ∧ Instr.wf (.burstRead w0 0 0 257) = false ∧ Instr.wf (.burstRead w0 0 0 256) = true ∧
    Instr.wf (.burstWrite w0 0 0 []) = false := by decide
theorem test_wf_time :
    Instr.wf (.updateTimed w0 1 0 1000000000) = false ∧ Instr.wf (.updateTimed w0 1 (2 ^ 64) 0) = false ∧
    Instr.wf (.updateTimed w0 1 0 999999999) = true := by decide
theorem test_wf_access :
    Instr.wf (.sequenceClear w0 (wd (Reg.key ⟨.RST_CAUSE, 0, 0⟩)) 0) = true ∧
    Instr.wf (.sequenceClear w0 (wd (Reg.key ⟨.DEV_TEMP_LIMIT, 0, 0⟩)) 0) = false := by decide +kernel
theorem test_wf_family :
    Instr.wf (.indDataAccess w0 (wd (Reg.key ⟨.HOT_IND_DATA, 0, 0⟩)) none none) = true ∧
    Instr.wf (.indDataAccess w0 (wd (Reg.key ⟨.HOT_IND_ADDR, 0, 0⟩)) none none) = false ∧
    Instr.wf (.domModeWrite w0 (wd (Reg.key ⟨.HOT_IND_ADDR, 0, 0⟩)) 0) = false ∧
    Instr.wf (.targetWrite w0 (wd (Reg.key ⟨.HOT_IND_ADDR, 0, 0⟩)) 0) = false ∧
    Instr.wf (.counterLatchRead w0 (wd (Reg.key ⟨.HOT_IND_ADDR, 0, 0⟩))) = false := by decide +kernel
theorem test_wf_first :
    Instr.wf (.timeLatchRead w0 (wd (Reg.key ⟨.TK_TIME, 0, 0⟩))) = true ∧
    Instr.wf (.timeLatchRead w0 (wd (Reg.key ⟨.TK_TIME, 1, 0⟩))) = false := by decide +kernel
theorem test_wf_actions :
    Instr.wf (.guardSeal w0 0) = false ∧ Instr.wf (.domainWakeCmd w0 (put 30 2 1)) = false ∧ Instr.wf (.domainSleepCmd w0 0) = false ∧
    Instr.wf (.laneTestWrite w0 0 1) = false ∧ Instr.wf (.prbsClear w0 0 0) = false ∧ Instr.wf (.eyeScanStart w0 0 0) = false ∧
    Instr.wf (.portEnable w0 0 0) = false ∧ Instr.wf (.portDisable w0 0 (bitw 31 true)) = false ∧
    Instr.wf (.set w0 (put 29 3 2)) = false ∧ Instr.wf (.add w0 (put 29 3 1)) = false ∧ Instr.wf (.subtract w0 0) = false ∧
    Instr.wf (.armAuto w0 0) = false ∧ Instr.wf (.disarmAuto w0 0) = false ∧ Instr.wf (.setDormantHost w0 0) = false ∧
    Instr.wf (.clearDormantHost w0 0) = false ∧ Instr.wf (.clearCounters w0 0) = false ∧ Instr.wf (.clearPeaks w0 0) = false ∧
    Instr.wf (.handover w0 0) = false ∧ Instr.wf (.snapNow w0 0) = false ∧ Instr.wf (.selftestNow w0 0 ⟨0, false, [], false, false, false⟩) = false ∧
    Instr.wf (.flashRead w0 0) = false ∧ Instr.wf (.flashProgram w0 0) = false ∧ Instr.wf (.flashErase4k w0 0) = false ∧
    Instr.wf (.flashErase64k w0 0) = false := by decide
theorem test_wf_actions_good :
    Instr.wf (.set w0 (put 29 3 1)) = true ∧ Instr.wf (.clearDormantHost w0 (put 30 2 2)) = true ∧
    Instr.wf (.flashErase64k w0 (put 28 4 4)) = true ∧ Instr.wf (.portEnable w0 127 (bitw 31 true)) = true := by decide
theorem test_wf_kind :
    Instr.wf (.heartbeat 0 0 [0x30]) = false ∧ Instr.wf (.heartbeat 0 0 [0x20, 0, 0, 0]) = true ∧ Instr.wf (.snapshot 0 0 [0x20]) = false ∧
    Instr.wf (.health 0 0 []) = false ∧ Instr.wf (.time 0 0 []) = false ∧ Instr.wf (.learn 0 0 []) = false ∧
    Instr.wf (.imageBlock 0 0 []) = false ∧ Instr.wf (.imageAck 0 0 []) = false := by decide
theorem test_wf_small_operands :
    Instr.wf (.srefWindow 2 0) = false ∧ Instr.wf (.tapUpdateRequest 0 5 true) = false ∧ Instr.wf (.linkUp 0 6) = false ∧
    Instr.wf (.ppsOutEdge 2) = false ∧ Instr.wf (.linkUp 0 5) = true := by decide

/-! ## A device in service, from which the witnesses differ -/

/-- A running DV9128 booted from slot A: every lane up with its reference good, every domain on, the ports enabled with their links up,
contexts 0 and 1 valid on H0 and H1. -/
def up : State := { State.reset with
  boot := { State.reset.boot with st := .running, src := 1 }
  regs := mins (mins State.reset.regs (Reg.key ⟨.CTL_CTX_CFG, 0, 0⟩) 0x80000000) (Reg.key ⟨.CTL_CTX_CFG, 1, 0⟩) 0xC0000000
  roast := {
    lanes := (List.range 42).map (fun l => put 22 4 (if l = 1 then 3 else if 32 ≤ l ∧ l < 40 then 0xB else 6) ||| bitw 19 (l == 3))
    ports := (List.range 134).flatMap (fun p => [put 19 5 (if p = 4 then 0 else 1) ||| bitw 18 true ||| bitw 17 true, 0])
    parts := [(4, 160, 8), (8, 240, 8), (9, 248, 4), (12, 252, 4), (7, 168, 4)] }
  hot := { doms := (List.range 236).map (fun d => (d, { st := .on, warm := true })), clk := 0x1F }
  lanes := (List.range 42).map (fun l => (l, { st := .up, pll := true, cdr := true, sync := true, mlock := decide (32 ≤ l ∧ l < 40) }))
  macs := (List.range 130).map (fun p => (p, { en := .enabled, link := true, speed := 4 }))
  links := [(0, { up := true }), (1, { up := true }), (2, { up := true })]
  time := { now := { sec := 100 }, pllLost := false, ticks := 1000 } }

/-- `up` with block `b` held behind its closed wrapper. -/
def heldBlk (b : Nat) : State := up.setBlk b { st := .held, closed := true }
/-- `up` with domain `d` in state `x`. -/
def dom (d : Nat) (x : Dom) : State := up.setDom d x
/-- `up` with the boot sequencer in state `b`. -/
def boot (b : BootSt) : State := { up with boot := { up.boot with st := b } }
/-- `up` with a stored register word. -/
def upr (f : Fam) (i j : Nat) (w : Word) : State := up.wr f i j w
/-- `up` with the twin in role `r`. -/
def role (r : Role) : State := { up with twin := { up.twin with role := r } }
/-- The address of a register as a word. -/
def adr (f : Fam) (i : Nat := 0) : Word := wd (Reg.key ⟨f, i, 0⟩)
/-- An untagged frame, padded, with its FCS. -/
def eth (da sa et : Nat) (payload : Bytes) : Bytes :=
  let b := pad60 (beBytes 6 da ++ beBytes 6 sa ++ beBytes 2 et ++ payload)
  b ++ fcsBytes b

/-! ## The hypotheses of each statement are met -/

theorem test_hyp_StepRunsFrontCommand : State.reset.pending = [] := by decide

theorem test_hyp_LevelInvariantKept :
    LevelInv { State.reset with pending := [.fuseLoadDone blankFuses true] } ∧
    ∃ t, step { State.reset with pending := [.fuseLoadDone blankFuses true] } = .next t ∧ t.boot.st = .rails :=
  ⟨by unfold LevelInv; decide +kernel, _, rfl, by decide +kernel⟩

theorem test_hyp_LevelRefreshFrame :
    Reg.key ⟨.CTL_STATUS, 0, 0⟩ ≠ Reg.key ⟨.EVT_WITHDRAWN, 0, 0⟩ ∧ 95 ∉ levelSources ∧ 99 ∉ levelSources ∧
    ((up.setSrc 96 { st := .claimed }).src 96).st = .claimed ∧ closed (heldBlk 27) 27 = true := by decide +kernel

theorem test_hyp_ResetState : (∀ x ∈ lbmReset, Reg.key ⟨.CTL_STATUS, 0, 0⟩ ≠ Reg.key ⟨.LBM_RES, x.1, x.2.1⟩) ∧ (0, 0, 9) ∈ lbmReset := by
  decide +kernel

theorem test_hyp_SequenceClearRegisters :
    (0xFFFFFF < 2 ^ 24) ∧ fld (0xFF000001 : Word) 24 8 = fld (0xFF000003 : Word) 24 8 ∧ fld (0xFF000001 : Word) 24 8 ≠ fld (0 : Word) 24 8 ∧
    (List.replicate 256 1).length = 256 ∧ (∀ m ∈ List.replicate 256 1, m < 2 ^ 24) ∧ nbit (fld (0xFF000001 : Word) 0 24) 0 = true := by decide +kernel

theorem test_hyp_FlagsAndEdges :
    Reg.key ⟨.CTL_STATUS, 0, 0⟩ ≠ Reg.key ⟨.HOT_STATUS, 0, 0⟩ ∧ (∀ b ∈ onesOf 24 31, flagSource .CTL_STATUS 0 b ≠ some 5) ∧
    srcPresent up 0 = true ∧ closed up 27 = false ∧ (up.src 0).st = .idle ∧
    (srcPresent (up.setSrc 0 { st := .pending, edges := 65535 }) 0 = true ∧ closed (up.setSrc 0 { st := .pending, edges := 65535 }) 27 = false ∧
      ((up.setSrc 0 { st := .pending, edges := 65535 }).src 0).st = .pending) ∧
    (srcPresent (up.setSrc 0 { st := .claimed }) 0 = true ∧ closed (up.setSrc 0 { st := .claimed }) 27 = false ∧
      ((up.setSrc 0 { st := .claimed }).src 0).st = .claimed) ∧
    closed (heldBlk 27) 27 = true := by decide +kernel

theorem test_hyp_CounterOccurrences :
    Reg.key ⟨.CTL_STATUS, 0, 0⟩ ≠ Reg.key ⟨.PCT_STATUS, 0, 0⟩ ∧ (∀ k < 14, Reg.key ⟨.CTL_STATUS, 0, 0⟩ ≠ Reg.key ⟨.PCT_OVF, k, 0⟩) ∧
    (∀ i < 8, fld (pctCfg up 39 i) 24 8 ≠ 0x10) ∧ mget 0 up.pct.cnt 319 + (2 ^ 48 - 1) < 2 ^ 48 := by decide +kernel

theorem test_hyp_WordMemories : Memory.wf up = true ∧ 1 < [(5 : Word), 6].length := by decide +kernel

theorem test_hyp_PowerOnResetState : Reg.key ⟨.CTL_STATUS, 0, 0⟩ ≠ Reg.key ⟨.CTL_GUARD_EPOCH, 0, 0⟩ := by decide +kernel

theorem test_hyp_ResetPinState :
    Reg.key ⟨.CTL_STATUS, 0, 0⟩ ∉ [Reg.key ⟨.RST_CAUSE, 0, 0⟩, Reg.key ⟨.RST_BLOCK_CAUSE, 0, 0⟩, Reg.key ⟨.RST_BLOCK_CAUSE, 1, 0⟩,
      Reg.key ⟨.RST_BLOCK_CAUSE, 2, 0⟩, Reg.key ⟨.RST_RAIL_FAULT, 0, 0⟩, Reg.key ⟨.RST_STRAPS, 0, 0⟩, Reg.key ⟨.CTL_GUARD_EPOCH, 0, 0⟩,
      Reg.key ⟨.EVT_WITHDRAWN, 0, 0⟩] ∧ (boot .reset).boot.st = .reset := by decide +kernel

theorem test_hyp_RailsFusesAndClocks :
    State.reset.boot.st = .fuse ∧ (boot .rails).boot.st = .rails ∧
    (4 ≤ 4 ∧ up.boot.st ∈ [.clocks, .load, .apply, .running, .bootFailed]) ∧ (boot .clocks).boot.st ∈ [.clocks, .load, .apply, .running, .bootFailed] ∧
    (boot .railFault).boot.st = .railFault ∧ State.reset.boot.st ∈ [BootSt.reset, .fuse, .rails] ∧
    ((boot .clocks).boot.st = .clocks ∧ (boot .clocks).boot.fuseFail = false ∧ 186 ∈ bootDomains ∧
      domPresent { (boot .clocks) with hot := {} } 186 = true ∧ (({ (boot .clocks) with hot := {} } : State).dom 186).st = .off) ∧
    ({ (boot .clocks) with boot := { (boot .clocks).boot with fuseFail := true } } : State).boot.fuseFail = true := by decide +kernel

theorem test_hyp_BootFrames :
    let s := (boot .bootFailed)
    let f := eth 0 0xA1 0x88B5 (wsBytes [put 24 8 0x14, 0, put 16 16 4, 0] ++ [1, 2, 3, 4])
    bootLink s = true ∧ s.boot.fuseFail = false ∧ 1 ≤ 1 ∧ fcsGood f = true ∧ beAt f 12 2 = 0x88B5 ∧ beAt f 14 1 = 0x14 ∧ beAt f 0 6 = bootAddr s ∧
    f.length ≥ 34 + beAt f 22 2 ∧ beAt f 18 4 = 0 ∧ 4 ≤ beAt f 22 2 ∧ beAt f 22 2 ≤ 60 ∧ beAt f 22 2 % 4 = 0 ∧ s.boot.rxFrom = none := by decide +kernel

theorem test_hyp_HostRead :
    (Reached up w0 ⟨.DEV_TEMP_LIMIT, 0, 0⟩ ∧ windowAddr .DEV_TEMP_LIMIT = none ∧ (adr .DEV_TEMP_LIMIT).toNat = Reg.key ⟨.DEV_TEMP_LIMIT, 0, 0⟩) ∧
    (served up w0 = true ∧ regAt up (0x40 : Word).toNat = none) ∧
    (served (heldBlk 27) w0 = true ∧ regAt (heldBlk 27) (adr .EVT_CFG).toNat = some ⟨.EVT_CFG, 0, 0⟩ ∧ regBlk ⟨.EVT_CFG, 0, 0⟩ = some 27 ∧
      closed (heldBlk 27) 27 = true) ∧
    (served (dom 0 {}) w0 = true ∧ regAt (dom 0 {}) (adr .MAC_CFG 0).toNat = some ⟨.MAC_CFG, 0, 0⟩ ∧ regClosed (dom 0 {}) ⟨.MAC_CFG, 0, 0⟩ = false ∧
      regAsleep (dom 0 {}) ⟨.MAC_CFG, 0, 0⟩ = true) := by unfold Reached; decide +kernel

theorem test_hyp_HostWrite :
    (Reached up w0 ⟨.DEV_TEMP, 0, 0⟩ ∧ MayWrite up w0 ⟨.DEV_TEMP, 0, 0⟩ ∧ windowAddr .DEV_TEMP = none ∧ Fam.DEV_TEMP.row.acc = .ro) ∧
    (Reached up w0 ⟨.EVT_STATUS, 0, 0⟩ ∧ MayWrite up w0 ⟨.EVT_STATUS, 0, 0⟩ ∧ windowAddr .EVT_STATUS = none ∧ Fam.EVT_STATUS.row.acc = .sq) ∧
    (Reached up w0 ⟨.CAR_Q_CFG, 0, 0⟩ ∧ MayWrite up w0 ⟨.CAR_Q_CFG, 0, 0⟩ ∧ windowAddr .CAR_Q_CFG = none ∧ Fam.CAR_Q_CFG.row.acc = .rwu ∧
      reservedEnc ⟨.CAR_Q_CFG, 0, 0⟩ 0x90010 = false) ∧
    (Reached up w0 ⟨.TK_STEP, 3, 0⟩ ∧ MayWrite up w0 ⟨.TK_STEP, 3, 0⟩ ∧ windowAddr .TK_STEP = none ∧
      (wd (Reg.key ⟨.TK_STEP, 3, 0⟩)).toNat = Reg.key ⟨.TK_STEP, 3, 0⟩) ∧
    (served up w0 = true ∧ regAt up (0xFFFFFFFF : Word).toNat = none) := by unfold Reached MayWrite; decide +kernel

theorem test_hyp_HostWrite_preemption :
    (Reached up w0 ⟨.MAC_MM_CFG, 0, 0⟩ ∧ MayWrite up w0 ⟨.MAC_MM_CFG, 0, 0⟩ ∧ windowAddr .MAC_MM_CFG = none ∧ Fam.MAC_MM_CFG.row.acc = .rwu) ∧
    (Reached up w0 ⟨.RED_RTAG_PORTS, 4, 0⟩ ∧ MayWrite up w0 ⟨.RED_RTAG_PORTS, 4, 0⟩ ∧ Fam.RED_RTAG_PORTS.row.acc = .rwu ∧
      reservedEnc ⟨.RED_RTAG_PORTS, 4, 0⟩ 0x3F = false ∧ fld (0x3F : Word) 6 2 = 0) := by unfold Reached MayWrite; decide +kernel

theorem test_hyp_ReadModifyWrite :
    Reached up w0 ⟨.DEV_TEMP_LIMIT, 0, 0⟩ ∧ MayWrite up w0 ⟨.DEV_TEMP_LIMIT, 0, 0⟩ ∧ windowAddr .DEV_TEMP_LIMIT = none ∧
    (adr .DEV_TEMP_LIMIT).toNat = Reg.key ⟨.DEV_TEMP_LIMIT, 0, 0⟩ := by unfold Reached MayWrite; decide +kernel

theorem test_hyp_GuardRefusals :
    (served up w0 = true ∧ regAt up (adr .CTL_GUARD_SEAL).toNat = some ⟨.CTL_GUARD_SEAL, 0, 0⟩ ∧ isGuardReg up ⟨.CTL_GUARD_SEAL, 0, 0⟩ = true ∧
      w0.acting = false ∧ Fam.CTL_GUARD_SEAL.row.acc ≠ .ro) ∧
    (let s := upr .CTL_GUARD_SEAL 0 0 1
     served s ⟨0, true⟩ = true ∧ regAt s (adr .CTL_GUARD_SEAL).toNat = some ⟨.CTL_GUARD_SEAL, 0, 0⟩ ∧ isGuardReg s ⟨.CTL_GUARD_SEAL, 0, 0⟩ = true ∧
      guardSealed (touched s ⟨.CTL_GUARD_SEAL, 0, 0⟩) = true) ∧
    (served up ⟨0, true⟩ = true ∧ guardSealed up = false ∧ tst (1 : Word) 0 = true ∧ tst (0 : Word) 0 = false) := by decide +kernel

theorem test_hyp_RetentionWindow :
    (served up w0 = true ∧ (65280 : Word).toNat + 256 ≤ 65536 ∧ (∀ k < 256, up.hot.ramBad.contains ((65280 : Word).toNat + k) = false)) ∧
    (isGuardReg up ⟨.HOT_IND_ADDR, 0, 0⟩ = false ∧ isGuardReg up ⟨.HOT_IND_DATA, 0, 0⟩ = false) ∧
    ((0 : Word).toNat + [(1 : Word)].length ≤ 65536 ∧ (0 : Word).toNat + [(1 : Word)].length ≤ 32768 ∧ 32768 ≤ (32768 : Word).toNat ∧
      (32768 : Word).toNat + [(1 : Word)].length ≤ 65536) ∧
    (let s := upr .HOT_IND_ADDR 0 0 65535
     served s w0 = true ∧ s.rn .HOT_IND_ADDR < 65536 ∧ 32768 ≤ s.rn .HOT_IND_ADDR ∧ s.hot.ramBad.contains (s.rn .HOT_IND_ADDR) = false ∧
      isGuardReg s ⟨.HOT_IND_DATA, 0, 0⟩ = false) := by decide +kernel
/-- A section of TYPE `t` for device 0 (R65). -/
def sec (t : Nat) (ws : List Word) : Bytes := wsBytes ([put 24 8 t ||| put 16 4 1, wd (8 + 4 * ws.length)] ++ ws)

/-- One section of each required type, for a device with lanes P0, H0 and H1 in use (R65 to R74). -/
def imageBody : Bytes :=
  let ident : List Word := [0x88B5, 0, 0x10, 1, 0x80000000, 0, 0xA0, 0xC0000000, 0, 0xA1] ++ List.replicate 18 0
  let lanes := (List.range 42).map (fun l => put 26 6 l ||| put 22 4 (if l = 0 ∨ 40 ≤ l then 6 else 0))
  let ports := (List.range 134).flatMap (fun p => [put 24 8 p, 0])
  let keys := [0, 1, 2, 3, 5].flatMap (fun t => [put 28 4 t ||| put 16 9 16 ||| 1, put 24 8 3 ||| put 0 7 16])
  sec 1 ident ++ sec 2 lanes ++ sec 3 ports ++ sec 4 [] ++ sec 5 keys ++ sec 7 [] ++ sec 8 (List.replicate 15 0)

/-- The image header up to its CRC (R62). -/
def imageHead : Bytes := wsBytes [0x44565254, 0x01009128, wd (64 + imageBody.length + 4), 7, 0, 0, 0, 0, 0, 0, 0, 0, 0, 0, 0]
/-- The image up to its last word. -/
def imageFront : Bytes := imageHead ++ (beBytes 4 (crc32 imageHead) ++ imageBody)
/-- The image. -/
def image : Bytes := imageFront ++ beBytes 4 (crc32 imageFront)

theorem crc32Bits_lt (n : Nat) : ∀ c, c < 2 ^ 32 → crc32Bits n c < 2 ^ 32 := by
  induction n with
  | zero => intro c h; exact h
  | succ n ih =>
    intro c h
    have : c >>> 1 < 2 ^ 32 := by rw [Nat.shiftRight_eq_div_pow]; omega
    refine ih _ ?_
    split
    · exact Nat.xor_lt_two_pow this (by decide)
    · exact this

theorem crc32Reg_lt (bs : Bytes) : ∀ c, c < 2 ^ 32 → crc32Reg c bs < 2 ^ 32 := by
  induction bs with
  | nil => intro c h; exact h
  | cons b t ih => intro c h; exact ih _ (crc32Bits_lt 8 _ (Nat.xor_lt_two_pow h (by have := b.isLt; omega)))

theorem be_crc32 (bs rest : Bytes) : be ((beBytes 4 (crc32 bs) ++ rest).take 4) = crc32 bs := by
  have h : crc32 bs < 2 ^ 32 := Nat.xor_lt_two_pow (crc32Reg_lt bs _ (by decide)) (by decide)
  simp [beBytes, be, Nat.shiftRight_eq_div_pow]
  omega

theorem crc_follows (h r : Bytes) (n : Nat) (e : h.length = n) :
    crc32 ((h ++ (beBytes 4 (crc32 h) ++ r)).take n) = beAt (h ++ (beBytes 4 (crc32 h) ++ r)) n 4 := by
  have l : 4 ≤ (beBytes 4 (crc32 h) ++ r).length := by simp [beBytes]
  rw [beAt, slice, List.drop_left' e, List.take_left' e, List.length_take, Nat.min_eq_left l, Nat.sub_self, List.replicate_zero,
    List.append_nil, be_crc32]

theorem image_head_crc : crc32 (image.take 60) = beAt image 60 4 := by
  have e : image = imageHead ++ (beBytes 4 (crc32 imageHead) ++ (imageBody ++ beBytes 4 (crc32 imageFront))) := by
    unfold image; rw [imageFront, List.append_assoc, List.append_assoc]
  rw [e]; exact crc_follows _ _ _ (by decide +kernel)

theorem image_crc : crc32 (image.take (1576 - 4)) = beAt image (1576 - 4) 4 := by
  have e : image = imageFront ++ (beBytes 4 (crc32 imageFront) ++ []) := by unfold image; rw [List.append_nil]
  rw [e]; exact crc_follows _ _ _ (by decide +kernel)

theorem image_accepted : imageVerdict blankFuses 0 image = .accept := by
  have a : ¬ (imgHead image).magic ≠ 0x44565254 := by decide +kernel
  have b : ¬ ((imgHead image).format ≠ 1 ∨ headReserved image) := by decide +kernel
  have c : (!partOk blankFuses (imgHead image).part) = false := by decide +kernel
  have d : ¬ (blankFuses.stepping < (imgHead image).minStep) := by decide +kernel
  have l : (imgHead image).len = 1576 := by decide +kernel
  have g : (imgHead image).signed = false := by decide +kernel
  unfold imageVerdict
  simp only [if_neg a, image_head_crc, if_neg b, c, if_neg d, l, g, image_crc, ne_eq, not_true_eq_false, if_false, Bool.false_eq_true, false_and]
  decide +kernel

theorem test_hyp_FlashImageAndApplication :
    ((boot .load).boot.st = .load ∧ bootSrc (boot .load) ≠ 1 ∧ bootSrc (boot .load) ≠ 2 ∧ bootSrc (boot .load) = 0 ∧
      (boot .load).boot.slotB = false) ∧ imageVerdict (boot .load).boot.fuses (devNo (boot .load)) image = .accept ∧
    (let s : State := { (boot .load) with boot := { (boot .load).boot with slotB := true } }
     s.boot.st = .load ∧ bootSrc s ≠ 1 ∧ bootSrc s ≠ 2 ∧ s.boot.slotB = true) ∧
    (let s := (boot .load).wr .RST_STRAPS 0 0 3
     s.boot.st = .load ∧ bootSrc s ≠ 1 ∧ bootSrc s ≠ 2 ∧ bootSrc s ≠ 0) ∧
    (boot .apply).boot.st = .apply ∧ up.boot.st ≠ .apply := by
  refine ⟨by decide +kernel, ?_, by decide +kernel⟩
  have d : devNo (boot .load) = 0 := by decide +kernel
  rw [d]; exact image_accepted

theorem test_hyp_FlashImageAndApplication_waits :
    (boot .apply).boot.applied = false ∧
    (let s : State := { (boot .apply) with boot := { (boot .apply).boot with applied := true } }
     s.boot.st = .apply ∧ s.boot.applied = true ∧ s.ctl.tblWaits = [] ∧ heldReady (domainReady s 235) = true) := by decide +kernel

theorem test_hyp_LatchedReadsAndFences :
    Reached up w0 ⟨.TK_TIME, 0, 0⟩ ∧
    (Reached up w0 ⟨.PCT_VAL_HI, 39, 7⟩ ∧ (wd (Reg.key ⟨.PCT_VAL_HI, 39, 7⟩)).toNat = Reg.key ⟨.PCT_VAL_HI, 39, 7⟩) ∧
    (Reached up w0 ⟨.CTL_STATUS, 0, 0⟩ ∧ Fam.CTL_STATUS.row.acc = .sq ∧ (adr .CTL_STATUS).toNat = Reg.key ⟨.CTL_STATUS, 0, 0⟩ ∧
      isGuardReg up ⟨.CTL_STATUS, 0, 0⟩ = false) := by unfold Reached; decide +kernel

/-- `up` with one frame inside, number 3, looked up. -/
def inside : State := { up with car := { up.car with
  next := 4, frames := [(3, { src := 0, feed := 0, ref := 0, rate := 10000000, t := 0, looked := true })] } }

theorem test_hyp_LatchedReadsAndFences_fences :
    (served up w0 = true ∧ fenceSet up = []) ∧ (served inside w0 = true ∧ fenceSet inside ≠ []) ∧
    (let w : Fence := ⟨0, [3], none⟩
     let s : State := { up with ctl := { up.ctl with fences := [w] } }
     s.ctl.fences = w :: [] ∧ w.ctx = 0 ∧ w.req = none ∧ (∀ i ∈ w.waits, frameInside s i = false) ∧ ∀ x ∈ s.ctl.held, x.1 ≠ 0) ∧
    (let w : Fence := ⟨0, [3], none⟩
     let s : State := { inside with ctl := { inside.ctl with fences := [w] } }
     ∀ w ∈ s.ctl.fences, w.ctx = 0 → ∃ i ∈ w.waits, frameInside s i = true) := by decide +kernel

/-- A timed strobe of context 0 for second 101. -/
def armed : Armed := { ctx := 0, acting := false, sec := 101, ns := 5 }

theorem test_hyp_UpdatesAndStrobes :
    (served up w0 = true ∧ (∀ g ∈ onesOf 16 0xFFFF, armedOf up g = none) ∧ (999999999 < 1000000000) ∧ up.now ≤ 100 * 1000000000 + 0 ∧
      99 * 1000000000 + 999999999 < up.now) ∧
    (let s : State := { up with ctl := { up.ctl with armed := [(4, armed)] } }
     served s w0 = true ∧ (∀ g ∈ onesOf 16 0x10, ∀ a ∈ armedOf s g, a.ctx = w0.ctx) ∧ 4 ∈ onesOf 16 0x10 ∧ armedOf s 4 = some armed ∧
      served s ⟨1, false⟩ = true ∧ armed.ctx ≠ 1 ∧ s.now < armed.sec * 1000000000 + armed.ns) ∧
    (let s : State := { up with ctl := { up.ctl with armed := [(4, armed)] }, time := { up.time with now := { sec := 101, ns := 5 } } }
     armedOf s 4 = some armed ∧ armed.sec * 1000000000 + armed.ns ≤ s.now) := by decide +kernel

theorem test_hyp_UpdatesAndStrobes_copy :
    ShadowForm (up.setShadow ⟨.CTL_GUARD_SEAL, 0, 0⟩ 5) ∧ (∀ g ∈ onesOf 16 0xC800, g = 11 ∨ g = 14 ∨ g = 15) ∧
    domOn up 233 = true ∧ domOn up 234 = true ∧ decodeAddr (Reg.key ⟨.RED_PAIR_CFG, 0, 0⟩) = some ⟨.RED_PAIR_CFG, 0, 0⟩ ∧
    strobeTakes up 0x8000 false ⟨.RED_PAIR_CFG, 0, 0⟩ = false ∧ strobeTakes up 0x800 false ⟨.RED_PAIR_CFG, 0, 0⟩ = true := by
  refine ⟨⟨by decide +kernel, ?_⟩, by decide +kernel⟩
  intro x hx
  have h : x = (Reg.key ⟨.CTL_GUARD_SEAL, 0, 0⟩, 5) := by
    have : (up.setShadow ⟨.CTL_GUARD_SEAL, 0, 0⟩ 5).shadows = [(Reg.key ⟨.CTL_GUARD_SEAL, 0, 0⟩, 5)] := by decide +kernel
    rw [this] at hx; simpa using hx
  exact ⟨⟨.CTL_GUARD_SEAL, 0, 0⟩, by rw [h]; decide +kernel, by rw [h]⟩

theorem test_hyp_UpdatesAndStrobes_guard :
    (let s : State := { (upr .CTL_GUARD_SEAL 0 0 1) with roast := { up.roast with guardRanges := [(Reg.key ⟨.SCH_GATE_CTRL, 8, 0⟩, 1)] } }
     served s ⟨0, true⟩ = true ∧ guardSealed s = true ∧ guardUpdate s ⟨0, true⟩ 0xFFFF = true) ∧
    (guardSealed up && guardUpdate up w0 0xFFFF) = false ∧ armed.wild = false ∧
    (up.now = 100 * 1000000000 + 0 ∧ up.time.now.frac = 0) ∧
    (let s : State := { up with time := { up.time with now := { sec := 100, frac := 1 } } }
     s.now = 100 * 1000000000 + 0 ∧ s.time.now.frac ≠ 0) := by decide +kernel

theorem test_hyp_ShadowFormKept :
    ShadowForm up ∧ decodeAddr (Reg.key ⟨.RED_PAIR_CFG, 0, 0⟩) = some ⟨.RED_PAIR_CFG, 0, 0⟩ :=
  ⟨⟨by decide +kernel, by intro x hx; have : up.shadows = [] := by decide +kernel
                          rw [this] at hx; cases hx⟩, by decide +kernel⟩

/-- `up` with source `n` in state `x`. -/
def src (n : Nat) (x : Src) : State := up.setSrc n x

theorem test_hyp_EventClaims :
    (served up w0 = true ∧ (up.src 0).st ≠ .pending) ∧
    (((src 0 { st := .pending, offered := some 1 }).src 0).st = .pending ∧ srcHolder (src 0 { st := .pending, offered := some 1 }) 0 ≠ w0.ctx) ∧
    (((src 0 { st := .pending, offered := some 0 }).src 0).st = .pending ∧ srcHolder (src 0 { st := .pending, offered := some 0 }) 0 = w0.ctx) ∧
    (let s := src 0 { st := .claimed, claimer := 0, again := true }
     served s w0 = true ∧ (s.src 0).st = .claimed ∧ (s.src 0).claimer = w0.ctx ∧
      (if srcLevel 0 then levelCond (occ s 27 0x13 0) 0 else (s.src 0).again) = true) ∧
    (let s := src 98 { st := .claimed, claimer := 0 }
     served s w0 = true ∧ (s.src 98).st = .claimed ∧ (s.src 98).claimer = w0.ctx ∧
      (if srcLevel 98 then levelCond (occ s 27 0x13 0) 98 else (s.src 98).again) = false) ∧
    ¬((up.src 0).st = .claimed ∧ (up.src 0).claimer = w0.ctx) := by decide +kernel

/-- `up` with the addresses that the control frames of the witnesses use. -/
def ctlUp : State := ((up.wr .CTL_DEV_MAC_LO 0 0 0xD0).wr .CTL_CTX_MAC_LO 0 0 0xA0).wr .CTL_CTX_MAC_LO 1 0 0xA1
/-- A request of one READ of address 0, REQUEST_ID 7. -/
def request : Bytes := eth 0xD0 0xA0 0x88B5 (wsBytes [put 28 4 1 ||| put 24 4 1 ||| put 16 8 1 ||| put 0 16 7, put 16 16 24, 0, 0, put 28 4 1, 0])

theorem test_hyp_ControlRequests :
    let s := ctlUp
    let f := request
    let u := countRxGood s 128 f
    let p := (etherHead f).2.2
    let g := f.take (f.length - 4)
    let w1 := wordAt (g.drop p) 1
    isRunning s = true ∧ rxReady s 128 = true ∧ (etherHead f).2.1 = s.rf .CTL_ETYPE 0 0 0 16 ∧
    rxError { bytes := f, maxLen := s.rf .MAC_CFG 128 0 0 14 } false false = none ∧ beAt f 0 6 = controlMac u ∧ mgmtClash u (beAt f 0 6) = false ∧
    fld (wordAt (f.drop p) 0) 24 4 = 1 ∧ ctxMatch u 0 (beAt f 6 6) ((etherHead f).1.map (· % 4096)) = some 0 ∧ b10Credit u ([0, 1] ++ u.ctl.held.map (·.1)) 0 = true ∧ fenced u 0 = false ∧
    mfind u.ctl.caches 0 = none ∧ (∃ os, reqOps g p = some os ∧ 16 + 4 * sumN (os.map (fun o => 1 + o.resp)) ≤ 10200 ∧
      max 64 (18 + (16 + 4 * sumN (os.map (fun o => 1 + o.resp))) + (if tst (u.rw .CTL_CTX_CFG 0) 29 then 4 else 0)) ≤
        u.rf .MAC_CFG 128 0 0 14) ∧ fld w1 16 16 ≤ 10200 ∧ tst w1 15 = false ∧
    (let t : State := { s with ctl := { s.ctl with caches := [(0, { id := 7, resp := [] })] } }
     mfind (countRxGood t 128 f).ctl.caches 0 = some { id := 7, resp := [] } ∧ 7 = fld (wordAt (f.drop p) 0) 0 16) := by
  and_intros
  all_goals decide +kernel

theorem test_hyp_ControlRequests_fenced :
    let s : State := { ctlUp with ctl := { ctlUp.ctl with fences := [⟨0, [1], none⟩] } }
    let u := countRxGood s 128 request
    isRunning s = true ∧ rxReady s 128 = true ∧ rxError { bytes := request, maxLen := s.rf .MAC_CFG 128 0 0 14 } false false = none ∧
    beAt request 0 6 = controlMac u ∧ mgmtClash u (beAt request 0 6) = false ∧ ctxMatch u 0 (beAt request 6 6) ((etherHead request).1.map (· % 4096)) = some 0 ∧
    b10Credit u ([] ++ u.ctl.held.map (·.1)) 0 = true ∧ fenced u 0 = true := by
  and_intros <;> decide +kernel

theorem test_hyp_ControlRequests_read :
    let q : Req := {
      lane := 0, ctx := 0, acting := false, id := 7, opCount := 1, halt := true, execNs := 0, rest := [put 28 4 1, 0], left := 1
      done := 0, halted := false, resp := [], ownPulse := false, da := 0xA0, sa := 0xD0 }
    q.rest = put 28 4 1 :: 0 :: [] ∧ q.halted = false ∧ fld (put 28 4 1) 28 4 = 1 := by decide +kernel

theorem test_hyp_ControlRequests_elsewhere :
    (let f := eth 0xDF 0xA0 0x88B5 []
     let u := countRxGood ctlUp 128 f
     closed ctlUp 35 = false ∧ macMaxLen ctlUp 128 = ctlUp.rf .MAC_CFG 128 0 0 14 ∧
      rxError { bytes := f, maxLen := macMaxLen ctlUp 128 } false false = none ∧ (etherHead f).2.1 = ctlUp.rf .CTL_ETYPE 0 0 0 16 ∧
      beAt f 0 6 ≠ controlMac u ∧ mgmtOn u = false) ∧
    isRunning State.reset = false ∧ rxReady (up.setMac 128 {}) 128 = false ∧ (etherHead (eth 1 2 0x0800 [])).2.1 ≠ up.rf .CTL_ETYPE 0 0 0 16 ∧
    (let q : Req := {
      lane := 0, ctx := 0, acting := false, id := 7, opCount := 1, halt := true, execNs := 0, rest := [], left := 0
      done := 1, halted := true, resp := [put 28 4 1, 0], ownPulse := false, da := 0xA0, sa := 0xD0 }
     q.left = 0 ∧ q.ownPulse = false) := by decide +kernel

theorem test_hyp_BlockResetOperations :
    (served up w0 = true ∧ tst (up.rw .CTL_GUARD_CFG) 9 = false ∧ (2 ^ 34 : Nat).testBit 35 = false ∧ (2 ^ 34 : Nat).testBit 36 = false ∧
      (maskBlocks up (2 ^ 34)).contains (32 + ctxLane up 0) = false ∧ (2 ^ 34 : Nat).testBit (32 + ctxLane up 0) = false) ∧
    ((maskBlocks up (2 ^ 32)).contains (32 + ctxLane up 0) = true ∧ (2 ^ 32 : Nat).testBit (32 + ctxLane up 0) = true) ∧
    (let s := upr .CTL_GUARD_CFG 0 0 0x200
     served s ⟨0, true⟩ = true ∧ guardSealed s = false ∧ tst (s.rw .CTL_GUARD_CFG) 9 = true ∧ w0.acting = false ∧ served s w0 = true) ∧
    ((2 ^ 35 : Nat).testBit 35 || (2 ^ 35 : Nat).testBit 36) = true ∧ ((2 ^ 36 : Nat).testBit 35 || (2 ^ 36 : Nat).testBit 36) = true := by decide +kernel

theorem test_hyp_BlockResetOperations_reserved :
    2 ^ 34 < 2 ^ 35 ∧ (2 ^ 37 + 1 : Nat).testBit 35 = false ∧ (2 ^ 37 + 1 : Nat).testBit 36 = false ∧ 2 ^ 37 ≤ 2 ^ 37 + 1 := by decide +kernel

theorem test_hyp_BlockStateMachine :
    ((up.blk 18).st = .run ∧ blkAsleep up 18 = false ∧ 18 ∈ [18, 19, 20, 21, 22, 23, 24, 25, 26, 27, 28, 34]) ∧
    (((up.setBlk 34 { st := .isolating }).blk 34).st = .isolating ∧ ((up.setBlk 34 { st := .isolating }).blk 34).inReset = false) ∧
    ((up.setBlk 34 { st := .releasing }).blk 34).st = .releasing ∧ ((heldBlk 34).blk 34).st = .held ∧
    ((up.setBlk 34 { st := .clockFail }).blk 34).st = .clockFail := by decide +kernel

theorem test_hyp_BlockStateMachine_inReset :
    ((up.setBlk 34 { st := .isolating, inReset := true }).blk 34).st = .isolating ∧
    ((up.setBlk 34 { st := .isolating, inReset := true }).blk 34).inReset = true := by decide +kernel

theorem test_hyp_BlockResetProgress :
    (let s := up.setBlk 34 { st := .isolating, hold := true }
     (s.blk 34).st = .isolating ∧ (s.blk 34).inReset = false ∧ (((safePins (blockClear s 34) 34).blk 34).hold && !((safePins (blockClear s 34) 34).blk 34).relPend) = true) ∧
    (let s := up.setBlk 34 { st := .isolating }
     (s.blk 34).st = .isolating ∧ (s.blk 34).inReset = false ∧ (((safePins (blockClear s 34) 34).blk 34).hold && !((safePins (blockClear s 34) 34).blk 34).relPend) = false) ∧
    (((up.setBlk 0 { st := .isolating, inReset := true }).blk 0).st = .isolating ∧ ((up.setBlk 0 { st := .isolating, inReset := true }).blk 0).inReset = true) ∧
    ((up.setBlk 0 { st := .releasing }).blk 0).st = .releasing ∧ (up.blk 0).st = .run := by decide +kernel

theorem test_hyp_HotplateTickAndClocks :
    (up.boot.st = .running ∧ up.hot.queue = [] ∧ 1 ≤ up.rf .HOT_WAKE_BUDGET 0 0 0 5 ∧ up.rf .HOT_WAKE_BUDGET 0 0 0 5 ≤ 16) ∧
    (({ cls := 1, dom := 0, at_ := 0 } : WakeReq).cls ≠ 5 ∧ domHeld (dom 0 {}) 0 = false ∧ ((dom 0 {}).dom 0).st = .off ∧
      ((dom 0 { st := .retained }).dom 0).st = .retained) ∧
    ((up.blk 0).st = .run ∧ ((heldBlk 0).blk 0).st = .held) ∧
    (((up.setBlk 0 { st := .clockFail, xo := true }).blk 0).st = .clockFail ∧ ((up.setBlk 0 { st := .clockFail, xo := true }).blk 0).xo = true) ∧
    (159967 < 159968 ∧ 160032 < 160033 ∧ up.hot.clk.testBit 1 = true) ∧
    (let s : State := { up with hot := { up.hot with clk := 0x1D, good0 := 1 } }
     s.hot.clk.testBit 1 = false ∧ s.hot.good0 = 1) ∧
    ((-128 : Int) ≤ -128 ∧ (-128 : Int) ≤ 127 ∧ (-128 : Int) < (up.rf .DEV_TEMP_LIMIT 0 0 0 8 : Int)) ∧
    ((up.rf .DEV_TEMP_LIMIT 0 0 0 8 : Int) ≤ 127) := by decide +kernel

theorem test_hyp_PowerDomains :
    (((dom 128 { st := .waking }).dom 128).st = .waking ∧ ((dom 128 { st := .waking }).dom 128).missed = 0 ∧
      ((dom 217 { st := .waking }).dom 217).st = .waking) ∧
    (((dom 233 { st := .waking, missed := 1 }).dom 233).st = .waking ∧ ((dom 233 { st := .waking, missed := 1 }).dom 233).missed ≠ 0) ∧
    (((dom 0 { st := .sleeping }).dom 0).st = .sleeping ∧ ((dom 0 { st := .sleeping }).dom 0).pend = none ∧
      ((dom 235 { st := .sleeping, pend := some (1, 0) }).dom 235).pend = some (1, 0)) ∧
    (Reached up w0 ⟨.HOT_DOM_CMD, 0, 0⟩ ∧ domPresent up 235 = true ∧ heldAwake up 235 = true) ∧
    (let s := upr .HOT_DOM_MODE 0 0 0
     Reached s w0 ⟨.HOT_DOM_CMD, 0, 0⟩ ∧ domPresent s 0 = true ∧ domMode s 0 ≠ 2 ∧ heldAwake s 0 = false) ∧
    (domPresent (dom 0 {}) 0 = true ∧ ((dom 0 {}).dom 0).st = .off ∧ (∀ q ∈ (dom 0 {}).hot.queue, q.dom ≠ 0)) ∧
    ((up.dom 0).st = .on ∧ (∀ q ∈ up.hot.queue, q.dom ≠ 0)) := by unfold Reached; decide +kernel

/-- Port 0 may idle: its domain is AUTO and its port dozes. -/
def quiet : State := { (upr .HOT_DOM_MODE 0 0 1) with hot := { up.hot with doze := [0] } }

theorem test_hyp_PowerDomains_idle :
    isRunning quiet = true ∧ domMode quiet 0 = 1 ∧ heldAwake quiet 0 = false ∧ mayIdle quiet 0 = true ∧ (quiet.dom 0).st = .on ∧
    (∀ q ∈ quiet.hot.queue, q.dom ≠ 0) := by decide +kernel

theorem test_hyp_PowerDomains_held :
    (lanePllReady (dom 128 { st := .waking }) (128 - 128) = true ∧ lanePllReady (dom 169 { st := .waking }) (169 - 128) = true) ∧
    (let s := up.setMac 0 { en := .enabled, link := true, tx := some 1 }
     domBusy s 0 = true ∧ domBusy (dom 0 { st := .sleeping }) 0 = false ∧ domBusy (dom 235 { st := .sleeping, pend := some (1, 0) }) 235 = false) ∧
    (isPipe 0 = false ∧ isPipe 170 = true ∧ isPipe 232 = true) ∧
    (let s := (((upr .HOT_DOM_MODE 12 0 0x55555555).wr .HOT_DOM_MODE 14 0 0x55555555).setDom 232 {}).setDom 233 { st := .off }
     domPresent s 232 = true ∧ domOn s 232 = false ∧ domMode s 233 ≠ 0 ∧ domPresent s 233 = true ∧ (s.dom 233).st = .off) ∧
    (let s := (((upr .HOT_DOM_MODE 12 0 0x55555555).setDom 177 {}).setDom 202 { st := .retained })
     domPresent s 177 = true ∧ domOn s 177 = false ∧ domMode s 202 ≠ 0 ∧ domPresent s 202 = true ∧ (s.dom 202).st = .retained) := by decide +kernel

/-- Port 8 runs a gate list of two entries of 10 ms: every gate shut, then every gate open; the first has just begun. -/
def gated : State :=
  let s : State := { up with
    roast := { up.roast with ports := setAt up.roast.ports 17 1, parts := (6, 172, 1) :: up.roast.parts }
    schs := [(8, { running := true, gates := 0, start := 100 * 1000000000, cycle := 100 * 1000000000, ival := 10000000 })] }
  let s := (s.wr .SCH_OPER_LIST 8 0 2).wr .SCH_OPER_CYCLE 8 0 20000000
  putEntry (putEntry s 6 0 [0, 10000000]) 6 1 [0xFF, 10000000]

theorem test_hyp_PortPowerStates :
    (let s := (((upr .HOT_PORT_PWR 127 0 0x80000000).wr .MAC_EEE_TW 127 0 0xFFFF).setMac 127 { (up.mac 127) with txLpi := true, rxLpi := true })
     tst (s.rw .HOT_PORT_PWR 127) 31 = true ∧ (s.mac 127).txLpi = true ∧ (s.mac 127).rxLpi = true ∧
      dozeNeed s ≤ s.rf .MAC_EEE_TW 127 0 0 16 ∧ s.hot.doze.contains 127 = false) ∧
    quiet.hot.doze.contains 0 = true ∧
    (let s := gated.wr .HOT_PORT_PWR 8 0 1
     s.rf .HOT_PORT_PWR 8 0 0 16 ≠ 0 ∧ s.hot.txAsleep.contains 8 = false ∧ openQueued s 8 = false ∧
      (∀ t ∈ allOpenings s 8, s.now + 320 * s.rf .HOT_PORT_PWR 8 0 0 16 + 2000 < t) ∧ allOpenings s 8 ≠ []) ∧
    (let s : State := { up with hot := { up.hot with leads := [(0, 100 * 1000000000)] } }
     s.hot.leads.find? (fun q => q.1 == 0) = some (0, 100 * 1000000000) ∧ 100 * 1000000000 ≤ s.now + 320 * s.rf .HOT_PORT_PWR 0 0 0 16) ∧
    (let s := dom 0 {}
     Reached s w0 ⟨.HOT_DOM_MODE, 0, 0⟩ ∧ MayWrite s w0 ⟨.HOT_DOM_MODE, 0, 0⟩ ∧ (adr .HOT_DOM_MODE 0).toNat = Reg.key ⟨.HOT_DOM_MODE, 0, 0⟩ ∧
      reservedEnc ⟨.HOT_DOM_MODE, 0, 0⟩ 2 = false ∧ fld (2 : Word) 0 2 = 2 ∧ domPresent s 0 = true ∧ (s.dom 0).st = .off) := by
  unfold Reached MayWrite; decide +kernel

theorem test_hyp_PortPowerStates_modes :
    (let s := (((upr .HOT_PORT_PWR 127 0 0x80000000).wr .MAC_EEE_TW 127 0 0xFFFF).setMac 127 { (up.mac 127) with txLpi := true, rxLpi := true })
     let d : State := { s with hot := { s.hot with txAsleep := [127] } }
     dozeNeed s ≤ 1000 * s.rf .MAC_EEE_TW 127 0 0 16 ∧ (transmitPathSleep s 127).hot.txAsleep.contains 127 = false ∧
      tst (d.rw .HOT_PORT_PWR 127) 31 = true ∧ (d.mac 127).txLpi = true ∧ (d.mac 127).rxLpi = true ∧
      dozeNeed d ≤ 1000 * d.rf .MAC_EEE_TW 127 0 0 16 ∧ d.hot.doze.contains 127 = false ∧
      d.hot.txAsleep.contains 127 = true ∧ (transmitPathSleep d 127).hot.txAsleep.contains 127 = true) ∧
    (domMode (upr .HOT_DOM_MODE 0 0 1) 0 = 1 ∧ heldAwake (upr .HOT_DOM_MODE 0 0 1) 0 = false ∧ domMode up 0 ≠ 1) ∧
    eeeActive ((gated.wr .HOT_PORT_PWR 8 0 1).wr .MAC_EEE_CFG 8 0 0x80000000) 8 = true := by decide +kernel

/-- `up` with lane `l` in state `x`. -/
def lane (l : Nat) (x : LaneS) : State := up.setLane l x

theorem test_hyp_LaneBringUp :
    (lanePresent (lane 0 { st := .cold }) 0 = true ∧ ((lane 0 { st := .cold }).lane 0).st = .cold ∧
      (lane 0 { st := .cold }).hot.clk.testBit (1 + laneRef (lane 0 { st := .cold }) 0) = true) ∧
    ((lane 3 { st := .training }).lane 3).st = .training ∧
    (((lane 32 { st := .down }).lane 32).st = .down ∧ (isStitch 32 && !((lane 32 { st := .down }).lane 32).desk) = true) ∧
    (((lane 0 { st := .down, woke := true }).lane 0).st = .down ∧ (isStitch 0 && !((lane 0 { st := .down, woke := true }).lane 0).desk) = false ∧
      ((lane 0 { st := .down, woke := true }).lane 0).woke = true) ∧
    (((lane 41 { st := .down }).lane 41).st = .down ∧ (isStitch 41 && !((lane 41 { st := .down }).lane 41).desk) = false ∧
      ((lane 41 { st := .down }).lane 41).woke = false) ∧ (up.lane 0).st = .up := by decide +kernel

theorem test_hyp_LaneBringUp_more :
    (lanePllReady (lane 0 { st := .cold }) 0 = true ∧ closed (lane 0 { st := .cold }) (domBlock (128 + 0)) = false) ∧
    (let s := lane 41 { st := .down, bring := true }
     (s.lane 41).st = .down ∧ (isStitch 41 && !(s.lane 41).desk) = false ∧ (s.lane 41).bring = true) ∧
    ((lane 41 { st := .down }).lane 41).bring = false ∧ (((lane 0 { st := .down }).lane 0).st = .down ∧ isStitch 0 = false) := by decide +kernel

theorem test_hyp_TapsTestsAndEye :
    (let s := ((lane 3 { st := .training }).wr .LN_TX_TAPS 3 0 (put 16 5 8 ||| put 8 6 24 ||| put 0 5 0))
     (s.lane 3).st = .training ∧ fld (s.rw .LN_TX_TAPS 3) 16 5 ≥ 8 ∧ fld (s.rw .LN_TX_TAPS 3) 0 5 < 16 ∧
      fld (s.rw .LN_TX_TAPS 3) 16 5 + fld (s.rw .LN_TX_TAPS 3) 8 6 + fld (s.rw .LN_TX_TAPS 3) 0 5 < 48 ∧ fld (s.rw .LN_TX_TAPS 3) 8 6 ≤ 24 ∧
      0 < fld (s.rw .LN_TX_TAPS 3) 16 5) ∧
    (Reached up w0 ⟨.LN_IND_ADDR, 0, 0⟩ ∧ isGuardReg up ⟨.LN_IND_ADDR, 0, 0⟩ = false ∧ isGuardReg up ⟨.LN_IND_DATA, 0, 0⟩ = false ∧
      laneFused up 41 = false ∧ regClosed up ⟨.LN_TX_TAPS, 41, 0⟩ = false ∧ laneMode up 41 ≠ 0 ∧ (up.lane 41).st ≠ .off ∧
      regClosed up ⟨.LN_TEST, 41, 0⟩ = false ∧ regClosed up ⟨.LN_EYE_CMD, 41, 0⟩ = false ∧
      reservedEnc ⟨.LN_TEST, 41, 0⟩ 0x80000001 = false ∧ tst (0x80000000 : Word) 31 = true ∧ (up.lane 41).eyeBusy = false) ∧
    (let w : Word := put 16 5 8 ||| put 8 6 24 ||| put 0 5 16
     fld w 16 5 ≤ 8 ∧ 24 ≤ fld w 8 6 ∧ fld w 0 5 ≤ 16 ∧ fld w 16 5 + fld w 8 6 + fld w 0 5 ≤ 48) ∧
    (((lane 39 { st := .down }).lane 39).st ≠ .off ∧ ((lane 39 { st := .down }).lane 39).st ≠ .up ∧ fld ((0x80000000 : Word) &&& 0xCF0F0000) 16 16 ≠ 0) ∧
    ((lane 0 { st := .up, eyeBusy := true }).lane 0).eyeBusy = true := by unfold Reached; decide +kernel

theorem test_hyp_TapsTestsAndEye_more :
    ((lane 39 { st := .down }).lane 39).st ≠ .idle ∧ ((lane 39 { st := .down }).lane 39).st ∈ [.cold, .training, .down] ∧ tst (0x80000001 : Word) 0 = true ∧
    (((up.lane 0).st ≠ .test ∨ fld (up.rw .LN_TEST 0) 16 4 = 0) ∧ ((up.lane 0).st ≠ .up ∨ fld (laneRec up 0) 20 2 = 0)) := by decide +kernel

/-- The two words of the marker of logical lane 0 (R140). -/
def marker (bip : Nat) : Word × Word := (put 8 24 0xA65D3C ||| put 0 8 bip, put 8 24 (0xFFFFFF - 0xA65D3C))

theorem test_hyp_LaneRateAndAlignment :
    ((up.lane 0).st = .up ∧ 3 * (fifoShape (laneMode up 0)).1 < 4 * 25 ∧ 32 ≤ (fifoShape (laneMode up 0)).1 ∧ 4 * 7 < (fifoShape (laneMode up 0)).1 ∧
      (fifoShape (laneMode up 0)).1 ≤ 4 * 8 ∧ 4 * 24 ≤ 3 * (fifoShape (laneMode up 0)).1) ∧
    (isStitch 32 = true ∧ isStitch 39 = true ∧ markerOf (marker 5).1 (marker 5).2 = some 0 ∧ fld (marker 5).1 0 8 = 261 % 256) ∧
    (((lane 32 { st := .down, sync := true }).lane 32).sync = true ∧ ((lane 32 { st := .down, sync := true }).lane 32).mkAt = none ∧
      ((lane 32 { st := .down, sync := true }).lane 32).mlock = false) ∧
    (((lane 32 { st := .down, sync := true, mkAt := some 7 }).lane 32).sync = true ∧
      ((lane 32 { st := .down, sync := true, mkAt := some 7 }).lane 32).mkAt = some 7 ∧
      ((lane 32 { st := .down, sync := true, mkAt := some 7 }).lane 32).mkMiss = 0) ∧ markerOf 0 0 = none ∧
    (let s := lane 39 { st := .up, sync := true, mlock := true, mkAt := some 7, mkMiss := 3 }
     (s.lane 39).sync = true ∧ (s.lane 39).mkAt = some 7 ∧ (s.lane 39).mkMiss = 3 ∧ (s.lane 39).mlock = true ∧ (s.lane 39).st = .up) := by decide +kernel

theorem test_hyp_LaneRateAndAlignment_stitch :
    (isStitch 0 = false ∧ atGap up 0 3 = true ∧ atGap (up.setMac 3 { en := .enabled, link := true, rx := some {} }) 0 3 = false) ∧
    (isStitch 39 = true ∧ (up.lane 39).st = .up ∧ 3 * (fifoShape (laneMode up 39)).1 < 4 * (fifoShape (laneMode up 39)).1 ∧
      4 * 0 < (fifoShape (laneMode up 39)).1) ∧
    ((lane 32 { st := .down, sync := true, mlock := true, mkAt := some 7, mkMiss := 2 }).lane 32).mkMiss < 3 := by decide +kernel

theorem test_hyp_PortEnableDisable :
    (portPresent up 124 = true ∧ Reached up w0 ⟨.MAC_CFG, 124, 0⟩ ∧ MayWrite up w0 ⟨.MAC_CFG, 124, 0⟩ ∧ tst (bitw 31 true) 31 = true ∧ tst 0 31 = false ∧
      (up.mac 124).en = .enabled) ∧
    (let s := up.setMac 124 {}
     portPresent s 124 = true ∧ Reached s w0 ⟨.MAC_CFG, 124, 0⟩ ∧ MayWrite s w0 ⟨.MAC_CFG, 124, 0⟩ ∧ (s.mac 124).en = .disabled) ∧
    (let s := up.setMac 0 { en := .disabling, drained := true }
     portPresent s 0 = true ∧ Reached s w0 ⟨.MAC_CFG, 0, 0⟩ ∧ MayWrite s w0 ⟨.MAC_CFG, 0, 0⟩ ∧ (s.mac 0).en = .disabling ∧ (s.mac 0).tx = none ∧
      (s.mac 0).txP = none ∧ (s.mac 0).drained = true) ∧
    ((up.setMac 0 { en := .disabling, tx := some 1 }).mac 0).tx ≠ none := by unfold Reached MayWrite; decide +kernel

theorem test_hyp_LinksAndFaults :
    (let s := up.setMac 0 { en := .enabled }
     portPresent s 0 = true ∧ laneUp s 0 = true ∧ enState s 0 = .enabled ∧ (s.mac 0).link = false) ∧
    (up.mac 129).link = true ∧ (portPresent up 129 = true ∧ faultMode (laneMode up (portLane 129)) = true ∧ (up.mac 129).rf = false ∧
      (up.mac 129).lf = false) ∧
    (let s := up.setMac 0 { en := .enabled, rf := true, lf := true }
     portPresent s 0 = true ∧ faultMode (laneMode s (portLane 0)) = true ∧ (s.mac 0).rf = true ∧ (s.mac 0).lf = true) ∧
    faultMode (laneMode up (portLane 4)) = false := by decide +kernel

theorem test_hyp_VerificationAndLpi :
    (portPresent up 0 = true ∧ (up.mac 0).link = true ∧ (up.mac 0).ver ≠ .verifying) ∧
    (((up.setMac 0 { ver := .verifying, tries := 2 }).mac 0).ver = .verifying ∧ ((up.setMac 0 { ver := .verifying, tries := 2 }).mac 0).tries < 3) ∧
    (((up.setMac 0 { ver := .verifying, tries := 3 }).mac 0).ver = .verifying ∧ 3 ≤ ((up.setMac 0 { ver := .verifying, tries := 3 }).mac 0).tries) ∧
    (let s := upr .MAC_EEE_CFG 4 0 0x80000000
     eeeActive s 4 = true ∧ (s.mac 4).txLpi = false ∧ (∀ c ∈ s.car.copies, c.port ≠ 4)) ∧
    (let s : State := { (up.setMac 4 { txLpi := true }) with car := { up.car with copies := [{ id := 1, frame := 0, port := 4, queue := 0 }] } }
     (s.mac 4).txLpi = true ∧ ({ id := 1, frame := 0, port := 4, queue := 0 } : CCopy) ∈ s.car.copies) := by decide +kernel

theorem test_hyp_VerificationAndLpi_more :
    (1 ≤ up.rf .MAC_MM_CFG 0 0 16 8 ∧ up.rf .MAC_MM_CFG 0 0 16 8 ≤ 128) ∧ txQueued up 4 = false ∧
    (let s : State := { (up.setMac 4 { txLpi := true }) with car := { up.car with copies := [{ id := 1, frame := 0, port := 4, queue := 0, issued := 1, read := 64 }] } }
     (s.mac 4).txLpi = true ∧ txQueued s 4 = true) := by decide +kernel

/-- A good frame of 64 bytes. -/
def good : Bytes := eth 0x10 0x20 0x0800 []
/-- A whole frame inside. -/
def fr : CFrame := { src := 4, feed := 0, ref := 4, rate := 10000000, t := 0, bytes := good, ended := true, looked := true, verdict := some true }
/-- A copy of frame 3 at port `p`, queue `q`. -/
def cp (p q : Nat) : CCopy := { id := 1, frame := 3, port := p, queue := q, elig := true, store := true, s5 := some 0 }
/-- `up` with frame 3 and copies of it. -/
def car (f : CFrame) (cs : List CCopy) : State := { up with car := { up.car with next := 4, frames := [(3, f)], copies := cs } }
/-- Port 0 in reception of a frame. -/
def recv (x : RxSt) (f : CFrame) : State := (car f []).setMac 0 { en := .enabled, link := true, rx := some x }

theorem test_hyp_FrameReception :
    (rxReady up 129 = true ∧ (up.mac 129).rx = none ∧ b2Used up 129 < 128 * b2Depth up 129) ∧
    (let s : State := { (dom 170 {}) with car := { up.car with frames := [(3, { fr with src := 0, looked := false, bytes := List.replicate 6144 0 })] } }
     rxReady s 0 = true ∧ (s.mac 0).rx = none ∧ 128 * b2Depth s 0 ≤ b2Used s 0) ∧
    rxReady (dom 0 {}) 0 = false ∧
    (let x : RxSt := { fid := some 3, bytes := good.take 60, maxLen := 10240 }
     let f : CFrame := { fr with src := 0, ended := false, looked := false, bytes := good.take 60 }
     let s := recv x f
     (s.mac 0).rx = some x ∧ x.fid = some 3 ∧ s.frm 3 = some f ∧ f.ended = false ∧ x.noCredit = false ∧ x.code = false ∧ x.asmBad = false ∧
      (x.bytes ++ good.drop 60).length ≤ x.maxLen ∧
      f.started = false ∧
      b2Used (dripFollow (s.setFrm 3 ({ f with bytes := (x.bytes ++ good.drop 60).take x.maxLen }.stampCells s.car.slot)) 3) 0 ≤
        128 * b2Depth (dripFollow (s.setFrm 3 ({ f with bytes := (x.bytes ++ good.drop 60).take x.maxLen }.stampCells s.car.slot)) 3) 0 ∧
      64 ≤ (x.bytes ++ good.drop 60).length ∧ fcsGood (x.bytes ++ good.drop 60) = true ∧ beAt (x.bytes ++ good.drop 60) 12 2 ≠ 0x8808 ∧
      (x.bytes ++ []).length < 64) ∧
    (64 ≤ (eth 1 2 0x8808 []).length ∧ fcsGood (eth 1 2 0x8808 []) = true ∧ beAt (eth 1 2 0x8808 []) 12 2 = 0x8808) ∧
    (({ asmBad := true } : RxSt).asmBad = true ∧ ({} : RxSt).asmBad = false ∧ ({ maxLen := 0, bytes := [0] } : RxSt).maxLen < [(0 : Byte)].length) := by
  decide +kernel

theorem test_hyp_FrameReception_full :
    (let s := up.setMac 0 { (up.mac 0) with rx := some { noCredit := true } }
     (s.mac 0).rx = some { noCredit := true } ∧ (rxAdd s 0 { noCredit := true } [0]).1.noCredit = true) ∧
    (let f : CFrame := { fr with src := 0, ended := false, looked := false, bytes := [0] }
     let x : RxSt := { fid := some 3, bytes := [0], maxLen := 10240 }
     let s : State := { (dom 170 {}).setMac 0 { (up.mac 0) with rx := some x } with car := { up.car with
       frames := [(2, { fr with src := 0, looked := false, bytes := List.replicate 6143 0 }), (3, f)] } }
     (s.mac 0).rx = some x ∧ x.fid = some 3 ∧ s.frm 3 = some f ∧ f.ended = false ∧ f.started = false ∧ (x.bytes ++ [0]).length ≤ x.maxLen ∧
      128 * b2Depth s 0 < b2Used (dripFollow (s.setFrm 3 ({ f with bytes := (x.bytes ++ [0]).take x.maxLen }.stampCells s.car.slot)) 3) 0) := by
  decide +kernel

theorem test_hyp_FrameReception_fragments :
    (rxReady up 0 = true ∧ 1 < 2 ∧ tst (up.rw .MAC_MM_CFG 0) 31 = false) ∧
    (let s := upr .MAC_MM_CFG 0 0 0x80000000
     rxReady s 0 = true ∧ tst (s.rw .MAC_MM_CFG 0) 31 = true ∧ (s.mac 0).asm = none ∧ b2Used s 0 < 128 * b2Depth s 0) := by decide +kernel

theorem test_hyp_FrameReception_closed :
    (portPresent (heldBlk 8) 0 = true ∧ closed (heldBlk 8) (portBlock 0) = true) ∧
    (rxReady (up.setMac 129 {}) 129 = false ∧ closed (up.setMac 129 {}) (portBlock 129) = false ∧ rxLeft (up.setMac 129 {}) 129 = false) ∧
    (let x : RxSt := { bytes := good }
     x.asmBad = false ∧ (true = true → fcsGood x.bytes = true) ∧ (true = true ∧ fcsGood (good.drop 1) = false)) := by decide +kernel

theorem test_hyp_LookupAndAdmission :
    nextLookup (rxBytes up 0 []) 0 = none ∧
    (let f := { fr with looked := false }
     nextLookup (rxBytes (car f []) 4 []) 4 = some (3, f) ∧ closed (rxBytes (car f []) 4 []) (pipeBlock (pipeOf 4)) = false ∧
      domOn (rxBytes (car f []) 4 []) (pipeDom (pipeOf 4)) = true ∧ f.ended = true) ∧
    (let f := { fr with looked := false }
     let s := (car f []).setBlk 0 { closed := true }
     nextLookup (rxBytes s 4 []) 4 = some (3, f) ∧ closed (rxBytes s 4 []) (pipeBlock (pipeOf 4)) = true) ∧
    (let f := { fr with looked := false, ended := false }
     nextLookup (rxBytes (car f []) 4 []) 4 = some (3, f) ∧ closed (rxBytes (car f []) 4 []) (pipeBlock (pipeOf 4)) = false ∧
      f.ended = false ∧ f.bytes.length < 100) ∧
    (∀ x ∈ up.car.frames, ¬ (x.2.src = 0 ∧ x.2.looked = true ∧ x.2.decided = false)) ∧
    (let f := { fr with plan := [cp 8 0] }
     let s := car f []
     s.car.frames.find? (fun f => f.2.src == 4 && f.2.looked && !f.2.decided) = some (3, f) ∧ s.frm 3 = some f ∧ f.bad = false ∧
      f.verdict ≠ some false ∧ f.plan = [cp 8 0] ∧ (∀ x ∈ s.car.copies, x.frame ≠ 3) ∧ portTakes s 8 = true ∧ s.car.rebuild = false ∧
      closed s 17 = false ∧ admitOpen s (cp 8 0) = false ∧ admits s (carFree s) (cp 8 0) = true ∧ portTakes (s.setMac 8 {}) 8 = false ∧
      closed (s.setBlk 17 { closed := true }) 17 = true) ∧
    (Reached up w0 ⟨.DRIP_BURST, 7, 0⟩ ∧ MayWrite up w0 ⟨.DRIP_BURST, 7, 0⟩) := by unfold Reached MayWrite; decide +kernel

theorem test_hyp_LookupAndAdmission_admits :
    (let s := upr .CAR_Q_CFG 8 0 1
     usedQ s 1 0 < minQ s 1 0) ∧
    (let s := (upr .CAR_Q_CFG (queueNo 1 0) 0 0xF0000).wr .CAR_P_CFG 1 0 0
     s.rf .CAR_Q_CFG (queueNo 1 0) 0 16 4 = 15 ∧ minQ s 1 0 ≤ usedQ s 1 0 ∧ s.rf .CAR_P_CFG 1 0 0 16 ≤ excessP s 1) ∧
    (let s := (upr .CAR_Q_CFG (queueNo 1 0) 0 0x90000).wr .CAR_P_CFG 1 0 0
     s.rf .CAR_Q_CFG (queueNo 1 0) 0 16 4 = 9 ∧ minQ s 1 0 ≤ usedQ s 1 0 ∧ s.rf .CAR_P_CFG 1 0 0 16 ≤ excessP s 1) := by decide +kernel

/-- A frame of 96 bytes in reception at port 4. -/
def head96 : CFrame := { fr with looked := false, ended := false, verdict := none, bytes := List.replicate 96 0 }
/-- `up` with the station that such a frame goes to at port 8, and a default that passes it. -/
def routed : State := (fdbPut up ((bucketOf up 0 (fdbKey 0 0)).headD 0) [0, 0, 0x80004008, 0]).wr .CLS_S0_DEF_W1 0 4 0

theorem test_hyp_LookupAndAdmission_waits :
    (neverLooked up head96 = false ∧ frameHold up head96 = none ∧ 96 ≤ head96.bytes.length ∧
      neverLooked up { head96 with bytes := eth 1 2 0x8808 [] } = true) ∧
    (let s := (dom 210 {}).wr .HOT_DOM_MODE 13 0 0x10
     frameHold s head96 ≠ none ∧ neverLooked s head96 = false ∧ lookupLeft s head96 = false ∧ lookupLeft (dom 210 {}) head96 = true ∧
      ({ head96 with bytes := List.replicate 95 0 } : CFrame).bytes.length < 96) := by decide +kernel

theorem test_hyp_LookupAndAdmission_stages :
    (let r := resolve up 0 4 4 (parse (altTpid up 0) head96.bytes false)
     head96.verdict = none ∧ head96.src < 130 ∧ r.1.learn = none ∧ r.1.carry.verdict = 1) ∧
    (let r := resolve routed 0 4 4 (parse (altTpid routed 0) head96.bytes false)
     neverLooked routed head96 = false ∧ r.1.learn = none ∧ r.1.carry.verdict = 0 ∧
      (passPlan (occ r.2 (pipeBlock 0) 0x11 (pipeSub 4)) 0 4 r.1.carry).1.map (·.port) = [8]) ∧
    (fr.carry.handleV = false ∧ pairOf up fr.ref = none ∧ (∀ c ∈ [cp 8 0], outPair up fr.ref c = none ∧ portErr up (portRef up c.port) = false) ∧
      portErr up fr.ref = false) ∧
    (∀ x ∈ up.car.frames, ¬ (x.2.src = 0 ∧ x.2.looked = true ∧ x.2.decided = false ∧ x.2.gone = false)) ∧
    (let s := (car { fr with plan := [cp 8 0] } []).setBlk 17 { closed := true }
     s.car.frames.find? (fun f => f.2.src == 4 && f.2.looked && !f.2.decided && !f.2.gone) = some (3, { fr with plan := [cp 8 0] }) ∧
      closed s 17 = true) := by decide +kernel

/-- A frame of 99 bytes in reception at port 4 whose lookup has begun. -/
def begun99 : CFrame := { head96 with started := true, bytes := List.replicate 99 0 }

theorem test_hyp_LookupAndAdmission_begun :
    (let s := car begun99 []
     s.frm 3 = some begun99 ∧ begun99.started = true ∧ begun99.enter = 0 ∧ begun99.looked = false ∧ begun99.bytes.length < 100 ∧
      s.car.frames.find? (fun f => f.2.src == 4 && (f.2.looked || (f.2.started && f.2.enter == 0 && !f.2.admitDue)) &&
        !f.2.decided && !f.2.gone) = some (3, begun99)) ∧
    (let f := { begun99 with ended := true }
     let s := car f []
     let g := { f with enter := 1 }
     let t := { s with car := { s.car with enters := 1 } }.setFrm 3 g
     s.frm 3 = some f ∧ s.car.enters = 0 ∧ pipeEntered t (pipeOf 4) = [(3, g)] ∧ f.keeps = [] ∧ f.admitDue = false ∧
      domOn t (pipeDom (pipeOf 4)) = true ∧ frameHold t g = none) ∧
    (let f := { begun99 with ended := true }
     let s : State := { (dom 210 {}).wr .HOT_DOM_MODE 13 0 0x10 with car := { up.car with frames := [(3, f)] } }
     let g := { f with enter := 1 }
     let t := { s with car := { s.car with enters := 1 } }.setFrm 3 g
     s.frm 3 = some f ∧ s.car.enters = 0 ∧ pipeEntered t (pipeOf 4) = [(3, g)] ∧ f.keeps = [] ∧ f.admitDue = false ∧
      frameHold t g ≠ none ∧ lookupLeft t g = false) ∧
    (let f := { head96 with bytes := eth 1 2 0x8808 [], ended := true }
     nextLookup (rxBytes (car f []) 4 []) 4 = some (3, f) ∧ neverLooked (rxBytes (car f []) 4 []) f = true) := by decide +kernel

theorem test_hyp_LookupAndAdmission_held :
    let s : State := { (dom 170 { st := .waking }).wr .HOT_DOM_MODE 10 0 0x100000 with car := { up.car with frames := [(3, { head96 with ended := true })] } }
    nextLookup (rxBytes s 4 []) 4 = some (3, { head96 with ended := true }) ∧ domOn (rxBytes s 4 []) (pipeDom (pipeOf 4)) = false ∧
      lookupLeft (rxBytes s 4 []) { head96 with ended := true } = false := by decide +kernel

theorem test_hyp_CarafeSlots :
    (closed (heldBlk 17) 17 = true ∧ closed up 17 = false ∧ up.car.frames = [] ∧ up.car.copies = []) ∧
    (∃ ptr, takeCell up 15 [] = some ptr) ∧
    (∃ ptr q, (car fr []).frm 3 = some fr ∧ mfind fr.cells 0 = none ∧ takeCell (car fr []) 0 = some ptr ∧ q ≠ ptr) ∧
    (tst ((upr .CAR_CFG 0 0 0).rw .CAR_CFG) 31 = false ∧ tst ((upr .CAR_CFG 0 0 0x80000000).rw .CAR_CFG) 31 = true ∧
      closed (upr .CAR_CFG 0 0 0x80000000) 17 = false ∧ domOn (upr .CAR_CFG 0 0 0x80000000) (186 + 15) = true) := by
  refine ⟨by decide +kernel, ⟨_, rfl⟩, ⟨_, _, by decide +kernel, by decide +kernel, rfl, Nat.succ_ne_self _⟩, by decide +kernel⟩

theorem test_hyp_CarafeSlots_aged :
    (let s : State := { car { fr with born := 1 } [cp 8 0] with time := { up.time with ticks := 1000000000 } }
     (queueCopies s 8 0)[0]? = some (cp 8 0) ∧ s.frm (cp 8 0).frame = some { fr with born := 1 } ∧ (cp 8 0).begun = false ∧
      fr.launch = none ∧ 1000 * s.within 1000 8000000 (s.rn .CAR_MAX_RES) < copyAge s { fr with born := 1 }) ∧
    (let s := car fr [cp 8 0]
     (queueCopies s 8 0)[0]? = some (cp 8 0) ∧ copyAge s fr ≤ 1000 * s.within 1000 8000000 (s.rn .CAR_MAX_RES)) := by decide +kernel

theorem test_hyp_CarafeSlots_launch :
    let f := { fr with launch := some (99 * 1000000000, false) }
    let s := car f [cp 8 0]
    (queueCopies s 8 0)[0]? = some (cp 8 0) ∧ s.frm (cp 8 0).frame = some f ∧ f.launch = some (99 * 1000000000, false) ∧
      resShort s 8 0 = false := by decide +kernel

theorem test_hyp_CarafeSlots_bad :
    up.car.bad = [] ∧
    (let s : State := { up with car := { up.car with bad := [(524287, true), (7, false)] } }
     mfind s.car.bad 524287 = some true ∧ mfind s.car.bad 7 = some false ∧ mfind s.car.bad 0 = none) := by decide +kernel

/-- A copy at port 8 that its scheduler may issue. -/
def ready : State := car fr [cp 8 7]

theorem test_hyp_SchedulerSelection :
    (portAccepts (up.setMac 8 {}) 8 = false ∧ pathLeft (up.setMac 8 {}) 8 = false) ∧ (∀ c ∈ up.car.copies, c.port ≠ 8) ∧
    (portAccepts ready 8 = true ∧ queueCount 8 - min (queueCount 8) (portStrict (schSync ready 8) 8) ≤ 7 ∧ 7 < queueCount 8 ∧
      (candidateOf (schSync ready 8) 8 7).1 = some (cp 8 7, none)) := by decide +kernel

theorem test_hyp_SchedulerSelection_weighted :
    let s := (car fr [cp 4 3]).setSch 4 { turn := 3 }
    let u := schSync s 4
    portAccepts s 4 = true ∧ portStrict u 4 = 0 ∧ 3 < queueCount 4 ∧ (u.sch 4).turn = 3 ∧ (candidateOf u 4 3).1 = some (cp 4 3, none) ∧
    ((candidateOf u 4 3).2.sch 4).served = false ∧ tst ((candidateOf u 4 3).2.rw .SCH_CFG 4) 31 = false ∧
    1 ≤ mget 0 ((candidateOf u 4 3).2.sch 4).defs 3 +
      (((candidateOf u 4 3).2.within 1 255 ((candidateOf u 4 3).2.rf .SCH_Q_CFG 4 3 0 8) : Nat) : Int) := by decide +kernel

/-- The copy of frame 3 at port 8 issued and handed to the MAC. -/
def handedCp (p : Nat) : CCopy := { (cp p 0) with issued := 1, read := 64, express := true }

theorem test_hyp_Transmission :
    txReady (up.setMac 8 {}) 8 = false ∧
    (let s := car fr [handedCp 8]
     txReady s 8 = true ∧ startPick s 8 = some (handedCp 8) ∧ (handedCp 8).susp = false ∧ s.frm 3 = some fr) ∧
    (let c := { (handedCp 8) with express := false, begun := true, susp := true, sent := 60 }
     let s := (car fr [c]).setMac 8 { en := .enabled, link := true, txP := some 1 }
     txReady s 8 = true ∧ startPick s 8 = some c ∧ c.susp = true) ∧
    (133 ≤ 133 ∧ (handedCp 8).note = .none) := by decide +kernel

theorem test_hyp_Transmission_preempt :
    (let c := { (handedCp 8) with express := false, begun := true, read := 300 }
     let f := { fr with bytes := List.replicate 300 0 }
     let s := ((car f [c]).setMac 8 { en := .enabled, link := true, txP := some 1 }).setSch 8 { hold := true }
     (s.mac 8).txP = some 1 ∧ s.cpy 1 = some c ∧ s.frm c.frame = some f ∧ c.susp = false ∧ c.endBad = false ∧ (s.sch 8).hold = true ∧
      64 * (1 + addFrag s 8) ≤ 60 + 4 ∧ c.sent + 60 + 64 ≤ (sentBytes s f c).length + (if f.ended then 4 else 0) ∧
      ¬ 64 * (1 + addFrag s 8) ≤ 59 + 4) ∧
    (let c := { (handedCp 8) with begun := true }
     let s := (car fr [c]).setMac 8 { en := .enabled, link := true, tx := some 1 }
     (s.mac 8).tx = some 1 ∧ s.cpy 1 = some c ∧ s.frm c.frame = some fr ∧ c.endBad = false ∧ fr.ended = true ∧ fr.bytes.length ≤ c.read ∧
      ({ c with endBad := true } : CCopy).endBad = true ∧ ({ c with read := 63 } : CCopy).read < fr.bytes.length) := by decide +kernel

theorem test_hyp_Transmission_stitch :
    (let c := handedCp 132
     let s := car fr [c]
     txReady s 132 = true ∧ s.car.copies.find? (fun c => c.port == 130 + 2 && mayBegin s c) = some c ∧ freeChan s 2 = some 0 ∧ s.frm c.frame = some fr ∧
      0 < dataCredit s 2 ∧ fr.ended = true ∧ fr.bytes.length ≤ c.read) ∧
    (let c := handedCp 130
     let s := (car fr [c]).setLink 0 { up := true, sent := 384 }
     txReady s 130 = true ∧ freeChan s 0 = some 0 ∧ dataCredit s 0 = 0) ∧
    (let c := { (handedCp 130) with begun := true, endBad := true }
     let s := (car fr [c]).setLink 0 { up := true, tx := [(14, 1)] }
     endPick s 130 = some c ∧ s.frm c.frame = some fr ∧ (s.link 0).tx.find? (fun t => t.2 == c.id) = some (14, c.id) ∧ c.endBad = true) := by
  decide +kernel

theorem test_hyp_Transmission_stitch_begun :
    let c := handedCp 132
    let s := car fr [c]
    (beginCopy s 132 0 fr c).frm 3 = some { fr with anyBegun := true } ∧ ((beginCopy s 132 0 fr c).cpy 1).isSome = true := by decide +kernel

theorem test_hyp_Transmission_ends :
    (let c := { (handedCp 8) with begun := true, endBad := true }
     let s := (car fr [c]).setMac 8 { en := .enabled, link := true, tx := some 1 }
     (s.mac 8).tx = some 1 ∧ s.cpy 1 = some c ∧ s.frm c.frame = some fr) ∧
    (handed (handedCp 8) = true ∧ (handedCp 8).ball < (car fr [handedCp 8]).monoPs + 4000 ∧ pathServes (car fr [handedCp 8]) (handedCp 8) = true) := by
  decide +kernel

theorem test_hyp_Transmission_flush :
    let t := up.setMac 129 { (up.mac 129) with ctlq := [(good, some (1, 0))] }
    ctlBusy t 129 = false ∧ (t.mac 129).ctlq = [(good, some (1, 0))] ∧ (t.mac 129).ownPulse = false := by decide +kernel

theorem test_hyp_Transmission_control :
    let t := up.setMac 129 { (up.mac 129) with ctlq := [(good, none)] }
    ctlBusy t 129 = false ∧ (t.mac 129).ctlq = [(good, none)] ∧ (t.mac 129).ownPulse = false ∧
    ((t.setMac 129 { (t.mac 129) with tx := some 1 }).mac 129).tx ≠ none ∧ (up.mac 129).ctlq = [] := by decide +kernel

/-- `up` with entry `i` of region `r` holding `ws` with its parity. -/
def ent (r i : Nat) (ws : List Word) : State := putEntry up r i ws
/-- `up` with 32-bit keys of stage 0 and the bucket of key 0 in region 4 full of other keys. -/
def full4 : State :=
  let s : State := { up with roast := { up.roast with keys := [(0, 32, [])] } }
  (bucketOf s 4 0).foldl (fun s i => putEntry s 4 i [5, 0x80000000, 0, 0]) s

theorem test_hyp_TableReadsAndWrites :
    (served up w0 = true ∧ (List.replicate 15 (0 : Word)).length ≤ 15 ∧ closed up 20 = false ∧ 0 < regionSize up 12 ∧
      8191 < 2 ^ 19 ∧ 8191 < regionSize up 12 ∧ regionSize up 12 ≤ 8192) ∧
    (parOk 12 (entryAt (tableBegun up w0 1 12 8191 []) 12 8191) = true) ∧
    (let s := up.setTw (entryAddr up 12 8191) 1
     served s w0 = true ∧ closed s 20 = false ∧ 8191 < regionSize s 12 ∧ parOk 12 (entryAt (tableBegun s w0 1 12 8191 []) 12 8191) = false) ∧
    (let u := tableBegun up w0 2 12 0 []
     guardEntry u 12 0 (bufWords u 0 (entryWords 12)) = false) ∧
    (let s := ent 12 0 [0xC0000000]
     let u := tableBegun s w0 2 12 0 []
     served s w0 = true ∧ closed s 20 = false ∧ 0 < regionSize s 12 ∧ guardEntry u 12 0 (bufWords u 0 (entryWords 12)) = true ∧ w0.acting = false) ∧
    (49 % 64 + (List.replicate 15 (0 : Word)).length ≤ 64 ∧ 64 < 50 % 64 + (List.replicate 15 (0 : Word)).length) ∧ up.tbl.flush = false ∧
    (let s : State := { up with tbl := { up.tbl with flush := true } }
     served s w0 = true ∧ closed s 20 = false ∧ s.tbl.flush = true) ∧
    (served (heldBlk 20) w0 = true ∧ closed (heldBlk 20) 20 = true) := by decide +kernel

theorem test_hyp_TableReadsAndWrites_banks :
    (tableWaits up w0 ([] ++ [tblWord 1 12 8191]) = false ∧ tableWaits up w0 ([] ++ [tblWord 2 12 0]) = false ∧ up.ctl.tblWaits = []) ∧
    (served (dom 202 {}) w0 = true ∧ closed (dom 202 {}) 20 = false ∧ tableWaits (dom 202 {}) w0 ([] ++ [tblWord 1 0 0]) = true) := by decide +kernel

theorem test_hyp_TableSearches :
    (let s := (ent 4 (((bucketOf up 4 0).getD 2 0)) [0, 0x80000000, 0, 0])
     let i := (bucketOf up 4 0).getD 2 0
     let u := tableBegun s w0 3 4 0 []
     let v := tableBegun s w0 5 4 0 []
     served s w0 = true ∧ closed s 20 = false ∧ 4 ∈ [0, 4, 5, 8] ∧ 0 < regionSize s 4 ∧ i < 2 ^ 19 ∧ findKey u 4 (bufKey u 0 4) = (some i, []) ∧
      guardEntry u 4 i (cutKey u 4 (bufWords u 0 (entryWords 4))) = false ∧
      findKey (tableBegun s w0 4 4 0 []) 4 (bufKey (tableBegun s w0 4 4 0 []) 0 4) = (some i, []) ∧
      findKey v 4 (bufKey v 0 4) = (some i, []) ∧ guardEntry v 4 i [] = false) ∧
    (let u := tableBegun up w0 3 0 0 []
     served up w0 = true ∧ closed up 20 = false ∧ 0 < regionSize up 0 ∧ findKey u 0 (bufKey u 0 0) = (none, []) ∧
      (freePlace u 0 (bufKey u 0 0)) = some ((bucketOf u 0 (bufKey u 0 0)).getD 0 0) ∧
      guardEntry u 0 ((bucketOf u 0 (bufKey u 0 0)).getD 0 0) (cutKey u 0 (bufWords u 0 (entryWords 0))) = false ∧
      findKey (tableBegun up w0 4 0 0 []) 0 (bufKey (tableBegun up w0 4 0 0 []) 0 0) = (none, []) ∧
      findKey (tableBegun up w0 5 0 0 []) 0 (bufKey (tableBegun up w0 5 0 0 []) 0 0) = (none, [])) ∧
    (let u := tableBegun full4 w0 3 4 0 []
     served full4 w0 = true ∧ closed full4 20 = false ∧ 0 < regionSize full4 4 ∧ findKey u 4 (bufKey u 0 4) = (none, []) ∧
      freePlace u 4 (bufKey u 0 4) = none ∧ isGuard 4 (cutKey u 4 (bufWords u 0 (entryWords 4))) = false ∧
      full4.roast.guardRegions.testBit 4 = false) := by decide +kernel

theorem test_hyp_TableSearches_next :
    (let s := ent 12 8191 [0x80000000, 0, 0, 0, 0, 0, 0, 0]
     (served s w0 = true ∧ closed s 20 = false ∧ 8190 < regionSize s 12 ∧ regionSize s 12 ≤ 2 ^ 19 ∧ mwf 0 s.tbl.mem = true ∧ vBit 12 ≠ none ∧
      isValid 12 (entryAt s 12 8191) = true ∧ parOk 12 (entryAt s 12 8191) = true) ∧
      ∀ j, 8190 ≤ j → j < 8191 → isValid 12 (entryAt s 12 j) = false ∧ parOk 12 (entryAt s 12 j) = true) ∧
    (findKey (fdbPut up ((bucketOf up 0 7).getD 3 0) [0, 7, 0x80000000, 0]) 0 7 = (some ((bucketOf up 0 7).getD 3 0), [])) ∧
    (∀ j, 8191 ≤ j → j < regionSize up 12 → isValid 12 (entryAt up 12 j) = false ∧ parOk 12 (entryAt up 12 j) = true) := by
  refine ⟨⟨by decide +kernel, fun j h1 h2 => ?_⟩, by decide +kernel, fun j h1 h2 => ?_⟩
  · obtain rfl : j = 8190 := by omega
    decide +kernel
  · have : regionSize up 12 = 8192 := by decide +kernel
    obtain rfl : j = 8191 := by omega
    decide +kernel

theorem test_hyp_TableSearches_banks :
    tableWaits up w0 ([] ++ [tblWord 3 4 0]) = false ∧ tableWaits up w0 ([] ++ [tblWord 4 4 0]) = false ∧ tableWaits up w0 ([] ++ [tblWord 5 4 0]) = false ∧
    tableWaits up w0 ([] ++ [tblWord 6 12 8190]) = false ∧ granuleShared up 12 = false ∧
    (let s := ent 12 8191 [0x80000000, 0, 0, 0, 0, 0, 0, 0]
     parOk 12 (entryAt (sparAt (tableBegun s w0 6 12 8190 []) 12 8191) 12 8191) = true) := by decide +kernel

/-- A learn request of station 7, and the place of its entry. -/
def learn7 : LearnReq := { fid := 0, mac := 7, ref := 4, refresh := false, notice := false }
def at7 : Nat := (bucketOf up 0 (fdbKey 0 7)).getD 0 0
/-- `up`, learning, with `q` waiting and `e` as station 7's entry. -/
def fdb (q : LearnReq) (e : List Word) : State :=
  let s := (fdbPut up at7 e).wr .FDB_CFG 0 0 0xC0000000
  { s with tbl := { s.tbl with queue := [q], agePos := at7 } }

theorem test_hyp_LearningAgingAndFlushing :
    (up.tbl.queue = [] ∧ closed (heldBlk 20) 20 = true) ∧
    (let s := fdb learn7 []
     closed s 20 = false ∧ s.tbl.queue = learn7 :: [] ∧ tst (s.rw .FDB_CFG) 31 = true ∧ s.roast.guardRegions.testBit 0 = false ∧
      findKey s 0 (fdbKey 0 7) = (none, []) ∧ freePlace s 0 (fdbKey 0 7) = some at7 ∧ learn7.refresh = false ∧
      ({ learn7 with refresh := true } : LearnReq).refresh = true ∧ tst ((s.wr .FDB_CFG 0 0 0).rw .FDB_CFG) 31 = false) ∧
    (let s : State := { (fdb learn7 []) with roast := { up.roast with guardRegions := 1 } }
     s.roast.guardRegions.testBit 0 = true) ∧
    (let s := fdb learn7 [0, 7, 0x80004004, 0x42000000]
     findKey s 0 (fdbKey 0 7) = (some at7, []) ∧ oddOnes [(entryAt s 0 at7).getD 3 0] = false ∧ isGuard 0 (entryAt s 0 at7) = false ∧
      fdbStatic (entryAt s 0 at7) = false ∧ fdbKind (entryAt s 0 at7) = true ∧ fdbDest (entryAt s 0 at7) % 1024 = learn7.ref ∧
      fdbAge (entryAt s 0 at7) ≠ 0 ∧ tst (s.rw .FDB_CFG) 30 = true ∧ closed s 20 = false ∧ parOk 0 (entryAt s 0 s.tbl.agePos) = true ∧
      isValid 0 (entryAt s 0 s.tbl.agePos) = true ∧ fdbAge (entryAt s 0 s.tbl.agePos) ≠ 3) ∧
    (let s := fdb learn7 [0, 7, 0x98004008, 0xC0000000]
     findKey s 0 (fdbKey 0 7) = (some at7, []) ∧ fdbStatic (entryAt s 0 at7) = true ∧ fdbAge (entryAt s 0 at7) = 3) ∧
    (let s := fdb learn7 [0, 7, 0x88004008, 0xC0000000]
     findKey s 0 (fdbKey 0 7) = (some at7, []) ∧ oddOnes [(entryAt s 0 at7).getD 3 0] = false ∧ isGuard 0 (entryAt s 0 at7) = false ∧
      fdbStatic (entryAt s 0 at7) = false ∧ fdbKind (entryAt s 0 at7) = true ∧ fdbDest (entryAt s 0 at7) % 1024 ≠ learn7.ref ∧
      fdbFlap (entryAt s 0 at7) = true ∧ fdbAge (entryAt s 0 s.tbl.agePos) = 3) ∧
    (let s := fdb learn7 [0, 7, 0x80004008, 0]
     findKey s 0 (fdbKey 0 7) = (some at7, []) ∧ isGuard 0 (entryAt s 0 at7) = false ∧ fdbStatic (entryAt s 0 at7) = false ∧
      fdbKind (entryAt s 0 at7) = true ∧ fdbDest (entryAt s 0 at7) % 1024 ≠ learn7.ref ∧ fdbFlap (entryAt s 0 at7) = false) := by decide +kernel

theorem test_hyp_LearningAgingAndFlushing_sweeps :
    tst ((upr .FDB_CFG 0 0 0).rw .FDB_CFG) 30 = false ∧ up.tbl.flush = false ∧
    (let s : State := { (upr .FDB_CFG 0 0 0xC0000000) with tbl := { up.tbl with flush := true, flushPos := 65536, waiting := [3] } }
     tst (s.rw .FDB_CFG) 30 = true ∧ closed s 20 = false ∧ parOk 0 (entryAt s 0 s.tbl.agePos) = true ∧ isValid 0 (entryAt s 0 s.tbl.agePos) = false ∧
      s.tbl.flush = true ∧ 65536 ≤ s.tbl.flushPos ∧ s.tbl.waiting ≠ [] ∧ up.tbl.waiting = [] ∧ up.tbl.flushPos < 65536) ∧
    parOk 0 (entryAt (up.setTw 0 1) 0 (up.setTw 0 1).tbl.agePos) = false := by decide +kernel

theorem mfind_listed (l : List Nat) (g : Nat → Nat) (v : Word) (k : Nat) :
    mfind (l.map (fun i => (g i, v))) k = if k ∈ l.map g then some v else none := by
  induction l with
  | nil => rfl
  | cons a t ih =>
    by_cases h : g a = k
    · simp [mfind, h]
    · simp [mfind, h, ih, Ne.symm h]

/-- Station 7's bucket and the whole overflow store. -/
def fullPlaces : List Nat := bucketOf up 0 (fdbKey 0 7) ++ (List.range 2048).map (· + 262144)
/-- `up` with an entry of station 0 at each of these places. -/
def fdbFull : State := { up with tbl := { up.tbl with mem := fullPlaces.map (fun i => (entryAddr up 0 i + 2, 0xA0000000)) } }

theorem fdbFull_entry (i : Nat) (h : i ∈ fullPlaces) : entryAt fdbFull 0 i = [0, 0, 0xA0000000, 0] := by
  have m (k : Nat) : entryAddr up 0 k % 4 = 0 := by unfold entryAddr; simp; split <;> omega
  have a : entryAddr fdbFull 0 i = entryAddr up 0 i := rfl
  have t (k : Nat) : fdbFull.tw k = if k ∈ fullPlaces.map (fun i => entryAddr up 0 i + 2) then 0xA0000000 else 0 := by
    show (mfind (fullPlaces.map (fun i => (entryAddr up 0 i + 2, (0xA0000000 : Word)))) k).getD 0 = _
    rw [mfind_listed fullPlaces (fun i => entryAddr up 0 i + 2)]; split <;> rfl
  have n (d : Nat) (hd : d ≠ 2) (h4 : d < 4) : entryAddr up 0 i + d ∉ fullPlaces.map (fun i => entryAddr up 0 i + 2) := by
    intro hm
    obtain ⟨j, _, hj⟩ := List.mem_map.1 hm
    have := m i; have := m j; omega
  have y : entryAddr up 0 i + 2 ∈ fullPlaces.map (fun i => entryAddr up 0 i + 2) := List.mem_map.2 ⟨i, h, rfl⟩
  have z := n 0 (by decide) (by decide)
  show [fdbFull.tw (entryAddr fdbFull 0 i + 0), fdbFull.tw (entryAddr fdbFull 0 i + 1), fdbFull.tw (entryAddr fdbFull 0 i + 2),
    fdbFull.tw (entryAddr fdbFull 0 i + 3)] = _
  rw [a, t, t, t, t, if_neg z, if_neg (n 1 (by decide) (by decide)), if_pos y, if_neg (n 3 (by decide) (by decide))]

theorem bucketOf_fdbFull (k : Nat) : bucketOf fdbFull 0 k = bucketOf up 0 k := rfl

theorem fdbFull_places (i : Nat) (h : i ∈ places fdbFull 0 (fdbKey 0 7)) : i ∈ fullPlaces := by
  have b : ∀ j ∈ bucketOf up 0 (fdbKey 0 7), j < 262144 := by decide +kernel
  unfold places at h
  rw [bucketOf_fdbFull] at h
  rcases List.mem_append.1 h with h | h
  · exact List.mem_append_left _ h
  · simp only [if_true, ovfUsed] at h
    obtain ⟨j, hj, rfl⟩ := List.mem_map.1 h
    obtain ⟨p, hp, rfl⟩ := List.mem_map.1 (List.mem_dedup.1 hj)
    obtain ⟨hp, hl⟩ := List.mem_filter.1 hp
    obtain ⟨q, hq, rfl⟩ := List.mem_map.1 (show p ∈ fullPlaces.map (fun i => (entryAddr up 0 i + 2, (0xA0000000 : Word))) from hp)
    have hl : 6291456 ≤ entryAddr up 0 q + 2 := by simpa using hl
    have hb : entryAddr up 0 q = if q < 262144 then 4 * q else 6291456 + 4 * (q - 262144) := by simp [entryAddr]
    have e : (entryAddr up 0 q + 2 - 6291456) / 4 + 262144 = q := by split at hb <;> omega
    exact e.symm ▸ hq

theorem fdbFull_valid (i : Nat) (h : i ∈ fullPlaces) :
    isValid 0 (entryAt fdbFull 0 i) = true ∧ parOk 0 (entryAt fdbFull 0 i) = true ∧ entryKey 0 (entryAt fdbFull 0 i) = 0 := by
  rw [fdbFull_entry i h]; decide +kernel

theorem findKey_none (s : State) (r key : Nat)
    (h : ∀ i ∈ places s r key, parOk r (entryAt s r i) = true ∧ (entryKey r (entryAt s r i) % keyMask s r == key % keyMask s r) = false) :
    findKey s r key = (none, []) := by
  unfold findKey
  refine Prod.ext (List.find?_eq_none.2 fun i hi => ?_) (List.filter_eq_nil_iff.2 fun i hi => ?_)
  · simp [(h i hi).2]
  · simp [(h i hi).1]

theorem test_hyp_LearningAgingAndFlushing_full :
    findKey fdbFull 0 (fdbKey 0 7) = (none, []) ∧ freePlace fdbFull 0 (fdbKey 0 7) = none := by
  constructor
  · refine findKey_none _ _ _ fun i hi => ?_
    obtain ⟨_, p, c⟩ := fdbFull_valid i (fdbFull_places i hi)
    have k : ((0 : Nat) % keyMask fdbFull 0 == fdbKey 0 7 % keyMask fdbFull 0) = false := by decide +kernel
    exact ⟨p, by rw [c]; exact k⟩
  · have no (i : Nat) (h : i ∈ fullPlaces) : ¬ (!isValid 0 (entryAt fdbFull 0 i) && parOk 0 (entryAt fdbFull 0 i)) = true := by
      rw [(fdbFull_valid i h).1]; exact Bool.false_ne_true
    have one := List.find?_eq_none.2 (fun i hi => no i (List.mem_append_left _ hi))
    have two := List.find?_eq_none.2 (fun i hi => no i (List.mem_append_right (bucketOf up 0 (fdbKey 0 7)) hi))
    unfold freePlace
    rw [bucketOf_fdbFull]
    simp only [one, two, if_true]

theorem test_hyp_LearningAgingAndFlushing_banks :
    (∀ i ∈ [(bucketOf (fdb learn7 []) 0 (fdbKey learn7.fid learn7.mac)).headD 0, 262144], fdbAwake (fdb learn7 []) i = true) ∧
    (let s := (fdb learn7 []).setDom 202 {}
     s.tbl.queue = learn7 :: [] ∧ ∃ i ∈ [(bucketOf s 0 (fdbKey learn7.fid learn7.mac)).headD 0, 262144], fdbAwake s i = false) ∧
    (fdbAwake (dom 202 {}) (dom 202 {}).tbl.agePos = false ∧ fdbAwake up up.tbl.agePos = true ∧ 3 ≤ (upr .FDB_CFG 0 0 0x40000003).rf .FDB_CFG 0 0 0 16) ∧
    (fdbAwake up (min 262144 (4 * 65536)) = true ∧ fdbAwake (dom 202 {}) (min 262144 (4 * 65536)) = false) := by decide +kernel

theorem test_hyp_LearningAgingAndFlushing_flush :
    (let s := up.setTw 0 1
     parOk 0 (entryAt s 0 0) = false ∧ parOk 0 (entryAt s 0 1) = true ∧ isValid 0 (entryAt s.drawn 0 1) = false) ∧
    (let e := entryAt (fdb learn7 [0, 7, 0x80004004, 0]).drawn 0 at7
     isValid 0 e = true ∧ oddOnes [e.getD 3 0] = false ∧ isGuard 0 e = false) ∧
    flushMatch up 0 (entryAt (fdb learn7 [0, 7, 0x80004004, 0]).drawn 0 at7) = true ∧
    flushMatch up 0x40000005 (entryAt (fdb learn7 [0, 7, 0x80004004, 0]).drawn 0 at7) = false ∧
    (({ up with roast := { up.roast with guardRegions := 1 } } : State).roast.guardRegions.testBit 0 = true ∧ up.tbl.flushGuard = false) ∧
    (fld (0xE0FFF3FF : Word) 24 5 = 0 ∧ fld (0xE0FFF3FF : Word) 10 2 = 0) := by decide +kernel

theorem test_hyp_RedundancySweeps :
    closed (heldBlk 19) 19 = true ∧ closed up 19 = false ∧ (parOk 12 (entryAt up 12 up.red.nodePos) = true ∧
      isValid 12 (entryAt up 12 up.red.nodePos) = false) ∧
    (let s : State := { up with red := { up.red with nodePos := 8192 } }
     regionSize s 12 ≤ s.red.nodePos) ∧
    (let s := up.setTw (entryAddr up 12 0) 1
     0 < regionSize s 12 ∧ parOk 12 (entryAt s 12 s.red.nodePos) = false) ∧
    (let s := ent 12 0 [0x80800000, 0, 0, 0, 0, 0, 0, 0]
     closed s 19 = false ∧ s.red.nodePos < regionSize s 12 ∧ parOk 12 (entryAt s 12 0) = true ∧ isValid 12 (entryAt s 12 0) = true ∧
      tst ((entryAt s 12 0).getD 0 0) 23 = true ∧ tst ((entryAt s 12 0).getD 0 0) 28 = false ∧ isGuard 12 (entryAt s 12 0) = false ∧
      s.roast.guardRegions.testBit 12 = false ∧ fld ((entryAt s 12 0).getD 0 0) 21 2 ≠ 3) ∧
    (let s := ent 12 0 [0x81000000, 0, 0, 0, 0, 0, 0, 0]
     isValid 12 (entryAt s 12 0) = true ∧ tst ((entryAt s 12 0).getD 0 0) 23 = false ∧ tst ((entryAt s 12 0).getD 0 0) 24 = true) ∧
    (let s := ent 12 0 [0x80600000, 0, 0, 0, 0, 0, 0, 0]
     isValid 12 (entryAt s 12 0) = true ∧ tst ((entryAt s 12 0).getD 0 0) 23 = false ∧ tst ((entryAt s 12 0).getD 0 0) 24 = false ∧
      fld ((entryAt s 12 0).getD 0 0) 21 2 = 3) ∧
    (let s := ent 12 0 [0x90000000, 0, 0, 0, 0, 0, 0, 0]
     isValid 12 (entryAt s 12 0) = true ∧ tst ((entryAt s 12 0).getD 0 0) 28 = true) ∧
    (let s := ent 9 0 [0x80000000, 0, 0, 0]
     s.red.recPos < regionSize s 9 ∧ parOk 9 (entryAt s 9 0) = true ∧ isValid 9 (entryAt s 9 0) = true ∧ fld ((entryAt s 9 0).getD 0 0) 27 2 ≠ 1) ∧
    (let s := ent 9 0 [0x8A000000, 0, 0, 0]
     isValid 9 (entryAt s 9 0) = true ∧ fld ((entryAt s 9 0).getD 0 0) 27 2 = 1 ∧ tst ((entryAt s 9 0).getD 0 0) 25 = true) ∧
    (let s := ent 9 0 [0x88000000, 0, 0, 0]
     isValid 9 (entryAt s 9 0) = true ∧ fld ((entryAt s 9 0).getD 0 0) 27 2 = 1 ∧ tst ((entryAt s 9 0).getD 0 0) 25 = false ∧
      tst ((entryAt s 9 0).getD 0 0) 26 = false) ∧
    (let s : State := { ((ent 9 0 [0x88000000, 0x40000000, 0, 0]).wr .RED_CFG 0 0 0x20000000) with red := { up.red with latPos := 8192 } }
     tst (s.rw .RED_CFG) 29 = true ∧ regionSize s 12 ≤ s.red.latPos ∧ s.red.latPos - regionSize s 12 < regionSize s 9 ∧
      parOk 9 (entryAt s 9 0) = true ∧ isValid 9 (entryAt s 9 0) = true) ∧
    tst ((upr .RED_CFG 0 0 0).rw .RED_CFG) 29 = false := by decide +kernel

theorem test_hyp_RedundancySweeps_asleep :
    (closed (dom 233 {}) 19 = false ∧ domOn (dom 233 {}) 233 = false ∧ domOn up 233 = true) ∧
    (let s := dom (tblDom (entryAddr up 12 0)) {}
     domOn s 233 = true ∧ 0 < regionSize s 12 ∧ domOn s (tblDom (entryAddr s 12 0)) = false) ∧
    (let s := dom (tblDom (entryAddr up 9 0)) {}
     domOn s 233 = true ∧ 0 < regionSize s 9 ∧ domOn s (tblDom (entryAddr s 9 0)) = false) ∧
    (domOn up (tblDom (entryAddr up 12 0)) = true ∧ domOn up (tblDom (entryAddr up 9 0)) = true) ∧
    (nodeTimeBad up = false ∧ frerTimeBad up = false ∧ leTimeBad up = false) := by decide +kernel

/-- `gated` with preemption active at port 8 and a first entry that starts with Set-And-Hold-MAC (OP 1). -/
def holding : State := (putEntry gated 6 1 [put 30 2 1 ||| 0xFF, 10000000]).wr .MAC_MM_CFG 8 0 0xC0000000
/-- `gated` with a change of configuration due. -/
def changing : State := (gated.wr .SCH_CHANGE_SEC_LO 8 0 100).setSch 8 { pending := true }

theorem test_hyp_GateLists :
    ((up.sch 8).running = false ∧ closed (heldBlk 18) 18 = true ∧ gNext up 8 (gPos up 8) = none ∧ (up.sch 8).pending = false ∧ (up.sch 8).hold = false) ∧
    ((gated.sch 8).running = true ∧ closed gated 18 = false ∧
      gNext gated 8 (gPos gated 8) = some ⟨false, 1, 100 * 1000000000 + 10000000, 100 * 1000000000, 10000000⟩ ∧
      (gated.now : Int) < 100 * 1000000000 + 10000000 ∧ gBad gated 8 (operList gated 8) = false ∧ mmActive gated 8 = false ∧
      (gEnt gated (operList gated 8) 1).ok = true) ∧
    (let s : State := { gated with time := { gated.time with now := { sec := 100, ns := 10000000 } } }
     gNext s 8 (gPos s 8) = some ⟨false, 1, 100 * 1000000000 + 10000000, 100 * 1000000000, 10000000⟩ ∧ (100 * 1000000000 + 10000000 : Int) ≤ s.now) ∧
    (gNext holding 8 (gPos holding 8) = some ⟨false, 1, 100 * 1000000000 + 10000000, 100 * 1000000000, 10000000⟩ ∧
      (gEnt holding (operList holding 8) 1).op = 1 ∧ mmActive holding 8 = true ∧ closed holding 18 = false ∧
      (holding.now : Int) + holding.rf .SCH_GUARD 8 0 16 16 < 100 * 1000000000 + 10000000) ∧
    (let s : State := { holding with time := { holding.time with now := { sec := 100, ns := 10000000 } } }
     gNext s 8 (gPos s 8) = some ⟨false, 1, 100 * 1000000000 + 10000000, 100 * 1000000000, 10000000⟩ ∧
      (100 * 1000000000 + 10000000 : Int) ≤ s.now + s.rf .SCH_GUARD 8 0 16 16) ∧
    ((changing.sch 8).pending = true ∧ closed changing 18 = false ∧ changeTime changing 8 ≤ (changing.now : Int) ∧
      gNext changing 8 (gPos changing 8) = some ⟨true, 0, 100 * 1000000000, 100 * 1000000000, 10000000⟩) ∧
    ((up.setSch 0 { hold := true }).sch 0).hold = true := by decide +kernel

theorem test_hyp_GateLists_closing :
    (let x : GPos := ⟨false, 1, 100 * 1000000000 + 10000000, 100 * 1000000000, 10000000⟩
     lastTick gated x.start = false ∧ placeBad gated 8 x = false ∧
     (let s : State := { gated with time := { gated.time with now := { sec := 100, ns := 9999997 } } }
      gNext s 8 (gPos s 8) = some x ∧ (s.now : Int) < x.start ∧ lastTick s x.start = true)) ∧
    (let s : State := { changing with time := { changing.time with now := { sec := 99, ns := 999999999 } } }
     (s.now : Int) < changeTime s 8 ∧ lastTick s (changeTime s 8) = true) ∧
    (let s : State := { changing with time := { changing.time with now := { sec := 99 } } }
     (s.now : Int) < changeTime s 8 ∧ lastTick s (changeTime s 8) = false) := by decide +kernel

theorem test_hyp_TimekeeperAndSteps :
    State.reset.time.pllLost = true ∧ (up.time.pllLost = false ∧ up.time.cmd = none ∧ up.time.autoStep = none) ∧ freqNow up = 0 ∧
    ({ up with time := { up.time with autoStep := some 5 } } : State).time.autoStep = some 5 ∧
    (({ up with time := { up.time with cmd := some (2, { ns := 999999999 }) } } : State).time.cmd = some (2, { ns := 999999999 }) ∧
      ({ ns := 999999999 } : TimeVal).ns ≤ 999999999) ∧ (2 ^ 64 * 1000000000 * 2 ^ 32 - 1 < 2 ^ 64 * 1000000000 * 2 ^ 32) ∧
    (Reached up w0 ⟨.TK_CMD, 0, 0⟩ ∧ MayWrite up w0 ⟨.TK_CMD, 0, 0⟩ ∧ fld (put 29 3 1) 29 3 = 1 ∧ fld (put 29 3 2) 29 3 = 2 ∧
      fld (put 29 3 3) 29 3 = 3 ∧ fld (put 29 3 4) 29 3 = 4 ∧ fld (put 29 3 5) 29 3 = 5) ∧
    (let s : State := { up with time := { up.time with pllLost := true, begun := true } }
     s.time.pllLost = true ∧ s.time.begun = true) ∧ State.reset.time.ticks = 0 := by unfold Reached MayWrite; decide +kernel

/-- A PTP frame of message type `ty`, its header and body `m` from byte 8 on. -/
def ptp (ty : Byte) (at_ : List (Nat × Bytes)) : Bytes :=
  eth 1 2 0x88F7 (at_.foldl (fun b x => patch b x.1 x.2) (ty :: 0x02 :: List.replicate 62 0))
/-- `up` with PTP domain 0 served as `cfg` says besides, and port 4 its parent. -/
def ptpUp (cfg : Word) : State := (upr .TK_DOM_CFG 0 0 (0x80000000 ||| cfg)).wr .TK_SERVO_SRC 0 0 0x40000004
/-- The body of a PTP frame as the engine takes it. -/
def ptpBodyOf (f : Bytes) : Bytes := (ptpBody up 4 f).getD []

theorem test_hyp_PtpMessagesReceived :
    closed (heldBlk 21) 21 = true ∧
    (let s := ptpUp 0
     closed s 21 = false ∧ domOn s 220 = true ∧
     (∀ ty ∈ [(0 : Byte), 1, 2, 3, 8, 9, 0xA, 0xB], ptpBody s 4 (ptp ty []) = some (ptpBodyOf (ptp ty [])) ∧ msgDom s (ptpBodyOf (ptp ty [])) = some 0 ∧
       beAt (ptpBodyOf (ptp ty [])) 0 1 % 16 = ty.toNat) ∧
     fromParent s 0 4 = true ∧ fromParent s 0 8 = false ∧ domTwoStep s 0 = false ∧ domP2p s 0 = false ∧ ptpRuns s = true ∧ servoSrc s = 1 ∧
     0 = parentDom s ∧ ptpBody s 8 (ptp 0 []) = some (ptpBodyOf (ptp 0 []))) ∧
    (let s := ptpUp 0x10000000
     fromParent s 0 4 = true ∧ domTwoStep s 0 = true ∧ msgDom s (ptpBodyOf (ptp 8 [])) = some 0) ∧
    (let s : State := { ptpUp 0x10000000 with time := { up.time with fuWait := some (7, 1, 2) } }
     s.time.fuWait = some (beAt (ptpBodyOf (ptp 8 [(30, [0, 7])])) 30 2, 1, 2) ∧ 7 ≠ beAt (ptpBodyOf (ptp 8 [])) 30 2) ∧
    (wd (beAt (ptpBodyOf (ptp 0xB [])) 53 4) = (ptpUp 0).rw .TK_GM_ID_HI ∧ wd (beAt (ptpBodyOf (ptp 0xB [])) 57 4) = (ptpUp 0).rw .TK_GM_ID_LO ∧
      wd (beAt (ptpBodyOf (ptp 0xB [(53, [1])])) 53 4) ≠ (ptpUp 0).rw .TK_GM_ID_HI) ∧
    (ptpRuns (heldBlk 21) = false) := by decide +kernel

theorem test_hyp_PtpMessagesReceived_delays :
    (let s : State := { (ptpUp 0) with time := { up.time with dreq := some (7, some 0), lastSync := some (0, 0, 0) } }
     let b := ptpBodyOf (ptp 9 [(30, [0, 7]), (44, beBytes 10 5)])
     ptpBody s 4 (ptp 9 [(30, [0, 7]), (44, beBytes 10 5)]) = some b ∧ msgDom s b = some 0 ∧ fromParent s 0 4 = true ∧ domP2p s 0 = false ∧
      beAt b 0 1 % 16 = 9 ∧ beAt b 44 10 = portId s 4 ∧ s.time.dreq = some (7, some 0) ∧ s.time.lastSync = some (0, 0, 0) ∧ 7 = beAt b 30 2 ∧
      rawOk { ptpTake s 0 4 with time := { (ptpTake s 0 4).time with dreq := none } } 4
        (((0 : Int) - 0 - 0 + (stampAt s b 34 - 0 - cfAt b)) * 32768) = true) ∧
    (let s : State := { (ptpUp 0) with time := { up.time with dreq := some (7, some 65536), lastSync := some (0, 0, 0) } }
     let b := ptpBodyOf (ptp 9 [(30, [0, 7]), (44, beBytes 10 5)])
     rawOk { ptpTake s 0 4 with time := { (ptpTake s 0 4).time with dreq := none } } 4
        (((0 : Int) - 0 - 0 + (stampAt s b 34 - 65536 - cfAt b)) * 32768) = false) ∧
    (let s := (ptpUp 0).wr .TK_PSTATE 0 0 (put 16 2 2)
     let b := ptpBodyOf (ptp 1 [])
     ptpBody s 8 (ptp 1 []) = some b ∧ msgDom s b = some 0 ∧ beAt b 0 1 % 16 = 1 ∧ domP2p s 0 = false ∧
      s.rf .TK_PSTATE 0 (8 / 16) (2 * (8 % 16)) 2 = 2 ∧ fromParent s 0 8 = false) ∧
    (let s := (ptpUp 0x20000000).wr .TK_PORT_CFG 8 0 0x40000000
     let b := ptpBodyOf (ptp 2 [])
     ptpBody s 8 (ptp 2 []) = some b ∧ msgDom s b = some 0 ∧ beAt b 0 1 % 16 = 2 ∧ tst (s.rw .TK_PORT_CFG 8) 30 = true ∧ domP2p s 0 = true ∧
      domTwoStep s 0 = false) := by decide +kernel

/-- `up` with an outstanding peer-delay request of port 8 in domain 0. -/
def pdUp (x : Pd) : State :=
  let s := (ptpUp 0x20000000).wr .TK_PORT_CFG 8 0 0x80000000
  { s with time := { s.time with pds := [(8, { x with sent := true, t1 := some 1 })] } }
/-- A response to it. -/
def pdResp (ty : Byte) (flags : Byte) : Bytes := ptp ty [(6, [flags]), (20, [1]), (44, beBytes 10 9)]

theorem test_hyp_PtpMessagesReceived_peer :
    (let s := pdUp {}
     ptpBody s 8 (pdResp 3 2) = some (ptpBodyOf (pdResp 3 2)) ∧ msgDom s (ptpBodyOf (pdResp 3 2)) = some 0 ∧
      pdMatch s 0 8 (ptpBodyOf (pdResp 3 2)) = true ∧ beAt (ptpBodyOf (pdResp 3 2)) 0 1 % 16 = 3 ∧ (mget {} s.time.pds 8).who = none ∧
      nbit (beAt (ptpBodyOf (pdResp 3 2)) 6 1) 1 = true ∧ nbit (beAt (ptpBodyOf (pdResp 3 0)) 6 1) 1 = false ∧
      pdMatch s 0 8 (ptpBodyOf (pdResp 3 0)) = true ∧ pdMatch up 0 8 (ptpBodyOf (pdResp 3 0)) = false) ∧
    (let s := pdUp { who := some 5 }
     pdMatch s 0 8 (ptpBodyOf (pdResp 3 0)) = true ∧ (mget {} s.time.pds 8).who = some 5 ∧ 5 ≠ beAt (ptpBodyOf (pdResp 3 0)) 20 10) ∧
    (let s := pdUp { who := some (2 ^ 72), wait := some (4, 3, 0) }
     pdMatch s 0 8 (ptpBodyOf (pdResp 0xA 0)) = true ∧ beAt (ptpBodyOf (pdResp 0xA 0)) 0 1 % 16 = 0xA ∧
      (mget {} s.time.pds 8).wait = some (4, 3, 0) ∧ (mget {} s.time.pds 8).who = some (beAt (ptpBodyOf (pdResp 0xA 0)) 20 10)) := by decide +kernel

theorem test_hyp_PtpMessagesReceived_others :
    (let s := pdUp { who := some 5, multi := true }
     (mget {} s.time.pds 8).who = some 5 ∧ (mget {} s.time.pds 8).multi = true ∧ pdMatch s 0 8 (ptpBodyOf (pdResp 3 0)) = true) ∧
    (let s := pdUp { who := some 5, done := true }
     (mget {} s.time.pds 8).multi = false ∧ (mget {} s.time.pds 8).prior = none ∧ (mget {} s.time.pds 8).done = true ∧
      pdMatch s 0 8 (ptpBodyOf (pdResp 3 0)) = true) ∧
    (let s := pdUp { who := some (2 ^ 72) }
     pdMatch s 0 8 (ptpBodyOf (pdResp 3 0)) = true ∧ (mget {} s.time.pds 8).who = some (beAt (ptpBodyOf (pdResp 3 0)) 20 10)) := by decide +kernel

/-- A message of the engine. -/
def ptpMsg (kind due : Nat) : PtpMsg := { kind := kind, dom := 0, port := 8, seq := 0, body := List.replicate 44 0, due := due }

theorem test_hyp_PtpMessagesSent :
    (let s : State := { up with time := { up.time with fus := [ptpMsg 8 0], pfus := [ptpMsg 0xA 0] } }
     ptpRuns s = true ∧ s.time.fus = ptpMsg 8 0 :: [] ∧ s.time.pfus = ptpMsg 0xA 0 :: []) ∧
    ptpRuns (heldBlk 21) = false ∧ domBc up 0 = false ∧ closed (heldBlk 21) 21 = true ∧
    (let s := ptpUp 0x40000000
     ptpRuns s = true ∧ domBc s 0 = true ∧ masterPorts s 0 = []) ∧
    (let s := (ptpUp 0x40000000).wr .TK_PSTATE 0 0 (put 16 2 2)
     domBc s 0 = true ∧ masterPorts s 0 = [8]) ∧
    (let s := (ptpUp 0x20000000).wr .TK_PORT_CFG 8 0 0x80000000
     ptpRuns s = true ∧ portPresent s 8 = true ∧ tst (s.rw .TK_PORT_CFG 8) 31 = true ∧ 0 = fld (s.rw .TK_PORT_CFG 8) 28 2 ∧
      domServed s 0 = true ∧ (mget {} s.time.pds 8).sent = false) ∧
    (let s := ptpUp 0
     ptpRuns s = true ∧ servoSrc s = 1 ∧ 0 = parentDom s ∧ 4 = parentPort s ∧ domServed s 0 = true ∧ domP2p s 0 = false ∧ portPresent s 4 = true) ∧
    (let s : State := { up with time := { up.time with retry := [ptpMsg 0 0] } }
     closed s 21 = false ∧ s.time.retry = [ptpMsg 0 0] ∧ (ptpMsg 0 0).kind = 0 ∧
      (ptpMsg 0 0).due + 200000 < ({ s with time := { s.time with ticks := 50001 } } : State).mono ∧ s.mono ≤ (ptpMsg 0 0).due + 200000 ∧ (ptpMsg 3 0).kind ≠ 0) := by decide +kernel

theorem test_hyp_PtpMessagesSent_pools :
    (let s := (ptpUp 0x40000000).wr .TK_PSTATE 0 0 (put 16 2 2 ||| put 24 2 2)
     masterPorts s 0 = [8, 12]) ∧
    (let s := pdUp {}
     (mget {} s.time.pds 8).sent = true ∧ (mget {} s.time.pds 8).done = false ∧ fld (s.rw .TK_PORT_PD_STATUS 8) 0 2 ≤ 1) ∧
    ((lbmTake up 2 ((pad60 (ptpFrame up (ptpMsg 0 0))).length + 16)).1.isSome = true ∧
      pairOf (lbmTake up 2 ((pad60 (ptpFrame up (ptpMsg 0 0))).length + 16)).2
        (portRef (lbmTake up 2 ((pad60 (ptpFrame up (ptpMsg 0 0))).length + 16)).2 (ptpMsg 0 0).port) = none ∧
      (ptpMsg 0 0).kind ≠ 2 ∧ (ptpMsg 0 0).kind ≠ 3 ∧ msgWild up (ptpMsg 0 0) = false) ∧
    (let s := up.setBlk 24 { closed := true }
     msgWild s (ptpMsg 0 0) = false ∧ (lbmTake s 2 ((pad60 (ptpFrame s (ptpMsg 0 0))).length + 16)).1 = none) := by decide +kernel

theorem test_hyp_TimeInputsAndOutputs :
    (tioRuns (heldBlk 22) = false ∧ tst (up.rw .TIO_PPS_IN_CFG) 31 = false ∧ 1 < 2) ∧
    (let s : State := { (upr .TIO_PPS_IN_CFG 0 0 0x80000000) with time := { up.time with ppsTick := some 1000 } }
     tioRuns s = true ∧ tst (s.rw .TIO_PPS_IN_CFG) 31 = true ∧ ppsBall s = true ∧ s.time.ppsTick = some 1000 ∧ s.time.ticks < 1000 + 225000000) ∧
    (let s := upr .TIO_PPS_IN_CFG 0 0 0x80000000
     s.time.ppsTick = none ∧ servoSrc s ≠ 2 ∧ servoSrc (s.wr .TK_SERVO_SRC 0 0 0x80000000) = 2) ∧
    (tst (up.rw .TIO_PPS_OUT 1) 31 = false ∧ mget false up.time.pps 1 = false ∧ up.twin.role ≠ .releasing) ∧
    (let s : State := { (upr .TIO_PPS_OUT 1 0 0x80000064) with time := { up.time with pps := [(1, true)] } }
     tst (s.rw .TIO_PPS_OUT 1) 31 = true ∧ mget false s.time.pps 1 = true ∧ tioRuns s = true) ∧
    (let s := (role .releasing).wr .TIO_PPS_OUT 0 0 0x80000064
     tst (s.rw .TIO_PPS_OUT 0) 31 = true ∧ mget false s.time.pps 0 = false ∧ s.twin.role = .releasing) ∧
    (let s := upr .TIO_IRIG_CFG 0 0 0x80000000
     tioRuns s = true ∧ tst (s.rw .TIO_IRIG_CFG) 27 = false ∧ tst (s.rw .TIO_IRIG_TIME) 15 = false ∧ tst (s.rw .TIO_IRIG_TIME) 14 = false ∧
      s.twin.role ≠ .releasing ∧ tst (s.rw .TIO_IRIG_CFG) 31 = true ∧ tst (up.rw .TIO_IRIG_CFG) 31 = false) ∧
    (let s : State := { (role .active) with twin := { up.twin with role := .active, edges := 2 }, time := { up.time with corr := 5 } }
     s.time.corr = 5 ∧ s.twin.role = .active ∧ 2 ≤ s.twin.edges) := by decide +kernel

/-- A launch of a 60-byte frame at 100 s. -/
def launch : Launch := { t := 100 * 1000000000, ctx := 0, lane := 0, pfx := [100, 0, 0, 0], inner := List.replicate 60 0, cells := [0], dropLate := false }
/-- A launch frame to the control address from context 0. -/
def launchFrame (sa : Nat) : Bytes := eth 0xD0 sa 0x88B6 (wsBytes [100, 0, 0, 0] ++ List.replicate 60 0)

theorem test_hyp_EndpointLaunches :
    rxReady (up.setMac 128 {}) 128 = false ∧ rxReady ctlUp 129 = true ∧
    rxError { bytes := [], maxLen := macMaxLen ctlUp 129 } false false = some 21 ∧
    (let f := launchFrame 0xA0
     let u := countRxGood ctlUp 128 f
     rxError { bytes := f, maxLen := macMaxLen ctlUp 128 } false false = none ∧ (etherHead f).2.1 = 0x88B6 ∧ beAt f 0 6 = controlMac u ∧
      closed u 23 = false ∧ ctxMatch (trigger u 1 234) 0 (beAt f 6 6) ((etherHead f).1.map (· % 4096)) = some 0 ∧
      ctxMatch (trigger u 1 234) 0 (beAt (launchFrame 0xFF) 6 6) ((etherHead (launchFrame 0xFF)).1.map (· % 4096)) = none ∧
      closed (countRxGood (ctlUp.setBlk 23 { closed := true }) 128 f) 23 = true) ∧
    ((etherHead good).2.1 ≠ 0x88B6) ∧
    ((List.replicate 4096 launch).length = 4096) := by
  exact ⟨by decide +kernel, by decide +kernel, by decide +kernel, by and_intros <;> decide +kernel, by decide +kernel, List.length_replicate⟩

theorem test_hyp_EndpointLaunches_store :
    (up.ept.launches = [] ∧ closed (heldBlk 23) 23 = true ∧ up.ept.launches.length < 4096 ∧
      holdUsed up + ceilDiv (60 + 4) 128 ≤ up.within 80 262144 (up.rn .EPT_HOLD_MAX)) ∧
    (let s : State := { (upr .EPT_HOLD_MAX 0 0 80) with ept := { launches := [{ launch with cells := List.range 80 }] } }
     s.within 80 262144 (s.rn .EPT_HOLD_MAX) < holdUsed s + ceilDiv (60 + 4) 128) ∧
    (up.now + 1000000 * up.within 1 4000 (up.rn .EPT_MAX_AHEAD) < launchTime up 200 0 ∧ launchTime up 99 0 < up.now ∧ tst (bitw 30 true) 30 = true ∧
      launchTime up 100 0 ≤ up.now + 1000000 * up.within 1 4000 (up.rn .EPT_MAX_AHEAD) ∧ up.now ≤ launchTime up 100 0) ∧
    (let s : State := { up with ept := { launches := [launch] } }
     s.ept.launches = launch :: [] ∧ closed s 23 = false ∧ launch.t ≤ s.now + s.within 500 1000000 (s.rn .EPT_LEAD)) ∧
    (let x := { launch with t := 101 * 1000000000 }
     up.now + up.within 500 1000000 (up.rn .EPT_LEAD) < x.t) ∧
    (let f := { fr with launch := some (99 * 1000000000, false) }
     let s := car f [cp 8 0]
     (queueCopies s 8 0)[0]? = some (cp 8 0) ∧ s.frm (cp 8 0).frame = some f ∧ f.launch = some (99 * 1000000000, false) ∧ (cp 8 0).begun = false ∧
      (cp 8 0).late = false ∧ 99 * 1000000000 + s.within 0 1000000 (s.rn .EPT_LATE_TOL) ≤ s.now ∧
      s.now < 101 * 1000000000 + s.within 0 1000000 (s.rn .EPT_LATE_TOL)) := by decide +kernel

theorem test_hyp_EndpointLaunches_turned :
    (portPresent (heldBlk 32) 128 = true ∧ closed (heldBlk 32) (32 + 0) = true ∧ rxLeft (up.setMac 128 {}) 128 = false) ∧
    (let f := launchFrame 0xA0
     let g := f.take (f.length - 1) ++ [~~~ (f.getD (f.length - 1) 0)]
     rxReady ctlUp 128 = true ∧ (etherHead g).2.1 = 0x88B6 ∧ beAt g 0 6 = controlMac ctlUp ∧
      rxError { bytes := g, maxLen := macMaxLen ctlUp 128 } false false = some 18) ∧
    (let s := heldBlk 17
     s.ept.launches.length < 4096 ∧ holdUsed s + 1 ≤ s.within 80 262144 (s.rn .EPT_HOLD_MAX) ∧ closed s 17 = true ∧
      launchTime s 100 0 ≤ s.now + 1000000 * s.within 1 4000 (s.rn .EPT_MAX_AHEAD) ∧ s.now ≤ launchTime s 100 0) := by decide +kernel

theorem test_hyp_EndpointLaunches_cells : ∃ cs v, takeCells up (11 + up.car.slot) [] 1 = (some cs, v) := ⟨_, _, rfl⟩

/-- `up` with line channel `c` running with N 1 and F 1 in state `x`. -/
def line (c : Nat) (x : Chan) : State := (((upr .LCH_CFG c 0 0x80100000).wr .LCH_PKT c 0 0x10000).wr .LCH_JB c 0 0x1004).setChan c { x with on := true }
/-- A circuit-emulation packet for RX id 0 with control word `cw` (R370, R373). -/
def cePkt (cw : Word) (n : Nat) : Bytes := beBytes 6 1 ++ beBytes 6 2 ++ beBytes 2 0x88D8 ++ beBytes 4 0 ++ wBytes cw ++ List.replicate n 0 ++ [0, 0, 0, 0]

theorem test_hyp_LineChannels :
    chanRuns up 0 = false ∧
    (let s := line 15 { framer := .sync, jb := .play, ring := [(0, [7]), (1, [8])] }
     chanRuns s 15 = true ∧ s.rf .LCH_CFG 15 0 29 2 = 0 ∧ (s.chan 15).jb = .play ∧ mfind (s.chan 15).ring 0 = some [7] ∧
      ((s.chan 15).ring.filter (fun e => e.1 ≠ 0)).map (fun e => (e.1 - 1, e.2)) ≠ [] ∧ (s.chan 15).framer = .sync ∧ (s.chan 15).errRun < 3) ∧
    (let s := line 0 { framer := .hunt, errRun := 3 }
     chanRuns s 0 = true ∧ (s.chan 0).jb ≠ .play ∧ (s.chan 0).framer = .hunt) ∧
    (3 ≤ ((line 0 { framer := .sync, errRun := 3 }).chan 0).errRun ∧ ((line 0 { framer := .sync, errRun := 3 }).chan 0).framer = .sync) ∧
    (let s := line 0 { framer := .sync, gather := [1] }
     chanRuns s 0 = true ∧ (s.chan 0).gather ≠ [] ∧ (s.chan 0).pktPool = none ∧
      ((line 0 { framer := .sync, gather := [1], pktPool := some 1 }).chan 0).pktPool = some 1) ∧
    cePacket none (good.take (good.length - 4)) = none ∧ leftAsleep up 223 = false ∧ altTpid up (pipeOf 0) = none ∧
    (let f := cePkt 0 1
     cePacket none (f.take (f.length - 4)) = some (18, false, 0) ∧
      (List.range 16).filter (fun c => chanRuns up c && tst (up.rw .LCH_PKT c) 31 == false && 0 == up.rf .LCH_RXID c 0 0 20) = [] ∧
      (let s := line 5 { framer := .sync }
       (List.range 16).filter (fun c => chanRuns s c && tst (s.rw .LCH_PKT c) 31 == false && 0 == s.rf .LCH_RXID c 0 0 20) = [5] ∧
        rctOf none (f.take (f.length - 4)) = none ∧ fld (BitVec.ofNat 32 (beAt (f.take (f.length - 4)) 18 4)) 22 4 = 0 ∧
        fld (BitVec.ofNat 32 (beAt (f.take (f.length - 4)) 18 4)) 16 6 = 0 ∧ (f.take (f.length - 4)).drop (18 + 4) ≠ [] ∧
        ((f.take (f.length - 4)).drop (18 + 4)).length = chanN s 5 * chanF s 5)) ∧
    fld (BitVec.ofNat 32 (beAt (cePkt 0x400000 1) 18 4)) 22 4 ≠ 0 := by decide +kernel

theorem test_hyp_LineChannels_placed :
    (let s := line 0 { jb := .play, ring := [(2, [7])], p := 10 }
     let f := chanF s 0
     let m : Int := (65536 * f : Nat)
     let a (cw : Word) : Int :=
       let d := (((fld cw 0 16 * f : Nat) : Int) - (s.chan 0).p).emod m
       if d ≥ m / 2 then d - m else d
     (s.chan 0).jb = .play ∧ a 10 < 1 ∧ (1 ≤ a 100 ∧ jbMax s 0 < a 100 + f ∧ (s.chan 0).overran = false) ∧
      (1 ≤ a 12 ∧ a 12 + f ≤ jbMax s 0 ∧ ∃ i < f, (mfind (s.chan 0).ring ((a 12).toNat + i)).isSome = true)) ∧
    (let s := line 15 { disabling := true }
     chanPresent s 15 = true ∧ (s.chan 15).disabling = true) ∧ (up.chan 0).disabling = false ∧ (up.chan 0).want = false ∧
    (let s := (upr .LCH_CFG 0 0 0x80000000).setChan 0 { want := true }
     chanPresent s 0 = true ∧ (s.chan 0).want = true ∧ tst (s.rw .LCH_CFG 0) 31 = true) := by decide +kernel

theorem test_hyp_LineChannels_idle :
    (let s := line 15 { framer := .sync, jb := .play, ring := [(0, [7])] }
     chanRuns s 15 = true ∧ (s.chan 15).jb = .play ∧ ((s.chan 15).ring.filter (fun e => e.1 ≠ 0)).map (fun e => (e.1 - 1, e.2)) = []) ∧
    mfind (line 15 { jb := .play, ring := [(1, [8])] } |>.chan 15).ring 0 = none ∧
    (let s := (line 3 {}).wr .LCH_CFG 3 0 (0x80100000 ||| put 29 2 1)
     chanRuns s 3 = true ∧ s.rf .LCH_CFG 3 0 29 2 = 1 ∧ (s.chan 3).jb ≠ .play) ∧
    (let s := (line 3 {}).wr .LCH_CFG 3 0 (0x80100000 ||| put 29 2 2)
     chanRuns s 3 = true ∧ s.rf .LCH_CFG 3 0 29 2 = 2 ∧ (s.chan 3).jb ≠ .play) ∧
    ((line 0 { framer := .hunt }).chan 0).framer = .hunt ∧
    (let f := cePkt 0 2
     ((f.take (f.length - 4)).drop (18 + 4)) ≠ [] ∧ ((f.take (f.length - 4)).drop (18 + 4)).length ≠ chanN (line 5 {}) 5 * chanF (line 5 {}) 5) ∧
    ([(7 : Byte)] ≠ [] ∧ ((line 0 { gather := [1] }).chan 0).gather ≠ []) := by decide +kernel

/-- A header that the template of R371 forms: two addresses, 0x88D8 and a label of RX id 0. -/
def mef : List Word := [0x02000000, 0x00010200, 0x00000002, 0x88D80000, 0x01020000, 0]

theorem test_hyp_LineChannels_packet :
    let s := (List.range 6).foldl (fun s w => s.wr .LCH_HDR 0 w (mef.getD w 0))
      ((line 0 { gather := [1], pktPool := some 1 }).wr .LCH_PKT 0 0 0x12010000)
    let v := s.setChan 0 { s.chan 0 with gather := [], pktPool := none, seq := ((s.chan 0).seq + 1) % 65536 }
    chanRuns s 0 = true ∧ (s.chan 0).gather ≠ [] ∧ (s.chan 0).pktPool = some 1 ∧ phaseBad v 0 = false ∧ templateBad v 0 = false := by decide +kernel

theorem test_hyp_LineChannels_defects :
    (let s := upr .LCH_INT_LOS 0 0 0x10001
     nbit (s.chan 0).defects 3 = false ∧ s.within 1 65535 (s.rf .LCH_INT_LOS 0 0 16 16) ≤ mget 0 (s.chan 0).runs 3 + 1) ∧
    (let s := upr .LCH_INT_LOS 0 0 0xFFFFFFFF
     mget 0 (s.chan 0).runs 3 + 1 < s.within 1 65535 (s.rf .LCH_INT_LOS 0 0 16 16)) ∧
    nbit ((line 0 { defects := 8 }).chan 0).defects 3 = true ∧
    (let s := line 0 { jb := .play, ring := [], p := 10 }
     let a : Int := ((12 : Int) - (s.chan 0).p).emod (65536 * chanF s 0 : Nat)
     (s.chan 0).jb = .play ∧ 1 ≤ a ∧ a + chanF s 0 ≤ jbMax s 0 ∧ ∀ i < chanF s 0, mfind (s.chan 0).ring (a.toNat + i) = none) := by decide +kernel

theorem test_hyp_EventOffers :
    (offersOk (heldBlk 27) 0 = false ∧ offerList up 0 = []) ∧
    (let s := (upr .EVT_TGT 0 0 0x88888888).setSrc 5 { st := .pending, need := some 0 }
     offersOk s 0 = true ∧ offerList s 0 = [5] ∧
      (lbmTake s 1 ((mcfFrame s 0 (s.rf .CTL_CTX_MAC_HI 0 0 0 16 * 2 ^ 32 + s.rn .CTL_CTX_MAC_LO 0) (controlMac s)
        (offerPayload s 0 (s.rf .EVT_OFFER_SEQ 0 0 0 16) [5])).length + 12)).1.isSome = true) ∧
    (let s := ((upr .EVT_TGT 0 0 0x88888888).setSrc 5 { st := .pending, need := some 0 }).setBlk 24 { closed := true }
     offersOk s 0 = true ∧ offerList s 0 = [5] ∧
      (lbmTake s 1 ((mcfFrame s 0 (s.rf .CTL_CTX_MAC_HI 0 0 0 16 * 2 ^ 32 + s.rn .CTL_CTX_MAC_LO 0) (controlMac s)
        (offerPayload s 0 (s.rf .EVT_OFFER_SEQ 0 0 0 16) [5])).length + 12)).1 = none) ∧
    (let s := src 1023 { st := .pending, offered := some 0 }
     (s.src 1023).st = .pending ∧ (s.src 1023).offered = some 0 ∧ dormant s 0 = false ∧ closed s 27 = false ∧
      dormant { s with evt := { s.evt with dormHost := 1 } } 0 = true) ∧
    ((up.src 0).st ≠ .pending ∧ 0 ∉ up.evt.noBuf ∧ 7 ∈ ({ up with evt := { up.evt with noBuf := [7] } } : State).evt.noBuf) ∧
    (Reached up w0 ⟨.EVT_CTX_CMD, 0, 0⟩ ∧ MayWrite up w0 ⟨.EVT_CTX_CMD, 0, 0⟩ ∧ fld (put 30 2 1 ||| 7) 3 27 = 0 ∧ fld (put 30 2 1 ||| 7) 30 2 = 1 ∧
      fld (put 30 2 2) 3 27 = 0 ∧ fld (put 30 2 2) 30 2 = 2) ∧
    ((wd (Reg.key ⟨.EVT_TGT, 127, 0⟩)).toNat = Reg.key ⟨.EVT_TGT, 127, 0⟩ ∧ Reached up w0 ⟨.EVT_TGT, 127, 0⟩ ∧ MayWrite up w0 ⟨.EVT_TGT, 127, 0⟩) ∧
    (let s := src 1023 { st := .pending }
     8 * 127 ≤ 1023 ∧ 1023 < 8 * 127 + 8 ∧ (s.src 1023).st = .pending ∧ (s.src 1023).offered = none ∧ (s.src 1023).need = none) ∧
    (Reached up w0 ⟨.EVT_CFG, 0, 0⟩ ∧ MayWrite up w0 ⟨.EVT_CFG, 0, 0⟩ ∧ tst (up.rw .EVT_CFG) 31 = true ∧ tst (0 : Word) 31 = false) := by
  unfold Reached MayWrite; decide +kernel

theorem test_hyp_EventOffers_deliver :
    let s := (((upr .EVT_TGT 0 0 0x88888888).wr .EVT_CFG 0 0 0).setSrc 5 { st := .pending })
    tst (s.rw .EVT_CFG) 31 = false ∧ tst (0x80000000 : Word) 31 = true ∧ (s.src 5).st = .pending ∧ (s.src 5).offered = none ∧
      srcMasked (s.wr .EVT_CFG 0 0 0x80000000) 5 = false := by decide +kernel

theorem test_hyp_CountersAndTelemetry :
    (closed (heldBlk 28) 28 = true ∧ domOn (dom 227 {}) 227 = false ∧ closed up 28 = false ∧ domOn up 227 = true) ∧
    (let s : State := { up with pct := { up.pct with slot := 319 } }
     counterBlkPresent s (319 / 8) = true ∧ countersAwake s (319 / 8) = true ∧ pctOdd s 319 = false ∧ pctPair s 319 = false) ∧
    (let s := upr .PCT_CFG 0 1 0x800000
     counterBlkPresent s 0 = true ∧ countersAwake s 0 = true ∧ pctOdd s 0 = false ∧ pctPair s 0 = true ∧ pctOdd s 1 = true) ∧
    countersAwake (dom 234 {}) (176 / 8) = false ∧
    (Reached up w0 ⟨.PCT_CMD, 0, 0⟩ ∧ MayWrite up w0 ⟨.PCT_CMD, 0, 0⟩ ∧ fld (put 30 2 1 ||| put 24 6 39) 30 2 = 1 ∧
      fld (put 30 2 1 ||| put 24 6 39) 24 6 ≤ 39 ∧ tst (put 30 2 1 ||| put 24 6 39) 23 = false ∧ tst (put 30 2 1 ||| bitw 23 true) 23 = true ∧
      fld (put 30 2 2) 30 2 = 2) ∧
    (tst ((upr .PCT_BW_CFG 0 0 0).rw .PCT_BW_CFG) 31 = false ∧ tst ((upr .PCT_BW_CFG 0 0 0x80000008).rw .PCT_BW_CFG) 31 = true ∧
      windowOk (upr .PCT_BW_CFG 0 0 0x80000008) = true ∧ closed (upr .PCT_BW_CFG 0 0 0x80000008) 28 = false ∧
      domOn (upr .PCT_BW_CFG 0 0 0x80000008) 227 = true) ∧
    (let s := upr .PCT_TEL_CFG 0 0 0x80000000
     tst (up.rw .PCT_TEL_CFG) 31 = false ∧ tst (s.rw .PCT_TEL_CFG) 31 = true ∧ closed s 28 = false ∧ domOn s 227 = true ∧ s.pct.exp = none ∧
      (let x : TelExport := { seq := 4, bw := bwRecords s, sweep := some (5, 6) }
       let u : State := { s with pct := { s.pct with exp := some x, slot := 319 } }
       let y : TelExport := { seq := 4, bw := bwRecords (s.wr .PCT_TEL_PORTS 0 0 1), sweep := some (5, 6) }
       u.pct.exp = some x ∧ x.sweep = some (5, 6) ∧ counterRecords s ++ x.bw = [] ∧ counterRecords s ++ y.bw ≠ [] ∧
        (counterRecords s ++ y.bw).length ≤ 80) ∧
      (let x : TelExport := { seq := 4, bw := [], sweep := none }
       let u : State := { s with pct := { s.pct with exp := some x, slot := 0 } }
       u.pct.exp = some x ∧ u.pct.exp ≠ none)) := by
  unfold Reached MayWrite; decide +kernel

theorem test_hyp_CountersAndTelemetry_hand :
    let s := (upr .PCT_TEL_CFG 0 0 0x80000000).wr .PCT_TEL_PORTS 0 0 1
    let x : TelExport := { seq := 4, bw := bwRecords s, sweep := some (5, 6) }
    let u : State := { s with pct := { s.pct with exp := some x } }
    u.pct.exp = some x ∧ counterRecords u ++ x.bw ≠ [] ∧ (counterRecords u ++ x.bw).length ≤ 80 := by decide +kernel

theorem test_hyp_CountersAndTelemetry_good : pctBad (upr .PCT_CFG 0 0 0x0600FF00) 0 = false := by decide +kernel

/-- `up` with the access port in state `t` and instruction `ir`. -/
def tap (t : Tap) : State := { up with jtag := { up.jtag with tap := t } }

theorem test_hyp_TestAccessPort :
    ((tap .capDr).jtag.tap = .capDr ∧ (tap .capDr).jtag.ir = 1) ∧ (tap .shDr).jtag.tap = .shDr ∧ (tap .shIr).jtag.tap = .shIr ∧
    (tap .pauIr).jtag.tap ∉ [Tap.capDr, .shDr, .capIr, .shIr] ∧ (tap .pauIr).jtag.tap ∉ [Tap.updDr, .updIr, .shDr, .shIr] := by decide +kernel

/-- `role r` with TWN_CFG `w` and more said of the twin. -/
def twin (w : Word) (t : Twin) : State := { (upr .TWN_CFG 0 0 w) with twin := t }

theorem test_hyp_TwinRoles :
    (isRunning State.reset = false ∧ isRunning up = true ∧ tst ((upr .TWN_CFG 0 0 0x10000000).rw .TWN_CFG) 28 = true ∧
      tst (up.rw .TWN_CFG) 28 = false ∧ up.twin.role = .off ∧ (role .standby).twin.role ≠ .off ∧ hasTwin up = true ∧
      hasTwin { up with roast := { up.roast with lanes := [0] } } = false) ∧
    (let s := twin 0x08000000 { failed := true }
     isRunning s = true ∧ hasTwin s = true ∧ tst (s.rw .TWN_CFG) 27 = true ∧ s.twin.linkSilent = false ∧ s.twin.pinSilent = false) ∧
    (let s := twin 0 { pinSilent := true }
     isRunning s = true ∧ hasTwin s = true ∧ tst (s.rw .TWN_CFG) 27 = false ∧ s.twin.linkSilent = false) ∧
    (twin 0 { linkSilent := true }).twin.linkSilent = true ∧
    (let s := twin 0 { role := .standby, entry := true, high := 157 }
     s.twin.role = .standby ∧ s.twin.entry = true ∧ 157 ≤ s.twin.high ∧ hasTwin s = true) ∧
    ((twin 0 { role := .standby, high := 156 }).twin.high < 157 ∧ (twin 0 { role := .standby, peerRole := 3 }).twin.peerRole ≠ 4) ∧
    (let s := twin 0 { role := .claiming, claimTicks := 63, peerClaim := true }
     s.twin.role = .claiming ∧ 63 ≤ s.twin.claimTicks ∧ s.twin.peerClaim = true ∧ twinId s = false ∧ s.twin.claimTicks < 126 ∧
      twinId (s.wr .RST_STRAPS 0 0 0x10) = true ∧ (twin 0 { role := .claiming, claimTicks := 62 }).twin.claimTicks < 63 ∧
      (twin 0 { role := .claiming, claimTicks := 126, peerClaim := true }).twin.claimTicks ≥ 126 ∧
      (twin 0 { role := .claiming, claimTicks := 63 }).twin.peerClaim = false) ∧
    (Reached (role .active) w0 ⟨.TWN_CMD, 0, 0⟩ ∧ MayWrite (role .active) w0 ⟨.TWN_CMD, 0, 0⟩ ∧ fld (put 29 3 1) 29 3 = 1 ∧
      (role .active).twin.role = .active ∧ hasTwin (role .active) = true) ∧
    (Reached up w0 ⟨.TWN_CMD, 0, 0⟩ ∧ MayWrite up w0 ⟨.TWN_CMD, 0, 0⟩ ∧ up.twin.role ≠ .active) := by unfold Reached MayWrite; decide +kernel

theorem test_hyp_TwinRoles_release :
    (let s := role .releasing
     s.twin.role = .releasing ∧ (∀ m ∈ (s.link 0).msgs, m.kind ≠ 7) ∧ mget false s.time.pps 0 = false ∧ mget false s.time.pps 1 = false ∧
      s.time.irigBusy = false) ∧
    (role .active).twin.role ≠ .releasing ∧
    (let s := twin 0x40000000 { role := .active, taking := true }
     s.twin.role = .active ∧ s.twin.taking = true ∧ tst (s.rw .TWN_CFG) 30 = true ∧ s.twin.flashReset = false ∧
      (twin 0x40000000 { role := .active, taking := true, flashReset := true }).twin.flashReset = true) ∧
    (twin 0x40000000 { role := .active }).twin.taking = false := by decide +kernel

theorem test_hyp_TwinSnapshotsTestsAndFlash :
    (holdsRole (role .active) = true ∧ ((role .active).link 0).up = true ∧ closed (role .active) 29 = false ∧
      (∀ m ∈ ((role .active).link 0).msgs, m.kind ≠ 7) ∧ holdsRole up = false) ∧
    (Reached up w0 ⟨.TWN_CMD, 0, 0⟩ ∧ MayWrite up w0 ⟨.TWN_CMD, 0, 0⟩ ∧ fld (put 29 3 2) 29 3 = 2 ∧ fld (put 29 3 3) 29 3 = 3 ∧ served up w0 = true) ∧
    (isRunning State.reset = false ∧ isRunning up = true ∧ hasTwin (upr .TWN_ST_CFG 0 0 0x80000000) = true ∧
      isRunning (upr .TWN_ST_CFG 0 0 0x80000000) = true ∧ tst ((upr .TWN_ST_CFG 0 0 0x80000000).rw .TWN_ST_CFG) 31 = true) ∧
    (let s := upr .TWN_CFG 0 0 0
     Reached s w0 ⟨.TWN_FLASH_CMD, 0, 0⟩ ∧ MayWrite s w0 ⟨.TWN_FLASH_CMD, 0, 0⟩ ∧ s.flash.busy = none ∧ flashAuthority s = true ∧
      fld (put 28 4 4) 28 4 = 4 ∧ fld (put 28 4 1) 28 4 = 1 ∧ fld (put 28 4 2) 28 4 = 2 ∧ fld (put 28 4 3) 28 4 = 3) ∧
    (let s := upr .TWN_CFG 0 0 0x40000000
     Reached s w0 ⟨.TWN_FLASH_CMD, 0, 0⟩ ∧ MayWrite s w0 ⟨.TWN_FLASH_CMD, 0, 0⟩ ∧ s.flash.busy = none ∧ flashAuthority s = false) ∧
    ({ up with flash := { busy := some (1, 0, 256) } } : State).flash.busy = some (1, 0, 256) := by unfold Reached MayWrite; decide +kernel

theorem test_hyp_StitchLinks :
    (lanesUp (lane 36 { st := .down }) 1 = false ∧ closed (heldBlk 31) (29 + 2) = true) ∧
    (lanesUp up 2 = true ∧ closed up (29 + 2) = false ∧ fld (put 24 8 0xB4) 24 8 = 0xB4 ∧ fld (put 24 8 0xB5) 24 8 ≠ 0xB4 ∧ (up.link 2).up = true ∧
      fld (put 24 8 0xB5) 24 8 ≠ 0x78 ∧ fld (put 24 8 0xB5) 24 8 ≠ 0x1E ∧ fld (put 24 8 0x1E) 24 8 = 0x1E) ∧
    (lanesUp (up.setLink 0 {}) 0 = true ∧ closed (up.setLink 0 {}) (29 + 0) = false ∧ ((up.setLink 0 {}).link 0).up = false) ∧
    ((up.link 2).notices = [] ∧ 2 < 3 ∧ ((up.setLink 2 { up := true, notices := [(0, 7, 4)] }).link 2).notices ≠ []) ∧
    (let s := (boot .load).wr .RST_STRAPS 0 0 2
     s.boot.st = .load ∧ bootSrc s = 2 ∧ s.twin.blocksCame = false) ∧ up.boot.st ≠ .load := by decide +kernel

/-- A stitch message of KIND `k` with no body (R430). -/
def stitchMsg (k : Nat) : Bytes :=
  let h := wBytes (put 28 4 k) ++ List.replicate 10 0
  let m := h ++ beBytes 2 (crc16 0xFFFF h)
  m ++ beBytes 4 (crc32 m)

theorem test_hyp_StitchSegmentsAndMessages :
    (closed (heldBlk 29) (29 + 0) = true ∧ ((up.setLink 0 {}).link 0).up = false ∧ closed up (29 + 0) = false ∧ (up.link 0).up = true) ∧
    (fld (put 24 8 0x79) 24 8 ≠ 0x78 ∧ fld (put 24 8 0x79) 24 8 ≠ 0xB4 ∧ fld (put 24 8 0x79) 24 8 ≠ 0x1E ∧
      fld (put 24 8 0xB4) 24 8 = 0xB4 ∧ fld (put 24 8 0x1E) 24 8 = 0x1E ∧ fld (put 24 8 0x78 ||| put 20 4 14) 24 8 = 0x78 ∧ fld (put 24 8 0x78 ||| put 20 4 14) 20 4 < 15) ∧
    (∀ k ∈ [2, 3, 4, 5, 6, 7, 8], msgGood 0 (stitchMsg k) = true ∧ fld (wordAt (stitchMsg k) 0) 28 4 = k ∧ (stitchMsg k).length ≤ 144) ∧
    (msgGood 0 [0x20, 0, 0, 0] = false ∧ fld (wordAt [0x20, 0, 0, 0] 0) 28 4 = 2 ∧ [(0x20 : Byte), 0, 0, 0].length ≤ 144) ∧
    (hasTwin up = true ∧ tst (bitw 28 true) 28 = !twinId up ∧
      ¬ (up.twin.role = .active ∧ fld (bitw 28 true) 29 3 = 3 ∧ twinId up = true)) := by decide +kernel

/-- The word of a SEG block on channel 0 with its flags and length. -/
def segW (first last bad : Bool) (len : Nat) : Word := segWord 0 first last bad len

theorem test_hyp_StitchSegmentsAndMessages_data :
    (let h : Bytes := wsBytes [put 28 4 1, 0, 0] ++ [0, 0]
     let d := h ++ beBytes 2 (crc16 0xFFFF h)
     (up.link 0).up = true ∧ 16 ≤ fld (segW true true false 16) 8 8 ∧ fld (segW true true false 16) 8 8 ≤ 144 ∧ tst (segW true true false 16) 19 = true ∧
      tst (segW true true false 16) 18 = true ∧ mfind (up.link 0).rx 0 = none ∧
      crc16 0xFFFF (slice (slice d 0 16) 0 14) = beAt (slice d 0 16) 14 2 ∧ fld (wordAt (slice d 0 16) 0) 28 4 = 1 ∧
      crc16 0xFFFF (slice (slice [] 0 16) 0 14) ≠ beAt (slice [] 0 16) 14 2) ∧
    (144 < fld (segW false false false 145) 8 8 ∧ fld (segW false true false 0) 8 8 = 0 ∧
      ¬ (tst (segW false true false 0) 18 = true ∧ tst (segW false true false 0) 17 = true) ∧
      tst (segW false false false 144) 19 = (mfind (up.link 0).rx 0).isSome) ∧
    (let s := (car { fr with ended := false } []).setLink 0 { up := true, rx := [(0, some 3)] }
     (s.link 0).up = true ∧ 0 < fld (segW false false false 144) 8 8 ∧ fld (segW false false false 144) 8 8 ≤ 144 ∧
      tst (segW false false false 144) 19 = false ∧ (mfind (s.link 0).rx 0).isSome = true ∧ mfind (s.link 0).rx 0 = some (some 3) ∧
      s.frm 3 = some { fr with ended := false } ∧ ({ fr with ended := false } : CFrame).ended = false) := by decide +kernel

theorem test_hyp_StitchSegmentsAndMessages_more :
    (closed (up.setLink 0 {}) (29 + 0) = false ∧ closed (heldBlk 31) (29 + 2) = true) ∧
    (fld (segW true true false 16) 24 8 = 0x78 ∧ tst (segW true true false 16) 19 = true ∧ tst (segW false true false 16) 19 = false ∧
      fld (wordAt (stitchMsg 2) 0) 28 4 = 2) ∧
    (fld (segWord 15 false true false 16) 24 8 = 0x78 ∧ fld (segWord 15 false true false 16) 20 4 = 15 ∧
      tst (segWord 15 false true false 16) 19 = false) ∧
    (let f := { fr with ended := false, bytes := good.take 60 }
     let s := (car f []).setLink 0 { up := true, rx := [(0, some 3)] }
     mfind (s.link 0).rx 0 = some (some 3) ∧ s.frm 3 = some f ∧ f.ended = false ∧ fcsGood (f.bytes ++ good.drop 60) = true ∧
      fcsGood (f.bytes ++ [0, 0, 0, 0]) = false) ∧
    (let s := up.setLink 1 { up := true, timeTx := [(5, 1000)], timeRx := [(65535, 2000)] }
     let b : List Word := [0, 0x100, 0, 0x80, 5]
     let u := s.setLink 1 { (s.link 1) with timeRx := (0, 9) :: (s.link 1).timeRx.take 7 }
     mfind (s.link 1).timeTx (b.getD 4 0).toNat = some 1000 ∧ (timeOf u (b.getD 2 0) (b.getD 3 0)).isSome = true ∧
      (timeOf u (b.getD 0 0) (b.getD 1 0)).isSome = true ∧ mfind (s.link 1).timeRx ((0 + 65535) % 65536) = some 2000) ∧
    mfind (up.link 0).timeTx 5 = none := by decide +kernel

theorem test_hyp_StitchSegmentsAndMessages_bodies :
    (fld (1 : Word) 0 4 = 1 ∧ closed up 20 = false ∧ up.tbl.queue.length < 1024) ∧
    (let s := (boot .load).wr .RST_STRAPS 0 0 2
     s.boot.st = .load ∧ bootSrc s = 2 ∧ 4 ≠ 0 ∧ 4 ≠ s.boot.rx.length) ∧
    (isRunning State.reset = false ∧ isRunning up = true ∧ 2 ≤ fld (2 : Word) 0 8) ∧
    (up.twin.role ≠ .standby ∧ up.twin.role ≠ .claiming ∧ (role .claiming).twin.role = .claiming ∧ (role .standby).twin.role = .standby) ∧
    (fld (16384 : Word) 16 15 = 0 ∧ [(5 : Word)].length < fld (16384 : Word) 0 15 ∧ fld (16384 : Word) 0 15 ≤ 16384) ∧
    (7 < 8 ∧ 7 < (List.replicate 8 (0 : Word)).length) := by decide +kernel

/-! ## Single commands and operations on the spec's own numbers -/

/-- The device of the example of 02_control_frames.md: context 2 on H0 in VLAN 10, at 1,700,000,099.25 s. -/
def exCtl : State :=
  let s := (((up.wr .CTL_DEV_MAC_LO 0 0 0xD0).wr .CTL_CTX_CFG 2 0 0xA000000A).wr .CTL_CTX_MAC_LO 2 0 0xA2).wr .CTL_GUARD_CFG 0 0 0x80000000
  { s with time := { s.time with now := { sec := 1700000099, ns := 250000000 } } }
/-- Its request frame. -/
def exReq : Bytes :=
  let b := beBytes 6 0xD0 ++ beBytes 6 0xA2 ++ beBytes 2 0x8100 ++ beBytes 2 10 ++ beBytes 2 0x88B5 ++
    wsBytes [0x1104002A, 0x003C0000, 0, 0, 0x10000000, 0, 0x20000000, 0x00030010, 1, 0x80010200, 0, 0x6553F164, 0, 0x10000000, 0x0003001C]
  b ++ fcsBytes b
/-- The words of its response. -/
def exResp : List Word :=
  [0x1204002A, 0x00280000, 0x00020400, 0x0EE6B280, 0x10010000, 0x9128A100, 0x20000011, 0x80000000, 0x10010000, 0x00000200]

/-- 02_control_frames.md, "a request, a refused guard write and a replay": the response, the refusal and the armed strobe. -/
theorem test_controlFrame_example :
    exReq.length = 82 ∧
    (let s := controlFrame exCtl 0 [2] exReq
     (mfind s.ctl.caches 2).map (fun c => (c.id, c.resp)) = some (0x2A, wsBytes exResp) ∧ s.rw .CTL_GUARD_SEAL = 0 ∧ s.rw .CTL_GUARD_REFUSED = 1 ∧
      tst (s.rw .CTL_STATUS) 3 = true ∧ mfind s.ctl.armed 9 = some { ctx := 2, acting := false, sec := 1700000100, ns := 0 }) := by decide +kernel

/-- The same request again: it is answered from the cache with REPLAYED, and nothing is executed. -/
theorem test_controlFrame_replay :
    (let s := { exCtl with ctl := { exCtl.ctl with caches := [(2, { id := 0x2A, resp := wsBytes exResp })] } }
     let t := controlFrame s 0 [2] exReq
     t.rw .CTL_REPLAYS = 1 ∧ t.ctl.armed = [] ∧
      (t.out.map (fun o => match o with | .frame 128 b => bytesWs 2 (b.drop 18) | _ => [])) = [[0x1204002A, 0x00280100]]) := by decide +kernel

/-- 20_address_map.md, "finding queue 3 of port 118". -/
theorem test_addresses :
    Reg.key ⟨.SCH_Q_CFG, 118, 3⟩ = 0x00576160 ∧ flagSource .MAC_STATUS 118 0 = some 518 ∧ Reg.key ⟨.EVT_TGT, 64, 0⟩ = 0x00040500 ∧
    Reg.key ⟨.EVT_PEND, 16, 0⟩ = 0x00040140 := by decide +kernel

/-- 05_hotplate_power.md, "four 10 Gb/s ports waking": HOT_DOZE_NEED is 13,280 ns. -/
theorem test_doze_need :
    dozeNeed ([48, 52, 56, 60].foldl (fun s p => s.wr .HOT_PORT_PWR p 0 0x80000000) (up.wr .HOT_WAKE_BUDGET 0 0 4)) = 13280 := by decide +kernel

/-- An S0 entry of the example of 08_classification.md, and the key of port 37 with VID 10 through the selectors of its S0. -/
theorem test_S0_key :
    (let s : State := { up with roast := { up.roast with keys := [(0, 20, [⟨0, 0, 12, 8⟩, ⟨5, 0, 0, 12⟩])] } }
     let p := parse none (beBytes 6 0x010CCD040012 ++ beBytes 6 5 ++ beBytes 2 0x8100 ++ beBytes 2 0x800A ++ beBytes 2 0x88BA ++ List.replicate 142 0) true
     stageKey s 0 (fieldOf p 37 {} (0, 0)) = 0x0002500A) := by decide +kernel

/-- 13_time.md, "a new parent": the first two samples, and the refusal of 2,500 ns. -/
theorem test_servo_example :
    (let s : State := { up with time := { up.time with servo := .acquiring, integ := 12300 * 2 ^ 32, freq := -12300 * 2 ^ 32 } }
     let a := sample s (600 * 65536) 0
     let b := sample a 0 0
     a.time.integ = 12450 * 2 ^ 32 ∧ a.time.freq = -12900 * 2 ^ 32 ∧ a.time.lockRun = 0 ∧
      b.time.integ = 12450 * 2 ^ 32 ∧ b.time.freq = -12450 * 2 ^ 32 ∧ b.time.lockRun = 1 ∧
      (sample s (2500 * 65536) 0).time.servo = .holdover ∧ (sample s (2500 * 65536) 0).rw .TK_REFUSED = 1) := by decide +kernel

/-- 12_redundancy_audit.md, "a PRP RedBox": the deviations of samples 1,234 and 1,235. -/
theorem test_audit_example :
    audDev 257105400 1234 4800 10000 = 12067 ∧ audDev 257107900 1234 4800 10000 = 14567 ∧ audDev 257313733 1235 4800 10000 = 12067 := by decide

/-- 11_scheduling.md, "a 250 µs protection cycle": CHANGE_TIME of a base time in time, and of one 100 µs late. -/
theorem test_change_time :
    (let s : State := { up with roast := { up.roast with ports := setAt up.roast.ports 17 1, parts := (6, 172, 1) :: up.roast.parts } }
     let s := (((s.wr .SCH_ADMIN_LIST 8 0 2).wr .SCH_ADMIN_CYCLE 8 0 0x3D090).wr .SCH_ADMIN_BASE_SEC_LO 8 0 0x6553F100).wr .SCH_GATE_CTRL 8 0 0x8000FFFF
     changeTime (gateStrobe s 8 (1700000000 * 1000000000)) 8 = 1700000000 * 1000000000 ∧
     changeTime (gateStrobe s 8 (1700000000 * 1000000000 + 100000)) 8 = 1700000000 * 1000000000 + 250000 ∧
     (gateStrobe s 8 (1700000000 * 1000000000 + 100000)).rw .SCH_LATE_BASE 8 = 1) := by decide +kernel

/-- 16_events.md, "a lost offer": the record of source 301 after its offer to context 2 has timed out. -/
theorem test_offer_record :
    (let s := up.setSrc 301 { st := .pending, need := some 2, edges := 4 }
     bytesWs 1 ((offerPayload s 3 7 [301]).drop 16) = [0x812D0004]) := by decide +kernel

/-- 09_fdb_learning.md, "a race on two ports": the entry after step 5 and after the move of step 6. -/
theorem test_fdb_words :
    fixPar 0 [0x000A021A, 0x0000032C, 0x80004005, 0] = [0x000A021A, 0x0000032C, 0xA0004005, 0] ∧
    fixPar 0 [0x000A021A, 0x0000032C, 0xA0004015, 0] = [0x000A021A, 0x0000032C, 0x80004015, 0] := by decide +kernel

/-! ## The algorithms that the spec names by their standards -/

/-- The catalogue check value of CRC-32 over "123456789". -/
theorem test_crc32_check : crc32 (beBytes 9 0x313233343536373839) = 0xCBF43926 := by decide +kernel
/-- The catalogue check value of CRC-16 with polynomial 0x1021 and initial value 0xFFFF. -/
theorem test_crc16_check : crc16 0xFFFF (beBytes 9 0x313233343536373839) = 0x29B1 := by decide +kernel
/-- SHA-256 of "abc" (FIPS 180-4's example). -/
theorem test_sha256_abc :
    sha256 [0x61, 0x62, 0x63] = 0xba7816bf8f01cfea414140de5dae2223b00361a396177a9cb410ff61f20015ad := by decide +kernel
/-- AES-128-CMAC of the empty message (RFC 4493, example 1). -/
theorem test_cmac_empty :
    cmac 0x2b7e151628aed2a6abf7158809cf4f3c [] = 0xbb1d6929e95937287fa37d129b756746 := by decide +kernel
/-- Twice the base point of P-256 (the standard's point 2 G). -/
theorem test_p256_double : ptMul 256 2 (some pG) =
    some (0x7CF27B188D034F7E8A52380304B51AC3C08969E277F21B35A60B48FC47669978,
      0x07775510DB8ED040293D9AC69F7430DBBA7DADE63CE982299E04B79D227873D1) := by decide +kernel

end Sys2Proof.Tests
end

section
/-!
SUPPORT. Sequence-clear words (R51): the two fields of a word built by `sqSet` or `sqClear`.
-/
namespace Sys2Proof.Machine

/-- A field of a word lies within its width. -/
theorem fld_lt (w : Word) (lo n : Nat) : fld w lo n < 2 ^ n := Nat.mod_lt _ (Nat.two_pow_pos n)

/-- A field's value as a number, where the field lies within the word. -/
theorem toNat_put (lo n v : Nat) (h : lo + n ≤ 32) : (put lo n v).toNat = 2 ^ lo * (v % 2 ^ n) := by
  have hlt : v % 2 ^ n * 2 ^ lo < 2 ^ 32 := calc
    v % 2 ^ n * 2 ^ lo < 2 ^ n * 2 ^ lo := Nat.mul_lt_mul_of_pos_right (Nat.mod_lt _ (Nat.two_pow_pos n)) (Nat.two_pow_pos lo)
    _ = 2 ^ (lo + n) := by rw [Nat.pow_add, Nat.mul_comm]
    _ ≤ 2 ^ 32 := Nat.pow_le_pow_right (by decide) h
  rw [put, BitVec.toNat_ofNat, Nat.shiftLeft_eq, Nat.mod_eq_of_lt hlt, Nat.mul_comm]

/-- Words whose fields do not overlap add up. -/
theorem toNat_or_of_lt {a b : Word} {lo q : Nat} (ha : a.toNat = 2 ^ lo * q) (hb : b.toNat < 2 ^ lo) :
    (a ||| b).toNat = a.toNat + b.toNat := by
  rw [BitVec.toNat_or, ha, Nat.two_pow_add_eq_or_of_lt hb]

/-- A word built from SEQ and flags, as a number. -/
theorem toNat_seq_or_flags (q m : Nat) : (put 24 8 q ||| put 0 24 m).toNat = 2 ^ 24 * (q % 2 ^ 8) + m % 2 ^ 24 := by
  have hq := toNat_put 24 8 q (by decide)
  have hm : (put 0 24 m).toNat = m % 2 ^ 24 := by rw [toNat_put 0 24 m (by decide), Nat.pow_zero, Nat.one_mul]
  rw [toNat_or_of_lt hq (by rw [hm]; exact Nat.mod_lt _ (by decide)), hq, hm]

theorem seq_of_seq_or_flags (q m : Nat) : fld (put 24 8 q ||| put 0 24 m) 24 8 = q % 256 := by
  rw [fld, toNat_seq_or_flags, Nat.shiftRight_eq_div_pow]; omega

theorem flags_of_seq_or_flags (q m : Nat) : fld (put 24 8 q ||| put 0 24 m) 0 24 = m % 2 ^ 24 := by
  rw [fld, toNat_seq_or_flags, Nat.shiftRight_zero]; omega

/-- Setting flags advances SEQ by 1 modulo 256, whatever the flags (R51). -/
theorem seq_sqSet (w : Word) (m : Nat) : fld (sqSet w m) 24 8 = (fld w 24 8 + 1) % 256 := seq_of_seq_or_flags _ _

/-- Setting flags ORs them into the flags (R51). -/
theorem flags_sqSet (w : Word) {m : Nat} (h : m < 2 ^ 24) : fld (sqSet w m) 0 24 = fld w 0 24 ||| m := by
  rw [sqSet, flags_of_seq_or_flags, Nat.mod_eq_of_lt (Nat.or_lt_two_pow (fld_lt w 0 24) h)]

/-- A write keeps SEQ, whether it clears flags or not (R51). -/
theorem seq_sqClear (w v : Word) : fld (sqClear w v) 24 8 = fld w 24 8 := by
  unfold sqClear
  split
  · exact (seq_of_seq_or_flags _ _).trans (Nat.mod_eq_of_lt (fld_lt w 24 8))
  · rfl

/-- A write with the current SEQ clears exactly the flags written as 1 (R51). -/
theorem flag_sqClear {w v : Word} (h : fld v 24 8 = fld w 24 8) {b : Nat} (hb : b < 24) :
    nbit (fld (sqClear w v) 0 24) b = (nbit (fld w 0 24) b && !nbit (fld v 0 24) b) := by
  have hones : Nat.testBit 0xFFFFFF b = true := by
    rw [show 0xFFFFFF = 2 ^ 24 - 1 from rfl, Nat.testBit_two_pow_sub_one, decide_eq_true hb]
  simp only [sqClear, if_pos h, flags_of_seq_or_flags, nbit, Nat.testBit_mod_two_pow, hb, decide_true, Bool.true_and,
    Nat.testBit_and, Nat.testBit_xor, hones, Bool.true_xor]

/-- A run of setting events advances SEQ by their number modulo 256 (R51). -/
theorem seq_foldl_sqSet (ms : List Nat) (w : Word) : fld (ms.foldl sqSet w) 24 8 = (fld w 24 8 + ms.length) % 256 := by
  induction ms generalizing w with
  | nil => exact (Nat.mod_eq_of_lt (fld_lt w 24 8)).symm
  | cons m t ih => rw [List.foldl_cons, ih, seq_sqSet, List.length_cons]; omega

/-- Settles O7: the two fields of `sqSet` and `sqClear`, and SEQ along 256 setting events, which brings it back to where it was. -/
theorem sequenceClearRegisters : Obligations.SequenceClearRegisters := by
  unfold Obligations.SequenceClearRegisters
  refine ⟨fun w m hm => ⟨seq_sqSet w m, flags_sqSet w hm⟩, fun w v h => ⟨seq_sqClear w v, fun b hb => flag_sqClear h hb⟩,
    fun w v h => if_neg h, fun w v m hm => ⟨?_, ?_⟩, fun w v ms hl _ hv b hb h1 => ?_⟩
  · rw [seq_sqSet, seq_sqClear]
  · rw [flags_sqSet _ hm]
    exact Nat.eq_of_testBit_eq (fun k => by rw [Nat.testBit_and, Nat.testBit_or]; cases m.testBit k <;> simp)
  · have hseq : fld v 24 8 = fld (ms.foldl sqSet w) 24 8 := by
      have := fld_lt w 24 8
      rw [hv, seq_foldl_sqSet, hl]; omega
    rw [flag_sqClear hseq hb, h1, Bool.not_true, Bool.and_false]

end Sys2Proof.Machine
end

section
/-!
SUPPORT. Edges of event sources (R381, R382, R395) and the setting of flags (R51, R467).
-/
namespace Sys2Proof.Machine

/-- An edge is lost while block 27 is held (R395). -/
theorem raiseEdge_held {s : State} (n : Nat) (h : closed s 27 = true) : raiseEdge s n = s := by simp [raiseEdge, h]

section
variable {s : State} {n : Nat} (hp : srcPresent s n = true) (hc : closed s 27 = false)
include hp hc

/-- An edge of an Idle source makes it Pending (R382). -/
theorem raiseEdge_of_idle (h : (s.src n).st = .idle) : raiseEdge s n = pend s n := by simp [raiseEdge, hp, hc, h]

/-- An edge of a Pending source adds to EDGES (R382). -/
theorem raiseEdge_of_pending (h : (s.src n).st = .pending) :
    raiseEdge s n = s.setSrc n { s.src n with edges := min 65535 ((s.src n).edges + 1) } := by
  simp [raiseEdge, hp, hc, h]

/-- An edge of a Claimed source is remembered (R382). -/
theorem raiseEdge_of_claimed (h : (s.src n).st = .claimed) : raiseEdge s n = s.setSrc n { s.src n with again := true } := by
  simp [raiseEdge, hp, hc, h]

end

theorem src_setSrc_same (s : State) (n : Nat) (x : Src) : (s.setSrc n x).src n = x := by rw [src_setSrc, if_pos rfl]

/-- Edges of a list of sources leave every source that is not listed. -/
theorem edges_src_of_notMem {l : List Nat} {n : Nat} (h : n ∉ l) (s : State) : (l.foldl raiseEdge s).src n = s.src n := by
  induction l generalizing s with
  | nil => rfl
  | cons a t ih =>
    rw [List.foldl_cons, ih (fun ht => h (List.mem_cons_of_mem a ht)), raiseEdge_src_ne s (List.ne_of_not_mem_cons h)]

/-- Setting flags leaves every source that is none of those flags' sources (R467). -/
theorem setFlags_src_of_ne (s : State) {f : Fam} {i : Nat} (j : Nat) {m n : Nat}
    (h : ∀ b ∈ onesOf 24 m, flagSource f i b ≠ some n) : (s.setFlags f i j m).src n = s.src n := by
  unfold State.setFlags
  split
  · rfl
  · refine edges_src_of_notMem (fun hn => ?_) _
    obtain ⟨b, hb, e⟩ := List.mem_filterMap.mp (List.mem_dedup.mp hn)
    exact h b hb e

/-- Setting flags changes registers as one `sqSet` does, and event sources. -/
theorem setFlags_frame (s : State) (f : Fam) (i j : Nat) {m : Nat} (h : m ≠ 0) :
    s.setFlags f i j m = { s with regs := (s.wr f i j (sqSet (s.rw f i j) m)).regs, evt := (s.setFlags f i j m).evt } := by
  have hm : s.setFlags f i j m = { s with regs := (s.setFlags f i j m).regs, evt := (s.setFlags f i j m).evt } :=
    setFlags_marks s f i j m
  rw [setFlags_regs s f i j m h] at hm
  exact hm

/-- Settles O8: the frame of the flags, and an edge in each state of its source. -/
theorem flagsAndEdges : Obligations.FlagsAndEdges := by
  unfold Obligations.FlagsAndEdges
  refine ⟨fun s f i j m hm => ⟨setFlags_frame s f i j hm, setFlags_rw_same s f i j m hm, fun r hr => setFlags_reg_ne s m hr,
    fun n hn => setFlags_src_of_ne s j hn⟩, fun s n hp hc => ?_, fun s n h => raiseEdge_held n h⟩
  refine ⟨fun h => ?_, fun h => ?_, fun h => ?_⟩
  · rw [raiseEdge_of_idle hp hc h]; exact src_setSrc_same s n _
  · rw [raiseEdge_of_pending hp hc h]; exact src_setSrc_same s n _
  · rw [raiseEdge_of_claimed hp hc h]; exact src_setSrc_same s n _

end Sys2Proof.Machine
end

section
/-!
SUPPORT. Single operations of a served issuer on one register (R33, R34, R40, R41, R47, R55): READ, WRITE and RMW, by what stands at the
address, whether it is reached, and the register's access type.
-/
namespace Sys2Proof.Machine

variable {s : State} {who : Who} {r : Reg} {addr : Nat}

/-- A single operation of a served issuer leaves its response and lets waiting test words act. -/
theorem hostOp_served (h : served s who = true) (f : State → Nat × Nat × List Word × State) :
    hostOp s who f = testFlush (setRes (f s).2.2.2 (f s).1 (f s).2.1 (f s).2.2.1) := if_pos h

theorem exec_read (who : Who) (a : Word) (s : State) :
    exec (.read who a) s = .next (levelRefresh (hostOp s who (fun s => readRes (hostRead s who a.toNat)))) := rfl

theorem exec_write (who : Who) (a w : Word) (s : State) : exec (.write who a w) s = commit (writeOp s who a.toNat w) := rfl

theorem exec_rmw (who : Who) (a mask v : Word) (s : State) :
    exec (.rmw who a mask v) s = .next (levelRefresh (hostOp s who (fun s => readRes (hostRmw s who a.toNat mask v)))) := rfl

/-! ## What an operation finds at an address -/

theorem hostRead_unassigned (h : regAt s addr = none) : hostRead s who addr = (stOk, 0, s) := by simp only [hostRead, h]

theorem hostRead_assigned (h : regAt s addr = some r) : hostRead s who addr = accRead (touched s r) who r := by
  simp only [hostRead, h]

theorem hostWrite_assigned (w : Word) (h : regAt s addr = some r) : hostWrite s who addr w = accWrite (touched s r) who r w := by
  simp only [hostWrite, h]

/-- A closed wrapper turns an access away and counts it (R104). -/
theorem turnedAway_closed {b : Nat} (hb : regBlk r = some b) (hc : closed s b = true) : turnedAway s r = some (isoError s b) := by
  simp only [turnedAway, regClosed, hb, hc, if_true]

/-- A sleeping domain or lane behind an open wrapper turns an access away (R40). -/
theorem turnedAway_asleep (hc : regClosed s r = false) (ha : regAsleep s r = true) : turnedAway s r = some s := by
  simp only [turnedAway, hc, ha, if_true, Bool.false_eq_true, if_false]

theorem accRead_turnedAway {t : State} (h : turnedAway s r = some t) : accRead s who r = (stDomainOff, 0, t) := by
  simp only [accRead, h]

/-- A read that is not turned away answers the register's value after what it latches (R33, R309). -/
theorem accRead_value (h : turnedAway s r = none) (hw : windowAddr r.f = none) :
    accRead s who r = (stOk, regValue (readLatch s who.ctx r) who.ctx r, readLatch s who.ctx r) := by
  simp only [accRead, h, hw]

/-! ## Guard operations -/

/-- A guard operation after the seal, or by an issuer that does not act as the guard, is refused and counted (R55, R58). -/
theorem guardJudge_refuses (h : guardSealed s = true ∨ who.acting = false) :
    guardJudge s who true = some (if guardSealed s = true then stGuardSealed else stGuardDenied, guardRefused s who) := by
  by_cases hs : guardSealed s = true
  · simp [guardJudge, hs]
  · simp [guardJudge, hs, h.resolve_left hs]

theorem accWrite_refused (w : Word) (hg : isGuardReg s r = true) (h : guardSealed s = true ∨ who.acting = false) :
    accWrite s who r w = (if guardSealed s = true then stGuardSealed else stGuardDenied, guardRefused s who) := by
  simp only [accWrite, hg, guardJudge_refuses h]

theorem hostRmw_refused (mask v : Word) (ha : regAt s addr = some r) (hg : isGuardReg (touched s r) r = true)
    (hro : r.f.row.acc ≠ .ro) (h : guardSealed (touched s r) = true ∨ who.acting = false) :
    hostRmw s who addr mask v =
      (if guardSealed (touched s r) = true then stGuardSealed else stGuardDenied, 0, guardRefused (touched s r) who) := by
  have hop : (isGuardReg (touched s r) r && r.f.row.acc != .ro) = true := by rw [hg, bne_iff_ne.mpr hro]; rfl
  simp only [hostRmw, ha, hop, guardJudge_refuses h]

/-- An RMW by an issuer that may write reads and writes in one access (R34). -/
theorem hostRmw_reached (mask v : Word) (h : Reached s who r) (hm : MayWrite s who r) (hw : windowAddr r.f = none) :
    hostRmw s who r.key mask v =
      let u := readLatch (touched s r) who.ctx r
      let old := regValue u who.ctx r
      (stOk, old, regWrite u who.ctx r ((old &&& ~~~mask) ||| (v &&& mask)) false) := by
  obtain ⟨_, hat, hclosed, hasleep⟩ := h
  have hj : guardJudge (touched s r) who (isGuardReg (touched s r) r && r.f.row.acc != .ro) = none := by
    cases hro : r.f.row.acc != .ro
    · rw [Bool.and_false]; rfl
    · rw [Bool.and_true]; exact guardJudge_none hm
  simp only [hostRmw, hat, hj, turnedAway_none hclosed hasleep, hw]

/-! ## READ, RMW and guard operations as commands -/

/-- Settles O16: a read of a reached register, of an unassigned address, behind a closed wrapper and in a sleeping domain. -/
theorem Settled.hostRead : Obligations.HostRead := by
  unfold Obligations.HostRead
  refine ⟨fun s who r a h hw ha => ?_, fun s who a hs hn => ?_, fun s who r b a hs hr hb hc => ?_, fun s who r a hs hr hc ha => ?_⟩
  · obtain ⟨hs, hat, hclosed, hasleep⟩ := h
    rw [exec_read, hostOp_served hs, ha, hostRead_assigned hat, accRead_value (turnedAway_none hclosed hasleep) hw]
    rfl
  · rw [exec_read, hostOp_served hs, hostRead_unassigned hn]
    rfl
  · rw [exec_read, hostOp_served hs, hostRead_assigned hr,
      accRead_turnedAway (turnedAway_closed hb ((closed_touched s r b).trans hc))]
    rfl
  · rw [exec_read, hostOp_served hs, hostRead_assigned hr,
      accRead_turnedAway (turnedAway_asleep ((regClosed_touched s r r).trans hc) ((regAsleep_touched s r r).trans ha))]
    rfl

/-- Settles O18: the one access of an RMW. -/
theorem readModifyWrite : Obligations.ReadModifyWrite := by
  unfold Obligations.ReadModifyWrite
  intro s who r a mask value h hm hw ha u old
  rw [exec_rmw, hostOp_served h.1, ha, hostRmw_reached mask value h hm hw]
  rfl

/-- The seal is a register that every served issuer reaches: it lies behind no wrapper and in no switched domain. -/
theorem reached_guardSeal (h : served s who = true) : Reached s who ⟨.CTL_GUARD_SEAL, 0, 0⟩ := ⟨h, by rfl, rfl, rfl⟩

/-- What a write leaves rests on what it does to the state in which it reaches its block. -/
theorem wrote_congr {f g : State → State} (h : f (touched s r) = g (touched s r)) : wrote s r f = wrote s r g := by
  unfold wrote
  rw [h]

/-- Settles O19: the guard's judgement precedes everything else, and GUARD_SEAL is a write of a guard register. -/
theorem guardRefusals : Obligations.GuardRefusals := by
  unfold Obligations.GuardRefusals
  refine ⟨fun s who r a w hs hr hg h => ?_, fun s who r a mask w hs hr hg hro h => ?_, fun s who w hs hact hseal => ?_⟩
  · rw [exec_write, commit, writeOp, hostOp_served hs, hostWrite_assigned w hr, accWrite_refused w ((isGuardReg_touched s r r).trans hg) h]
    rfl
  · rw [exec_rmw, hostOp_served hs, hostRmw_refused mask w hr ((isGuardReg_touched s r r).trans hg) hro h]
    rfl
  · have hwrite : exec (.guardSeal who w) s = .next (wrote s ⟨.CTL_GUARD_SEAL, 0, 0⟩ (fun s =>
        if tst w 0 && !guardSealed s then sealGuard s else s)) :=
      writeOp_reached (reached_guardSeal hs) (.inr ⟨hact, hseal⟩) rfl
    refine ⟨fun hw => hwrite.trans ?_, fun hw => hwrite.trans ?_⟩
    · have hseals : (tst w 0 && !guardSealed (touched s ⟨.CTL_GUARD_SEAL, 0, 0⟩)) = true := by
        rw [hw, guardSealed_touched, hseal]; rfl
      exact congrArg Host.Outcome.next (wrote_congr (if_pos hseals))
    · have hidle : ¬ (tst w 0 && !guardSealed (touched s ⟨.CTL_GUARD_SEAL, 0, 0⟩)) = true := by
        rw [hw]; exact Bool.false_ne_true
      exact congrArg Host.Outcome.next (wrote_congr (if_neg hidle))

/-! ## A write of MAC_EEE_TW can end Doze -/

/-- A device in service in which port 0 has just entered Doze: DOZE_EN is set, its receive wake time of 20 µs covers HOT_DOZE_NEED, and
its domain is still on, its sleep being queued (R124). -/
def justDozing : State := { ((State.reset.wr .CTL_CTX_CFG 0 0 0x80000000).wr .HOT_PORT_PWR 0 0 0x80000000).wr .MAC_EEE_TW 0 0 20 with
  boot := { State.reset.boot with st := .running }
  roast := { State.reset.roast with lanes := [put 22 4 6] }
  hot := { State.reset.hot with
    doms := [(0, { st := .on, warm := true }), (128, { st := .on, warm := true }), (170, { st := .on, warm := true })]
    queue := [⟨5, 0, 0⟩], doze := [0] } }

/-- Refutes O17: a write of 0 to MAC_EEE_TW of a port that has just entered Doze takes the port out of Doze (its receive wake time no
longer covers HOT_DOZE_NEED, R128), so that this RW family does not only store its word. -/
theorem not_hostWrite : ¬ Obligations.HostWrite := by
  unfold Obligations.HostWrite
  intro h
  have hreach : Reached justDozing ⟨0, false⟩ ⟨.MAC_EEE_TW, 0, 0⟩ := by unfold Reached; decide +kernel
  have hmay : MayWrite justDozing ⟨0, false⟩ ⟨.MAC_EEE_TW, 0, 0⟩ := .inl (by decide +kernel)
  obtain ⟨_, _, _, _, hplain⟩ := h.1 justDozing ⟨0, false⟩ ⟨.MAC_EEE_TW, 0, 0⟩ (wd (Reg.key ⟨.MAC_EEE_TW, 0, 0⟩)) 0 hreach hmay rfl rfl
  have hdoze := congrArg (fun t => t.hot.doze) (Host.Outcome.next.inj (hplain (by decide)))
  have hmodel : (levelRefresh (writeOp justDozing ⟨0, false⟩ (wd (Reg.key ⟨.MAC_EEE_TW, 0, 0⟩)).toNat 0)).hot.doze = [] := by
    decide +kernel
  have hclaim : (wrote justDozing ⟨.MAC_EEE_TW, 0, 0⟩ (fun s => s.setReg ⟨.MAC_EEE_TW, 0, 0⟩
      (0 &&& writeMask s ⟨.MAC_EEE_TW, 0, 0⟩))).hot.doze = [0] := by decide +kernel
  exact absurd (hmodel.symm.trans (hdoze.trans hclaim)) (by decide)

end Sys2Proof.Machine
end

section
/-!
SUPPORT. The shadow map (R48): its form under each operation that changes shadows.
-/
namespace Sys2Proof.Machine

/-! ## Sparse maps with strictly rising keys -/

section
variable {α : Type} {m : List (Nat × α)} {k : Nat} {v : α}

theorem mdel_sublist (m : List (Nat × α)) (k : Nat) : (mdel m k).Sublist m := by
  induction m with
  | nil => exact .refl []
  | cons p t ih =>
    obtain ⟨a, x⟩ := p
    unfold mdel
    split
    · exact ih.cons _
    · exact ih.cons_cons _

/-- An insertion brings the one entry, and no other. -/
theorem mem_mins {x : Nat × α} (h : x ∈ mins m k v) : x = (k, v) ∨ x ∈ m := by
  induction m with
  | nil => exact .inl (List.mem_singleton.mp h)
  | cons p t ih =>
    obtain ⟨a, y⟩ := p
    unfold mins at h
    split at h
    · exact List.mem_cons.mp h
    · split at h
      · exact (List.mem_cons.mp h).imp_right (List.mem_cons_of_mem _)
      · rcases List.mem_cons.mp h with rfl | h
        · exact .inr List.mem_cons_self
        · exact (ih h).imp_right (List.mem_cons_of_mem _)

/-- An insertion keeps the keys strictly rising. -/
theorem mins_pairwise (h : m.Pairwise (fun a b => a.1 < b.1)) : (mins m k v).Pairwise (fun a b => a.1 < b.1) := by
  induction m with
  | nil => exact List.pairwise_singleton _ _
  | cons p t ih =>
    obtain ⟨a, y⟩ := p
    obtain ⟨hhead, htail⟩ := List.pairwise_cons.mp h
    unfold mins
    split
    · rename_i hk
      refine List.pairwise_cons.mpr ⟨fun b hb => ?_, h⟩
      rcases List.mem_cons.mp hb with rfl | hb
      · exact hk
      · exact Nat.lt_trans hk (hhead b hb)
    · split
      · rename_i hk
        exact List.pairwise_cons.mpr ⟨fun b hb => hk ▸ hhead b hb, htail⟩
      · rename_i hk hne
        refine List.pairwise_cons.mpr ⟨fun b hb => ?_, ih htail⟩
        rcases mem_mins hb with rfl | hb
        · exact Nat.lt_of_le_of_ne (Nat.le_of_not_lt hk) (Ne.symm hne)
        · exact hhead b hb

end

/-! ## The form of the shadow map -/

/-- The form rests on the shadows alone. -/
theorem ShadowForm.congr {s t : State} (h : ShadowForm s) (e : t.shadows = s.shadows) : ShadowForm t := by
  unfold ShadowForm at *
  rwa [e]

/-- Leaving shadows out keeps the form. -/
theorem ShadowForm.sublist {s t : State} (h : ShadowForm s) (e : t.shadows.Sublist s.shadows) : ShadowForm t :=
  ⟨h.1.sublist e, fun x hx => h.2 x (e.subset hx)⟩

/-- A shadow of a register that an address names keeps the form (R48). -/
theorem ShadowForm.setShadow {s : State} {r : Reg} (w : Word) (hr : decodeAddr r.key = some r) (h : ShadowForm s) :
    ShadowForm (s.setShadow r w) := by
  by_cases hw : w = s.reg r
  · exact h.sublist (by rw [State.setShadow, if_pos hw]; exact mdel_sublist _ _)
  · simp only [ShadowForm, State.setShadow, if_neg hw]
    refine ⟨mins_pairwise h.1, fun x hx => ?_⟩
    rcases mem_mins hx with rfl | hx
    · exact ⟨r, hr, rfl⟩
    · exact h.2 x hx

/-- A change by the device ends the register's shadow (R48). -/
theorem ShadowForm.hw {s : State} (f : Fam) (i j : Nat) (w : Word) (h : ShadowForm s) : ShadowForm (s.hw f i j w) :=
  h.sublist (mdel_sublist _ _)

theorem ShadowForm.hwFld {s : State} {f : Fam} {i j : Nat} (lo n v : Nat) (hr : decodeAddr (Reg.key ⟨f, i, j⟩) = some ⟨f, i, j⟩)
    (h : ShadowForm s) : ShadowForm (s.hwFld f i j lo n v) :=
  ShadowForm.setShadow (s := s.setReg ⟨f, i, j⟩ _) _ hr (h.congr rfl)

/-- Sealing only discards shadows (R58). -/
theorem ShadowForm.sealGuard {s : State} (h : ShadowForm s) : ShadowForm (sealGuard s) := h.sublist List.filter_sublist

/-! ## What a copy of shadows does to the map -/

@[simp] theorem schSync_shadows (s : State) (p : Nat) : (schSync s p).shadows = s.shadows := by
  unfold schSync
  dsimp only
  split <;> rfl

@[simp] theorem keepOld_shadows (s : State) (l : List (Reg × Word)) : (keepOld s l).shadows = s.shadows := rfl

theorem foldl_schSync_shadows (ps : List Nat) (s : State) : (ps.foldl schSync s).shadows = s.shadows := by
  induction ps generalizing s with
  | nil => rfl
  | cons p t ih => rw [List.foldl_cons, ih, schSync_shadows]

@[simp] theorem freeCounters_shadows (s : State) (cs : List Nat) : (freeCounters s cs).shadows = s.shadows := by
  unfold freeCounters
  induction cs generalizing s with
  | nil => rfl
  | cons c t ih => rw [List.foldl_cons, ih]; rfl

/-- The registers whose shadows meet a condition are named by their own addresses. -/
theorem decodeAddr_of_mem_shadowsOf {s : State} (h : ShadowForm s) {p : Reg → Bool} {x : Reg × Word} (hx : x ∈ shadowsOf s p) :
    decodeAddr x.1.key = some x.1 := by
  obtain ⟨y, hy, e⟩ := List.mem_filterMap.mp hx
  obtain ⟨r, hr, hkey⟩ := h.2 y hy
  simp only [hr, Option.bind_some] at e
  split at e
  · obtain rfl := Option.some.inj e
    exact hkey ▸ hr
  · cases e

/-- A list of registers named by their own addresses takes new active words and shadows in the form. -/
theorem ShadowForm.copy {l : List (Reg × Word)} (hl : ∀ x ∈ l, decodeAddr x.1.key = some x.1) {s : State} (h : ShadowForm s) :
    ShadowForm (l.foldl (fun t x => (t.setReg x.1 x.2).setShadow x.1 x.2) s) := by
  induction l generalizing s with
  | nil => exact h
  | cons x t ih =>
    exact ih (fun y hy => hl y (List.mem_cons_of_mem _ hy))
      (ShadowForm.setShadow (s := s.setReg x.1 x.2) x.2 (hl x List.mem_cons_self) (h.congr rfl))

theorem ShadowForm.copyShadows {s : State} (p : Reg → Bool) (h : ShadowForm s) : ShadowForm (copyShadows s p) := by
  refine ShadowForm.congr (ShadowForm.copy (l := shadowsOf s p) (fun x hx => decodeAddr_of_mem_shadowsOf h hx) (h.congr ?_))
    (freeCounters_shadows _ _)
  rw [keepOld_shadows]
  split
  · exact foldl_schSync_shadows _ _
  · rfl

/-- Settles O23: the form under each operation that changes shadows; after reset no shadow is listed. -/
theorem shadowFormKept : Obligations.ShadowFormKept := by
  unfold Obligations.ShadowFormKept
  exact ⟨⟨.nil, fun x hx => absurd hx (List.not_mem_nil)⟩, fun s r w hr h => h.setShadow w hr, fun s f i j w h => h.hw f i j w,
    fun s f i j lo n v hr h => h.hwFld lo n v hr, fun s p h => h.copyShadows p, fun s h => h.sealGuard⟩

/-! ## A strobe also marks the frames inside -/

/-- A device with a shadow of POL_CFG that differs from its active value, and one frame inside whose lookup has begun. -/
def policingShadowed : State := { State.reset with
  shadows := [(Reg.key ⟨.POL_CFG, 0, 0⟩, 0)]
  hot := { State.reset.hot with doms := [(233, { st := .on }), (234, { st := .on })] }
  car := { State.reset.car with frames := [(0, { src := 0, feed := 0, ref := 0, rate := 0, t := 0, looked := true })] } }

/-- Refutes O22: a strobe of group 11 that takes a shadow changes more than registers and shadows. A frame whose lookup has begun notes
the old value of POL_CFG, which it goes on using (R48). -/
theorem not_updatesAndStrobes : ¬ Obligations.UpdatesAndStrobes := by
  unfold Obligations.UpdatesAndStrobes
  rintro ⟨_, h⟩
  have hform : ShadowForm policingShadowed :=
    ⟨List.pairwise_singleton _ _, fun x hx => ⟨⟨.POL_CFG, 0, 0⟩, by rw [List.mem_singleton.mp hx]; decide +kernel, by
      rw [List.mem_singleton.mp hx]⟩⟩
  obtain ⟨_, _, hframe⟩ := h policingShadowed (2 ^ 11) false 0 (by decide +kernel) hform (by decide +kernel) (by decide +kernel)
  have hkeeps := congrArg (fun t => t.car.frames.map (fun f => f.2.keeps)) hframe
  have hmodel : (strobe policingShadowed (2 ^ 11) false 0).car.frames.map (fun f => f.2.keeps) = [[(⟨.POL_CFG, 0, 0⟩, 0xC0000000)]] := by
    decide +kernel
  have hclaim : policingShadowed.car.frames.map (fun f => f.2.keeps) = [[]] := rfl
  exact absurd (hmodel.symm.trans (hkeeps.trans hclaim)) (by decide)

end Sys2Proof.Machine
end

section
/-!
SUPPORT. Power domains (R119): a wake also ends a sleep command.
-/
namespace Sys2Proof.Machine

/-- A device whose domain 233 a sleep command has put to sleep. -/
def sleptByCommand : State := { State.reset with hot := { State.reset.hot with doms := [(233, { st := .off, cmd := true })] } }

/-- Refutes O30: a wake of a sleeping domain does more than join the queue. Where a sleep command put the domain to sleep, the wake also
clears the domain's mark of that command (R119, R120). -/
theorem not_powerDomains : ¬ Obligations.PowerDomains := by
  unfold Obligations.PowerDomains
  rintro ⟨_, _, _, _, _, _, hwake, _⟩
  have h := hwake sleptByCommand 4 233 (by decide +kernel) (.inl (by decide +kernel)) (fun q hq => absurd hq List.not_mem_nil) (by decide)
  have hcmd := congrArg (fun t => (t.dom 233).cmd) h
  have hmodel : ((wake sleptByCommand 4 233).dom 233).cmd = false := by decide +kernel
  exact Bool.false_ne_true (hmodel.symm.trans hcmd)

end Sys2Proof.Machine
end

section
/-!
SUPPORT. The retention RAM window (R52, R113): single accesses through HOT_IND_DATA, and the bursts that repeat them.
-/
namespace Sys2Proof.Machine

/-- The address register of the retention RAM window. -/
abbrev hotAddr : Reg := ⟨.HOT_IND_ADDR, 0, 0⟩

/-- The data register of the retention RAM window. -/
abbrev hotData : Reg := ⟨.HOT_IND_DATA, 0, 0⟩

variable {s : State} {who : Who}

theorem regAt_hotAddr (s : State) : regAt s (wd 0x20100).toNat = some hotAddr := by rfl

theorem regAt_hotData (s : State) : regAt s ((wd 0x20100).toNat + 4) = some hotData := by rfl

theorem regAt_indData (s : State) : regAt s (wd 0x20104).toNat = some hotData := by rfl

/-- The Hotplate's registers lie behind no wrapper and in no switched domain. -/
theorem turnedAway_hotAddr (s : State) : turnedAway s hotAddr = none := rfl

theorem turnedAway_hotData (s : State) : turnedAway s hotData = none := rfl

/-- Reaching a register leaves the window where it was. -/
theorem rw_hotAddr_touched (s : State) (r : Reg) : (touched s r).rw .HOT_IND_ADDR = s.rw .HOT_IND_ADDR :=
  touched_reg s r (by decide) (fun k => by simp only [Reg.key, Fam.row]; omega)

theorem rn_hotAddr_touched (s : State) (r : Reg) : (touched s r).rn .HOT_IND_ADDR = s.rn .HOT_IND_ADDR :=
  congrArg BitVec.toNat (rw_hotAddr_touched s r)

theorem rn_eq_toNat_rw (s : State) (f : Fam) (i j : Nat) : s.rn f i j = (s.rw f i j).toNat := rfl

/-- Whether a register is a guard register rests on the Roast alone (R72). -/
theorem isGuardReg_congr {t : State} (h : t.roast = s.roast) (r : Reg) : isGuardReg t r = isGuardReg s r := by
  simp only [isGuardReg, h]

/-- A word without a double-bit error is read without an ECC event (R113). -/
theorem ramEcc_good {a : Nat} (h : s.hot.ramBad.contains a = false) : ramEcc s (· == a) = s := by
  have hn : s.hot.ramBad.filter (· == a) = [] := by
    rw [List.filter_eq_nil_iff]
    intro b hb hba
    rw [← eq_of_beq hba, List.contains_iff_mem.mpr hb] at h
    cases h
  simp only [ramEcc, hn, List.length_nil, if_true]

/-- The state with the window's address advanced by one word (R52). -/
def hotStep (s : State) : State := s.wr .HOT_IND_ADDR 0 0 (s.rw .HOT_IND_ADDR + 1)

@[simp] theorem hotStep_ramW (s : State) (k : Nat) : (hotStep s).ramW k = s.ramW k := rfl

@[simp] theorem hotStep_rw (s : State) : (hotStep s).rw .HOT_IND_ADDR = s.rw .HOT_IND_ADDR + 1 := rw_wr_same _ _ _ _ _

theorem hotStep_rn (h : s.rn .HOT_IND_ADDR < 65536) : (hotStep s).rn .HOT_IND_ADDR = s.rn .HOT_IND_ADDR + 1 := by
  rw [rn_eq_toNat_rw, hotStep_rw, BitVec.toNat_add, ← rn_eq_toNat_rw]
  exact Nat.mod_eq_of_lt (by simp; omega)

theorem one_add_wd (n : Nat) : 1 + wd n = wd (n + 1) := by
  rw [wd, wd, BitVec.ofNat_add, BitVec.add_comm]; rfl

@[simp] theorem setRes_rw (s : State) (st n : Nat) (ws : List Word) (f : Fam) (i j : Nat) :
    (setRes s st n ws).rw f i j = s.rw f i j := rfl

@[simp] theorem setRes_ramW (s : State) (st n : Nat) (ws : List Word) (k : Nat) : (setRes s st n ws).ramW k = s.ramW k := rfl

/-! ## Reads -/

/-- A read access to IND_DATA answers the word at IND_ADDR and advances it. -/
theorem accRead_hotData (h : s.rn .HOT_IND_ADDR < 65536) (hb : s.hot.ramBad.contains (s.rn .HOT_IND_ADDR) = false) :
    accRead s who hotData = (stOk, s.ramW (s.rn .HOT_IND_ADDR), hotStep s) := by
  have hread : windowRead s .HOT_IND_DATA (s.rn .HOT_IND_ADDR) = some (s.ramW (s.rn .HOT_IND_ADDR), s) := by
    simp only [windowRead, ge_iff_le, if_neg (Nat.not_le.mpr h), ramEcc_good hb]
  simp only [accRead, turnedAway_hotData, windowAddr, hread]
  rfl

/-- A read that is answered OK is followed by the rest of a burst. -/
theorem readMany_succ {r : Reg} {w : Word} {t : State} (n : Nat) (h : accRead s who r = (stOk, w, t)) :
    readMany (n + 1) s who r = ((readMany n t who r).1, w :: (readMany n t who r).2.1, (readMany n t who r).2.2) := by
  simp only [readMany, h]
  exact if_neg (by decide)

/-- A list of reads through IND_DATA answers the words from IND_ADDR on, and advances it by their number. -/
theorem readMany_hotData (n : Nat) : ∀ s : State, s.rn .HOT_IND_ADDR + n ≤ 65536 →
    (∀ k < n, s.hot.ramBad.contains (s.rn .HOT_IND_ADDR + k) = false) →
    (readMany n s who hotData).1 = stOk ∧
    (readMany n s who hotData).2.1 = (List.range n).map (fun k => s.ramW (s.rn .HOT_IND_ADDR + k)) ∧
    (readMany n s who hotData).2.2.hot = s.hot ∧
    (readMany n s who hotData).2.2.rw .HOT_IND_ADDR = s.rw .HOT_IND_ADDR + wd n := by
  induction n with
  | zero => exact fun s _ _ => ⟨rfl, rfl, rfl, (BitVec.add_zero _).symm⟩
  | succ n ih =>
    intro s hn hb
    have hlt : s.rn .HOT_IND_ADDR < 65536 := by omega
    have hrn := hotStep_rn hlt
    obtain ⟨hst, hws, hhot, hrw⟩ := ih (hotStep s) (by omega) (fun k hk => by
      rw [hrn, Nat.add_assoc, Nat.add_comm 1 k]; exact hb (k + 1) (by omega))
    rw [readMany_succ n (accRead_hotData hlt (hb 0 (by omega)))]
    refine ⟨hst, ?_, hhot, ?_⟩
    · rw [hws, List.range_succ_eq_map, List.map_cons, List.map_map]
      simp [Function.comp_def, hrn, Nat.add_assoc, Nat.add_comm 1]
    · rw [hrw, hotStep_rw, BitVec.add_assoc, one_add_wd]

/-! ## Writes -/

/-- The state with the word at the window's address written where it lies in the host area (R113). -/
def hotPut (s : State) (w : Word) : State :=
  if 32768 ≤ s.rn .HOT_IND_ADDR ∧ s.rn .HOT_IND_ADDR < 65536 then s.setRamW (s.rn .HOT_IND_ADDR) w else s

theorem hotPut_ramW (w : Word) (h : s.rn .HOT_IND_ADDR < 65536) (k : Nat) :
    (hotPut s w).ramW k = if k = s.rn .HOT_IND_ADDR ∧ 32768 ≤ k then w else s.ramW k := by
  unfold hotPut
  split
  · rw [ramW_setRamW]
    exact if_congr (by omega) rfl rfl
  · rw [if_neg (by omega)]

theorem hotPut_rw (s : State) (w : Word) : (hotPut s w).rw .HOT_IND_ADDR = s.rw .HOT_IND_ADDR := by
  unfold hotPut
  split <;> rfl

theorem hotPut_roast (s : State) (w : Word) : (hotPut s w).roast = s.roast := by
  unfold hotPut
  split <;> rfl

/-- A write access to IND_DATA writes the word at IND_ADDR and advances it. -/
theorem accWrite_hotData (w : Word) (hg : isGuardReg s hotData = false) :
    accWrite s who hotData w = (stOk, hotStep (hotPut s w)) := by
  have hj : guardJudge s who (isGuardReg s hotData) = none := by rw [hg]; rfl
  simp only [accWrite, hj, turnedAway_hotData]
  rfl

/-- A write that is answered OK is followed by the rest of a burst. -/
theorem writeMany_cons {r : Reg} {w : Word} {t : State} (ws : List Word) (h : accWrite s who r w = (stOk, t)) :
    writeMany (w :: ws) s who r = ((writeMany ws t who r).1, (writeMany ws t who r).2.1 + 1, (writeMany ws t who r).2.2) := by
  simp only [writeMany, h]
  exact if_neg (by decide)

/-- A list of writes through IND_DATA stores its words of the host area from IND_ADDR on, and advances it by their number. -/
theorem writeMany_hotData (ws : List Word) : ∀ s : State, s.rn .HOT_IND_ADDR + ws.length ≤ 65536 → isGuardReg s hotData = false →
    (writeMany ws s who hotData).1 = stOk ∧ (writeMany ws s who hotData).2.1 = ws.length ∧
    (writeMany ws s who hotData).2.2.rw .HOT_IND_ADDR = s.rw .HOT_IND_ADDR + wd ws.length ∧
    ∀ k, (writeMany ws s who hotData).2.2.ramW k =
      if s.rn .HOT_IND_ADDR ≤ k ∧ k < s.rn .HOT_IND_ADDR + ws.length ∧ 32768 ≤ k then ws.getD (k - s.rn .HOT_IND_ADDR) 0
      else s.ramW k := by
  induction ws with
  | nil => exact fun s _ _ => ⟨rfl, rfl, (BitVec.add_zero _).symm, fun k => (if_neg (by simp only [List.length_nil]; omega)).symm⟩
  | cons w ws ih =>
    intro s hn hg
    simp only [List.length_cons] at hn ⊢
    have hlt : s.rn .HOT_IND_ADDR < 65536 := by omega
    have hput : (hotPut s w).rn .HOT_IND_ADDR = s.rn .HOT_IND_ADDR := congrArg BitVec.toNat (hotPut_rw s w)
    have hrn : (hotStep (hotPut s w)).rn .HOT_IND_ADDR = s.rn .HOT_IND_ADDR + 1 := by rw [hotStep_rn (by omega), hput]
    obtain ⟨hst, hlen, hrw, hram⟩ := ih (hotStep (hotPut s w)) (by omega)
      ((isGuardReg_congr (hotPut_roast s w) hotData).trans hg)
    rw [writeMany_cons ws (accWrite_hotData w hg)]
    refine ⟨hst, by rw [hlen], ?_, fun k => ?_⟩
    · rw [hrw, hotStep_rw, hotPut_rw, BitVec.add_assoc, one_add_wd]
    · rw [hram k, hotStep_ramW, hotPut_ramW w hlt, hrn]
      by_cases hk : k = s.rn .HOT_IND_ADDR
      · subst hk
        rw [if_neg (by omega), Nat.sub_self, List.getD_cons_zero]
        exact if_congr (by omega) rfl rfl
      · by_cases hin : s.rn .HOT_IND_ADDR ≤ k ∧ k < s.rn .HOT_IND_ADDR + (ws.length + 1) ∧ 32768 ≤ k
        · rw [if_pos (by omega), if_pos hin, show k - s.rn .HOT_IND_ADDR = k - (s.rn .HOT_IND_ADDR + 1) + 1 by omega,
            List.getD_cons_succ]
        · rw [if_neg (by omega), if_neg hin, if_neg (fun h => hk h.1)]

/-! ## The commands -/

theorem exec_burstRead {n : Nat} (a start : Word) (h : 1 ≤ n ∧ n ≤ 256) (hs : served s who = true) :
    exec (.burstRead who a start n) s =
      let r := burstRead s who a.toNat start n
      .next (levelRefresh (testFlush (setRes r.2.2 r.1 r.2.1.length r.2.1))) := by
  show commit (if 1 ≤ n ∧ n ≤ 256 then _ else s) = _
  rw [if_pos h, hostOp_served hs]
  rfl

theorem exec_burstWrite {ws : List Word} (a start : Word) (h : 1 ≤ ws.length ∧ ws.length ≤ 256) (hs : served s who = true) :
    exec (.burstWrite who a start ws) s =
      let r := burstWrite s who a.toNat start ws
      .next (levelRefresh (testFlush (setRes r.2.2 r.1 r.2.1 []))) := by
  show commit (if 1 ≤ ws.length ∧ ws.length ≤ 256 then _ else s) = _
  rw [if_pos h, hostOp_served hs]
  rfl

/-- The state in which a burst of the retention RAM window reads or writes its first word: IND_ADDR holds START. -/
def hotFrom (s : State) (start : Word) : State := (touched s hotAddr).setReg hotAddr start

theorem hotFrom_rw (s : State) (start : Word) : (hotFrom s start).rw .HOT_IND_ADDR = start := reg_setReg_same _ _ _

theorem hotFrom_rn (s : State) (start : Word) : (hotFrom s start).rn .HOT_IND_ADDR = start.toNat :=
  congrArg BitVec.toNat (hotFrom_rw s start)

theorem hotFrom_hot (s : State) (start : Word) : (hotFrom s start).hot = s.hot := (touched_reports s hotAddr).hot_eq

theorem hotFrom_ramW (s : State) (start : Word) (k : Nat) : (hotFrom s start).ramW k = s.ramW k := by
  rw [State.ramW, hotFrom_hot]; rfl

theorem hotFrom_roast (s : State) (start : Word) : (hotFrom s start).roast = s.roast := (touched_reports s hotAddr).roast_eq

/-- A burst of the retention RAM window sets IND_ADDR and then reads through IND_DATA. -/
theorem burstRead_hot (start : Word) (n : Nat) : burstRead s who (wd 0x20100).toNat start n =
    readMany n (hotFrom s start) who hotData := by
  simp only [burstRead, regAt_hotAddr, turnedAway_hotAddr, regAt_hotData]
  rfl

/-- A burst of the retention RAM window writes IND_ADDR and then through IND_DATA. -/
theorem burstWrite_hot (start : Word) (ws : List Word) (ha : isGuardReg s hotAddr = false) (hd : isGuardReg s hotData = false) :
    burstWrite s who (wd 0x20100).toNat start ws =
      writeMany ws (hotFrom s start) who hotData := by
  have hacc : accWrite (touched s hotAddr) who hotAddr start = (stOk, hotFrom s start) := by
    have hj : guardJudge (touched s hotAddr) who (isGuardReg (touched s hotAddr) hotAddr) = none := by
      rw [isGuardReg_touched, ha]; rfl
    simp only [accWrite, hj, turnedAway_hotAddr]
    exact congrArg (fun w => (stOk, (touched s hotAddr).setReg hotAddr w)) BitVec.and_allOnes
  simp only [burstWrite, regAt_hotAddr, regAt_hotData, ha, hd, hacc]
  rfl

theorem ramW_touched (s : State) (r : Reg) (k : Nat) : (touched s r).ramW k = s.ramW k := by
  rw [State.ramW, (touched_reports s r).hot_eq]; rfl

/-- A single read of HOT_IND_DATA is one read access, whatever the row says of CAR_IND_DATA's errors. -/
theorem exec_indDataRead_hot (ecc : Option Bool) (hs : served s who = true) :
    exec (.indDataAccess who (wd 0x20104) none ecc) s =
      let r := accRead (touched s hotData) who hotData
      .next (levelRefresh (testFlush (setRes r.2.2 r.1 1 [r.2.1]))) := by
  have hmeets : windowMeets s (wd 0x20104).toNat ecc = s := by cases ecc <;> rfl
  show commit (hostOp s who (fun s => readRes (hostRead (windowMeets s (wd 0x20104).toNat ecc) who (wd 0x20104).toNat))) = _
  rw [hostOp_served hs, hmeets, hostRead_assigned (regAt_indData s)]
  rfl

/-- A single write of HOT_IND_DATA is one write access. -/
theorem exec_indDataWrite_hot (w : Word) (ecc : Option Bool) (hs : served s who = true) :
    exec (.indDataAccess who (wd 0x20104) (some w) ecc) s =
      let r := accWrite (touched s hotData) who hotData w
      .next (levelRefresh (testFlush (setRes r.2 r.1 0 []))) := by
  show commit (hostOp s who (fun s => doneRes (hostWrite s who (wd 0x20104).toNat w))) = _
  rw [hostOp_served hs, hostWrite_assigned w (regAt_indData s)]
  rfl

/-- Settles O20: bursts and single accesses of the retention RAM window. -/
theorem retentionWindow : Obligations.RetentionWindow := by
  unfold Obligations.RetentionWindow
  refine ⟨fun s who start n hs h1 h2 hn hb => ?_, fun s who start ws hs h1 h2 hn ha hd => ?_, fun s who ecc hs ha hb => ?_,
    fun s who w ecc hs hg h1 h2 => ?_⟩
  · obtain ⟨hst, hws, hhot, hrw⟩ := readMany_hotData (who := who) n (hotFrom s start) (by rw [hotFrom_rn]; exact hn)
      (by rw [hotFrom_rn, hotFrom_hot]; exact hb)
    refine ⟨_, exec_burstRead _ start ⟨h1, h2⟩ hs, ?_⟩
    rw [burstRead_hot, setRes_opRes, hst, hws]
    exact ⟨by simp only [List.length_map, List.length_range, hotFrom_rn, hotFrom_ramW],
      by rw [setRes_rw, hrw, hotFrom_rw],
      hhot.trans (hotFrom_hot s start)⟩
  · obtain ⟨hst, hlen, hrw, hram⟩ := writeMany_hotData (who := who) ws (hotFrom s start) (by rw [hotFrom_rn]; exact hn)
      ((isGuardReg_congr (hotFrom_roast s start) hotData).trans hd)
    simp only [hotFrom_rn, hotFrom_ramW] at hram
    refine ⟨_, exec_burstWrite _ start ⟨h1, h2⟩ hs, ?_⟩
    rw [burstWrite_hot start ws ha hd, setRes_opRes, hst, hlen]
    simp only [setRes_rw, setRes_ramW]
    exact ⟨trivial, hrw.trans (by rw [hotFrom_rw]), fun h k => (hram k).trans (if_congr (by omega) rfl rfl),
      fun h k => (hram k).trans (if_neg (by omega))⟩
  · have hacc := accRead_hotData (who := who) (s := touched s hotData) (by rw [rn_hotAddr_touched]; exact ha)
      (by rw [rn_hotAddr_touched, (touched_reports s hotData).hot_eq]; exact hb)
    refine ⟨_, exec_indDataRead_hot ecc hs, ?_⟩
    rw [hacc]
    exact ⟨by rw [setRes_opRes, rn_hotAddr_touched, ramW_touched], by simp only [setRes_rw, hotStep_rw, rw_hotAddr_touched],
      (touched_reports s hotData).hot_eq⟩
  · refine ⟨_, exec_indDataWrite_hot w ecc hs, ?_⟩
    rw [accWrite_hotData w ((isGuardReg_touched s hotData hotData).trans hg)]
    refine ⟨rfl, by simp only [setRes_rw, hotStep_rw, hotPut_rw, rw_hotAddr_touched], fun k => ?_⟩
    have hlt : (touched s hotData).rn .HOT_IND_ADDR < 65536 := by rw [rn_hotAddr_touched]; exact h2
    simp only [setRes_ramW, hotStep_ramW]
    rw [hotPut_ramW w hlt, rn_hotAddr_touched, ramW_touched]
    exact if_congr (by omega) rfl rfl

end Sys2Proof.Machine
end

section
/-!
SUPPORT. Table commands (R210 to R213): the command word, what beginning a command leaves, and each command on its own.
-/
namespace Sys2Proof.Machine

variable {s : State} {who : Who} {op r i : Nat} {args : List Word}

/-! ## The command word -/

theorem toNat_tblWord (op r i : Nat) : (tblWord op r i).toNat = 2 ^ 28 * (op % 2 ^ 4) + 2 ^ 24 * (r % 2 ^ 4) + i % 2 ^ 19 := by
  have hr : r % 2 ^ 4 < 2 ^ 4 := Nat.mod_lt _ (by decide)
  have hi : i % 2 ^ 19 < 2 ^ 19 := Nat.mod_lt _ (by decide)
  have h1 : (put 28 4 op ||| put 24 4 r).toNat = 2 ^ 24 * (2 ^ 4 * (op % 2 ^ 4) + r % 2 ^ 4) := by
    rw [toNat_or_of_lt (toNat_put 28 4 op (by decide)) (by rw [toNat_put 24 4 r (by decide)]; omega),
      toNat_put _ _ _ (by decide), toNat_put _ _ _ (by decide)]
    omega
  rw [tblWord, toNat_or_of_lt h1 (by rw [toNat_put 0 19 i (by decide)]; omega), h1, toNat_put _ _ _ (by decide)]
  omega

theorem op_tblWord (op r i : Nat) : fld (tblWord op r i) 28 4 = op % 2 ^ 4 := by
  rw [fld, toNat_tblWord, Nat.shiftRight_eq_div_pow]; omega

theorem region_tblWord (op r i : Nat) : fld (tblWord op r i) 24 4 = r % 2 ^ 4 := by
  rw [fld, toNat_tblWord, Nat.shiftRight_eq_div_pow]; omega

theorem index_tblWord (op r i : Nat) : fld (tblWord op r i) 0 19 = i % 2 ^ 19 := by
  rw [fld, toNat_tblWord, Nat.shiftRight_zero]; omega

/-! ## Beginning a command -/

theorem setBuf_frame (c : Nat) (ws : List Word) : ∀ (s : State) (n : Nat),
    setBuf s c n ws = { s with tbl := { s.tbl with buf := (setBuf s c n ws).tbl.buf } } := by
  induction ws with
  | nil => exact fun s n => rfl
  | cons w t ih =>
    intro s n
    rw [setBuf, ih]
    split <;> rfl

theorem setReq_frame (c : Nat) (ws : List Word) : ∀ (s : State) (n : Nat),
    setReq s c n ws = { s with tbl := { s.tbl with req := (setReq s c n ws).tbl.req } } := by
  induction ws with
  | nil => exact fun s n => rfl
  | cons w t ih =>
    intro s n
    rw [setReq, ih]

/-- Copying a command's words changes the issuer's entry buffer alone. -/
theorem loadArgs_frame (s : State) (c op idx : Nat) (args : List Word) :
    loadArgs s c op idx args = { s with tbl := { s.tbl with buf := (loadArgs s c op idx args).tbl.buf } } := by
  unfold loadArgs
  split
  · split
    · rfl
    · exact setBuf_frame c args s _
  · exact setBuf_frame c args s _

/-- Beginning a command only counts it and takes its words (R210). -/
theorem tableBegun_frame (s : State) (who : Who) (op r i : Nat) (args : List Word) :
    let t := occ (occ s 20 0x06 0) 20 0x10 0
    tableBegun s who op r i args = { t with tbl := { t.tbl with
      req := (tableBegun s who op r i args).tbl.req, buf := (tableBegun s who op r i args).tbl.buf } } := by
  intro t
  unfold tableBegun
  rw [loadArgs_frame, setReq_frame]

theorem tableBegun_roast (s : State) (who : Who) (op r i : Nat) (args : List Word) :
    (tableBegun s who op r i args).roast = s.roast := by
  rw [tableBegun_frame]
  exact ((occ_reports s 20 6 0 1).trans (occ_reports _ 20 16 0 1)).roast_eq

theorem tableBegun_flush (s : State) (who : Who) (op r i : Nat) (args : List Word) :
    (tableBegun s who op r i args).tbl.flush = s.tbl.flush := by
  rw [tableBegun_frame]
  show (occ (occ s 20 0x06 0) 20 0x10 0).tbl.flush = s.tbl.flush
  rw [((occ_reports s 20 6 0 1).trans (occ_reports _ 20 16 0 1)).tbl_eq]

/-- Beginning a command leaves the seal. -/
theorem guardSealed_tableBegun (s : State) (who : Who) (op r i : Nat) (args : List Word) :
    guardSealed (tableBegun s who op r i args) = guardSealed s := by
  have hseal (t : State) (ev : Nat) : (occ t 20 ev 0).rw .CTL_GUARD_SEAL = t.rw .CTL_GUARD_SEAL :=
    occ_reg t 20 ev 0 1 (by decide) (by decide) (by decide)
  rw [tableBegun_frame]
  exact congrArg (fun w => tst w 0) ((hseal _ _).trans (hseal _ _))

theorem regionSize_tableBegun (s : State) (who : Who) (op r i : Nat) (args : List Word) (q : Nat) :
    regionSize (tableBegun s who op r i args) q = regionSize s q := by
  simp only [regionSize, tableBegun_roast]

/-! ## From a row to its outcome -/

theorem tableRow_served {nres : Nat} (hs : served s who = true) (ha : args.length ≤ 15) (hn : nres ≤ 16) :
    tableRow s who op r i args nres = tableSingle s who (args ++ [tblWord op r i]) nres := if_pos ⟨ha, hn, hs⟩

/-- A command that need not wait leaves its STATUS and result words. -/
theorem tableSingle_now {ws : List Word} (nres : Nat) (h : tableWaits s who ws = false) : tableSingle s who ws nres =
    testFlush (setRes (tableOp s who ws nres).2.2 (tableOp s who ws nres).1 nres (tableOp s who ws nres).2.1) := by
  simp only [tableSingle, h, Bool.false_eq_true, if_false]

/-- A closed wrapper answers at once (R104). -/
theorem tableWaits_closed (hc : closed s 20 = true) (ws : List Word) : tableWaits s who ws = false := by
  simp [tableWaits, hc]

/-- Where no command waits, one that meets no bank (LOAD, FETCH, FLUSH) need not wait either (R118). -/
theorem tableWaits_of_no_bank (hw : s.ctl.tblWaits = []) (h7 : 7 ≤ op) (h16 : op < 2 ^ 4) :
    tableWaits s who (args ++ [tblWord op r i]) = false := by
  have hlt : decide (op < 7) = false := decide_eq_false (Nat.not_lt.mpr h7)
  simp only [tableWaits, tableAsleep, List.getLastD_concat, op_tblWord, Nat.mod_eq_of_lt h16, hw, hlt, Bool.and_false,
    Bool.false_and, bne_self_eq_false, Bool.or_self]

section
variable {nres : Nat} {t : State} (hs : served s who = true) (ha : args.length ≤ 15) (hn : nres ≤ 16) (hc : closed s 20 = false)
  (hop : op < 2 ^ 4) (hr : r < 2 ^ 4) (hi : i < 2 ^ 19) (hw : tableWaits s who (args ++ [tblWord op r i]) = false)
include hs ha hn hc hop hr hi hw

/-- A command that its checks let through, or find at fault, is answered with its CODE (R211). -/
theorem tableRow_answered {code idx off : Nat}
    (h : tableExec (tableBegun s who op r i args) who op r i args.length = ({ code := code, index := idx, off := off }, t)) :
    commit (tableRow s who op r i args nres) = .next (tableAnswered t who code idx off nres) := by
  unfold tableBegun at h
  rw [tableRow_served hs ha hn, tableSingle_now nres hw]
  simp only [tableOp, hc, List.dropLast_concat, List.getLastD_concat, op_tblWord, region_tblWord, index_tblWord,
    Nat.mod_eq_of_lt hop, Nat.mod_eq_of_lt hr, Nat.mod_eq_of_lt hi, Bool.false_eq_true, if_false, h]
  rfl

/-- A command that the guard refuses is answered with the refusal's STATUS and no words (R213). -/
theorem tableRow_refused {idx st : Nat}
    (h : tableExec (tableBegun s who op r i args) who op r i args.length = ({ index := idx, refused := some st }, t)) :
    commit (tableRow s who op r i args nres) = .next (levelRefresh (testFlush (setRes t st nres []))) := by
  unfold tableBegun at h
  rw [tableRow_served hs ha hn, tableSingle_now nres hw]
  simp only [tableOp, hc, List.dropLast_concat, List.getLastD_concat, op_tblWord, region_tblWord, index_tblWord,
    Nat.mod_eq_of_lt hop, Nat.mod_eq_of_lt hr, Nat.mod_eq_of_lt hi, Bool.false_eq_true, if_false, h]
  rfl

end

/-! ## The commands on an entry buffer that holds their words -/

section
variable {c : Nat} (u : State) (n : Nat)

theorem opRegion_read (h : r ≤ 12) : opRegion 1 r = true := by simp [opRegion, h]

theorem opRegion_write (h : r ≤ 12) : opRegion 2 r = true := by simp [opRegion, h]

/-- READ of an entry of the region (R210). -/
theorem tableExec_read (hr : r ≤ 12) (hi : i < regionSize u r) : tableExec u who 1 r i n =
    let v := sparAt (if r = 7 then meterSync u i else u) r i
    let e := entryAt v r i
    ({ code := if !parOk r e then 5 else 0, index := i },
      if !parOk r e then countParity (setBuf v who.ctx 0 e) 8 r [i] else setBuf v who.ctx 0 e) := by
  simp only [tableExec, opRegion_read hr]
  simp [Nat.ne_of_gt (Nat.zero_lt_of_lt hi), Nat.not_le.mpr hi]

/-- READ of an index beyond the region (R211). -/
theorem tableExec_read_beyond (hr : r ≤ 12) (h0 : 0 < regionSize u r) (hi : regionSize u r ≤ i) :
    tableExec u who 1 r i n = ({ code := 3 }, u) := by
  simp [tableExec, opRegion_read hr, Nat.ne_of_gt h0, hi]

/-- The guard lets pass what is no guard operation, and the acting guard before the seal (R55, R58). -/
theorem guardJudge_passes {b : Bool} (h : b = false ∨ (who.acting = true ∧ guardSealed u = false)) : guardJudge u who b = none := by
  rcases h with rfl | ⟨hact, hseal⟩
  · rfl
  · simp [guardJudge, hact, hseal]

/-- A write of an entry that lies in a guard region is a guard operation (R213). -/
theorem guardEntry_of_region (i : Nat) (new : List Word) (h : u.roast.guardRegions.testBit r = true) :
    guardEntry u r i new = true := by simp [guardEntry, h]

/-- WRITE of an entry of the region, where the guard does not object (R210, R213). -/
theorem tableExec_write (hr : r ≤ 12) (hi : i < regionSize u r)
    (hg : guardEntry u r i (bufWords u who.ctx (entryWords r)) = false ∨ (who.acting = true ∧ guardSealed u = false)) :
    tableExec u who 2 r i n = ({ index := i }, hostPut u r i (bufWords u who.ctx (entryWords r))) := by
  have hregion : (if u.roast.guardRegions.testBit r = true then guardJudge u who true else none) = none := by
    split
    · rename_i hb
      exact guardJudge_passes u (hg.imp_left (fun h => by rw [guardEntry_of_region u i _ hb] at h; cases h))
    · rfl
  simp [tableExec, opRegion_write hr, hregion, guardJudge_passes u hg, Nat.ne_of_gt (Nat.zero_lt_of_lt hi), Nat.not_le.mpr hi]

/-- WRITE of an entry of the region, where the guard objects: to the region, or to the entry (R213). -/
theorem tableExec_write_refused (hr : r ≤ 12) (hi : i < regionSize u r)
    (hg : guardEntry u r i (bufWords u who.ctx (entryWords r)) = true) (h : guardSealed u = true ∨ who.acting = false) :
    ∃ j, tableExec u who 2 r i n =
      ({ index := j, refused := some (if guardSealed u = true then stGuardSealed else stGuardDenied) }, guardRefused u who) := by
  by_cases hb : u.roast.guardRegions.testBit r = true
  · exact ⟨0, by simp [tableExec, opRegion_write hr, hb, guardJudge_refuses h]⟩
  · exact ⟨i, by simp [tableExec, opRegion_write hr, hb, hg, guardJudge_refuses h, Nat.ne_of_gt (Nat.zero_lt_of_lt hi),
      Nat.not_le.mpr hi]⟩

/-- WRITE of an index beyond a region to which the guard does not object (R211, R213). -/
theorem tableExec_write_beyond (hr : r ≤ 12) (h0 : 0 < regionSize u r) (hi : regionSize u r ≤ i)
    (hg : u.roast.guardRegions.testBit r = false ∨ (who.acting = true ∧ guardSealed u = false)) :
    tableExec u who 2 r i n = ({ code := 3 }, u) := by
  have hregion : (if u.roast.guardRegions.testBit r = true then guardJudge u who true else none) = none := by
    split
    · rename_i hb
      exact guardJudge_passes u (hg.imp_left (fun h => by rw [hb] at h; cases h))
    · rfl
  simp [tableExec, opRegion_write hr, hregion, Nat.ne_of_gt h0, hi]

/-- LOAD: its words fit into the buffer from its offset, or are CODE 3 (R210, R211). -/
theorem tableExec_load (i n : Nat) :
    tableExec u who 8 0 i n = ({ code := if 64 < i % 64 + n then 3 else 0 }, u) := by
  by_cases h : 64 < i % 64 + n <;> simp [tableExec, h]

/-- FETCH returns words from its offset (R210). -/
theorem tableExec_fetch (i n : Nat) : tableExec u who 9 0 i n = ({ off := i % 64 }, u) := rfl

/-- FLUSH starts a sweep, or is CODE 6 while one runs (R210, R222). -/
theorem tableExec_flush (i n : Nat) : tableExec u who 7 0 i n =
    if u.tbl.flush = true then ({ code := 6 }, u)
    else ({}, flushStart u [bufW u who.ctx 0] who.ctx false (who.acting && !guardSealed u)) := rfl

/-- A READ is never a guard operation (R213). -/
theorem tableExec_read_not_refused (i n : Nat) : (tableExec u who 1 r i n).1.refused = none := by
  by_cases hop : opRegion 1 r = true
  · by_cases h0 : regionSize u r = 0
    · simp [tableExec, hop, h0]
    · by_cases hi : regionSize u r ≤ i
      · simp [tableExec, hop, h0, hi]
      · simp [tableExec, hop, h0, hi]
  · simp [tableExec, hop]

/-- A command whose issuer waits behind others, or for a bank, joins the commands that wait (R118, R212). -/
theorem tableSingle_waits {ws : List Word} (nres : Nat) (h : tableWaits s who ws = true) : tableSingle s who ws nres =
    { s with ctl := { s.ctl with tblWaits := s.ctl.tblWaits ++ [⟨who.ctx, who.acting, ws, nres, none⟩] } } := if_pos h

/-- The closed wrapper of block 20 answers a READ with an error (R104). -/
theorem tableOp_read_closed (hc : closed s 20 = true) (r i nres : Nat) :
    tableOp s who (args ++ [tblWord 1 r i]) nres = (stDomainOff, [], isoError s 20) := by
  simp only [tableOp, hc, if_true, List.getLastD_concat, op_tblWord]
  rw [show 1 % 2 ^ 4 = 1 from rfl, tableExec_read_not_refused]

end

/-- Settles O43: each command's outcome on the state in which it is carried out, between the row's words and its answer. -/
theorem tableReadsAndWrites : Obligations.TableReadsAndWrites := by
  unfold Obligations.TableReadsAndWrites
  intro s who args hs ha
  refine ⟨fun hc => ⟨fun r i hr hi h0 => ⟨?_, ?_⟩, fun r i hw => ?_, fun hwait o ho => ⟨fun hl => ?_, fun hl => ?_, fun n hn => ?_⟩, ?_⟩,
    fun hc r i => ?_⟩
  · intro u v e hw
    have hsize : regionSize u r = regionSize s r := regionSize_tableBegun s who 1 r i args r
    have answered {code idx : Nat} {t : State} := tableRow_answered (code := code) (idx := idx) (off := 0) (t := t) hs ha
      (Nat.le_refl 16) hc (by decide) (by omega) hi hw
    refine ⟨fun hlt hpar => answered ?_, fun hlt hpar => answered ?_, fun hge => answered ?_⟩
    · rw [tableExec_read u _ hr (hsize ▸ hlt)]
      simp only [v, e] at hpar
      simp [hpar, v, e]
    · rw [tableExec_read u _ hr (hsize ▸ hlt)]
      simp only [v, e] at hpar
      simp [hpar, v, e]
    · exact tableExec_read_beyond u _ hr (hsize ▸ h0) (hsize ▸ hge)
  · intro u new hw
    have hsize : regionSize u r = regionSize s r := regionSize_tableBegun s who 2 r i args r
    have hseal : guardSealed u = guardSealed s := guardSealed_tableBegun s who 2 r i args
    have hroast : u.roast = s.roast := tableBegun_roast s who 2 r i args
    have answered {code idx : Nat} {t : State} := tableRow_answered (code := code) (idx := idx) (off := 0) (t := t) hs ha
      (Nat.le_refl 16) hc (by decide) (by omega) hi hw
    refine ⟨fun hlt hg => answered ?_, fun hlt hg h => ?_, fun hge hg => answered ?_⟩
    · exact tableExec_write u _ hr (hsize ▸ hlt) (hseal ▸ hg)
    · obtain ⟨j, hexec⟩ := tableExec_write_refused u args.length hr (hsize ▸ hlt) hg (by rw [hseal]; exact h.symm)
      rw [hseal] at hexec
      exact tableRow_refused hs ha (Nat.le_refl 16) hc (by decide) (by omega) hi hw hexec
    · exact tableExec_write_beyond u _ hr (hsize ▸ h0) (hsize ▸ hge) (hroast ▸ hseal ▸ hg)
  · show commit (tableRow s who 1 r i args 16) = _
    rw [tableRow_served hs ha (Nat.le_refl 16), tableSingle_waits 16 hw]
    rfl
  · refine tableRow_answered hs ha (Nat.le_refl 16) hc (by decide) (by decide) ho
      (tableWaits_of_no_bank hwait (by decide) (by decide)) ((tableExec_load _ o _).trans ?_)
    rw [if_neg (Nat.not_lt.mpr hl)]
  · refine tableRow_answered hs ha (Nat.le_refl 16) hc (by decide) (by decide) ho
      (tableWaits_of_no_bank hwait (by decide) (by decide)) ((tableExec_load _ o _).trans ?_)
    rw [if_pos hl]
  · exact tableRow_answered hs (by decide) hn hc (by decide) (by decide) ho
      (tableWaits_of_no_bank hwait (by decide) (by decide)) (tableExec_fetch _ o _)
  · intro u hwait
    have hflush : u.tbl.flush = s.tbl.flush := tableBegun_flush s who 7 0 0 args
    have hseal : guardSealed u = guardSealed s := guardSealed_tableBegun s who 7 0 0 args
    have answered {code : Nat} {t : State} := tableRow_answered (code := code) (idx := 0) (off := 0) (t := t) hs ha
      (Nat.le_refl 16) hc (by decide) (by decide) (by decide) (tableWaits_of_no_bank hwait (op := 7) (r := 0) (i := 0) (by decide) (by decide))
    refine ⟨fun hf => answered ((tableExec_flush u 0 _).trans ?_), fun hf => answered ((tableExec_flush u 0 _).trans ?_)⟩
    · rw [hflush, hf, hseal, if_neg Bool.false_ne_true]
    · rw [hflush, hf, if_pos rfl]
  · show commit (tableRow s who 1 r i args 16) = _
    rw [tableRow_served hs ha (Nat.le_refl 16), tableSingle_now 16 (tableWaits_closed hc _), tableOp_read_closed hc]
    rfl

end Sys2Proof.Machine
end

section
/-!
SUPPORT. BLOCK_RESET (R103, R104, R118): what a closing wrapper answers.
-/
namespace Sys2Proof.Machine

/-- A device in service in which context 0's table READ waits for the sleeping bank of the forwarding database (R118). -/
def tableWaiting : State := { State.reset.wr .CTL_CTX_CFG 0 0 0x80000000 with
  boot := { State.reset.boot with st := .running }
  ctl := { State.reset.ctl with tblWaits := [⟨0, false, [tblWord 1 0 0], 16, none⟩] } }

/-- Refutes O26: a pulse of block 20 does more than record the cause and isolate the block. Its wrapper closes, and so the table command
that waited for a bank is answered with an error and waits no longer (R104, R118). -/
theorem not_blockResetOperations : ¬ Obligations.BlockResetOperations := by
  unfold Obligations.BlockResetOperations
  rintro ⟨h, _⟩
  obtain ⟨hpulse, _⟩ := h tableWaiting ⟨0, false⟩ (2 ^ 20) (by decide +kernel) (.inl (by decide +kernel)) (by decide)
  have hwaits := congrArg (fun t => t.ctl.tblWaits) (Host.Outcome.next.inj (hpulse (by decide +kernel)))
  have hmodel : (levelRefresh (tblResume (blkResetOp tableWaiting ⟨0, false⟩ .pulse (2 ^ 20)))).ctl.tblWaits = [] := by decide +kernel
  have hclaim : (levelRefresh (setRes ((maskBlocks tableWaiting (2 ^ 20)).foldl pulseBlk
      (markCause tableWaiting (maskBlocks tableWaiting (2 ^ 20)))) stOk 0 [])).ctl.tblWaits =
      [⟨0, false, [tblWord 1 0 0], 16, none⟩] := by decide +kernel
  exact absurd (hmodel.symm.trans (hwaits.trans hclaim)) (by decide)

end Sys2Proof.Machine
end

section
/-!
SUPPORT. Control frames at a held host interface (R104).
-/
namespace Sys2Proof.Machine

/-- A device in service whose host interface H0 is held in reset behind its closed wrapper. -/
def hostHeld : State := { State.reset.setBlk 32 { st := .held, closed := true } with boot := { State.reset.boot with st := .running } }

/-- Refutes O25: a frame on a host lane that is not ready is not always left. Where the lane's interface is held in reset, its wrapper
discards the frame and counts it in RST_ISO_DISCARD (R104). -/
theorem not_controlRequests : ¬ Obligations.ControlRequests := by
  unfold Obligations.ControlRequests
  rintro ⟨_, _, _, hleft, _⟩
  have h := hleft hostHeld 0 [] [] (.inr (.inl (by decide +kernel)))
  have hcount := congrArg (fun t => t.rw .RST_ISO_DISCARD 32) (Host.Outcome.next.inj h)
  have hmodel : (levelRefresh (controlFrame hostHeld 0 [] [])).rw .RST_ISO_DISCARD 32 = 1 := by decide +kernel
  have hclaim : (levelRefresh hostHeld).rw .RST_ISO_DISCARD 32 = 0 := by decide +kernel
  exact absurd (hmodel.symm.trans (hcount.trans hclaim)) (by decide)

end Sys2Proof.Machine
end

section
/-!
SUPPORT. Lane bring-up (R143, R144, R147): a lane that comes from COLD to TEST.
-/
namespace Sys2Proof.Machine

/-- A device whose host lane H0, after its reference was lost and found again, waits in COLD. Its LN_TEST selects the PRBS7 checker, and
LN_PRBS_ERR still holds the lock that the checker had in TEST. -/
def checkerColdLocked : State := ((({ State.reset with hot := { State.reset.hot with clk := 2 } }.setLane 40 { st := .cold }).wr
  .LN_TEST 40 0 (put 16 4 1)).wr .LN_PRBS_ERR 40 0 (bitw 31 true))

/-- A present lane in COLD whose LN_TEST selects something goes to TEST at its good PLL, and its checker has no lock there (R144, R147). -/
theorem exec_lanePllGood_test {s : State} {l : Nat} (hp : lanePresent s l = true) (hst : (s.lane l).st = .cold)
    (hr : lanePllReady s l = true) (hc : closed s (domBlock (128 + l)) = false) (ht : fld (s.rw .LN_TEST l) 16 16 ≠ 0) :
    exec (.lanePllGood l) s = .next (levelRefresh (prbsUnlock (s.setLane l { s.lane l with st := .test, pll := true }) l)) := by
  have hcold : leaveCold s l = prbsUnlock (s.setLane l { s.lane l with st := .test, pll := true }) l := by
    simp [leaveCold, hr, ht]
  have hgood : lanePllGood s l = leaveCold s l := by simp [lanePllGood, hp, hr, hc, hst]
  show commit (lanePllGood s l) = _
  rw [hgood, hcold]
  rfl

/-- Refutes O32: a cold lane that its good PLL takes to TEST does not only change its state. The lock that its checker had in an earlier
TEST goes from LN_PRBS_ERR (R144, R147). -/
theorem not_laneBringUp : ¬ Obligations.LaneBringUp := by
  unfold Obligations.LaneBringUp
  rintro ⟨hpll, _⟩
  have hp : lanePresent checkerColdLocked 40 = true := by decide +kernel
  have hst : (checkerColdLocked.lane 40).st = .cold := by decide +kernel
  have hr : lanePllReady checkerColdLocked 40 = true := by decide +kernel
  have hc : closed checkerColdLocked (domBlock (128 + 40)) = false := by decide +kernel
  have ht : fld (checkerColdLocked.rw .LN_TEST 40) 16 16 ≠ 0 := by decide +kernel
  have h := (exec_lanePllGood_test hp hst hr hc ht).symm.trans (hpll checkerColdLocked 40 hp hst hr hc)
  rw [if_pos ht] at h
  have hlock := congrArg (fun t => tst (t.rw .LN_PRBS_ERR 40) 31) (Host.Outcome.next.inj h)
  have hmodel : tst ((levelRefresh (prbsUnlock (checkerColdLocked.setLane 40
      { checkerColdLocked.lane 40 with st := .test, pll := true }) 40)).rw .LN_PRBS_ERR 40) 31 = false := by decide +kernel
  have hclaim : tst ((levelRefresh (checkerColdLocked.setLane 40
      { checkerColdLocked.lane 40 with st := .test, pll := true })).rw .LN_PRBS_ERR 40) 31 = true := by decide +kernel
  exact Bool.false_ne_true (hmodel.symm.trans (hlock.trans hclaim))

end Sys2Proof.Machine
end

section
/-!
SUPPORT. The loss of XO_IN (R104, R114, R115, R118): what the table command engine answers when it loses its clock.
-/
namespace Sys2Proof.Machine

/-- A table command that waits for a bank is answered with an error once the loss of XO_IN has stopped the table command engine, and
waits no longer; stopping the blocks leaves it waiting (R104, R118). -/
theorem tblWaits_after_xoLost :
    (tblResume (xoLost tableWaiting)).ctl.tblWaits = [] ∧
    (xoLost tableWaiting).ctl.tblWaits = [⟨0, false, [tblWord 1 0 0], 16, none⟩] := by decide +kernel

/-- Refutes O29: XO_LOST does more than stop the blocks. Block 20 loses its clock and its wrapper closes, and so the table command that
waited for a bank is answered with an error and waits no longer (R104, R118). -/
theorem not_hotplateTickAndClocks : ¬ Obligations.HotplateTickAndClocks := by
  unfold Obligations.HotplateTickAndClocks
  rintro ⟨_, _, _, hlost, _⟩
  have h : levelRefresh (tblResume (xoLost tableWaiting)) = levelRefresh (xoLost tableWaiting) :=
    Host.Outcome.next.inj (hlost tableWaiting)
  have hctl := congrArg State.ctl h
  rw [levelRefresh_ctl, levelRefresh_ctl] at hctl
  obtain ⟨hmodel, hclaim⟩ := tblWaits_after_xoLost
  rw [hctl, hclaim] at hmodel
  exact List.cons_ne_nil _ _ hmodel

end Sys2Proof.Machine
end

section
/-!
SUPPORT. The state after reset (R94, R101, R358): its registers, and what a power-on reset carries over.
-/
namespace Sys2Proof.Machine

/-- A command whose effect is known answers with it. -/
theorem commit_eq {t u : State} (h : t = u) : commit t = .next (levelRefresh u) := congrArg commit h

/-- A sparse map finds nothing at a key that no entry has. -/
theorem mfind_eq_none {α : Type} {m : List (Nat × α)} {k : Nat} (h : ∀ x ∈ m, x.1 ≠ k) : mfind m k = none := by
  induction m with
  | nil => rfl
  | cons p t ih =>
    rw [mfind, if_neg (h p List.mem_cons_self)]
    exact ih (fun x hx => h x (List.mem_cons_of_mem p hx))

/-- After reset every register but LBM_RES stores its reset value (R101, R358). -/
theorem reg_reset {r : Reg} (h : ∀ x ∈ lbmReset, r.key ≠ Reg.key ⟨.LBM_RES, x.1, x.2.1⟩) : State.reset.reg r = r.f.row.rst := by
  have hnone : mfind State.reset.regs r.key = none := mfind_eq_none (fun y hy => by
    obtain ⟨x, hx, rfl⟩ := List.mem_map.mp hy
    exact (h x hx).symm)
  rw [State.reg, mget, hnone, Option.getD_none]

/-- After reset LBM_RES stores the reserved counts of R358. -/
theorem rn_lbmReset : ∀ x ∈ lbmReset, State.reset.rn .LBM_RES x.1 x.2.1 = x.2.2 := by decide +kernel

/-- Settles O6: the fields of the state after reset, and its register map, which lists LBM_RES alone. -/
theorem resetState : Obligations.ResetState := by
  unfold Obligations.ResetState
  exact ⟨rfl, rfl, rfl, rfl, rfl, rfl, fun r h => reg_reset h, rn_lbmReset⟩

/-- An Idle level source whose condition does not hold stays as it is (R382). -/
theorem levelStep_quiet {s : State} {n : Nat} (hi : (s.src n).st = .idle) (hc : levelCond s n = false) : levelStep s n = s := by
  simp only [levelStep, hi, hc]
  split <;> rfl

/-- Where every level source is Idle and no condition holds, the end of a command changes nothing (R381). -/
theorem levelRefresh_quiet {s : State} (h : ∀ n ∈ levelSources, (s.src n).st = .idle ∧ levelCond s n = false) : levelRefresh s = s := by
  unfold levelRefresh
  generalize levelSources = l at h
  induction l with
  | nil => rfl
  | cons n t ih =>
    obtain ⟨hi, hc⟩ := h n List.mem_cons_self
    rw [List.foldl_cons, levelStep_quiet hi hc]
    exact ih (fun k hk => h k (List.mem_cons_of_mem n hk))

/-- After reset every level source is Idle and no condition holds. -/
theorem levels_quiet_reset : ∀ n ∈ levelSources, (State.reset.src n).st = .idle ∧ levelCond State.reset n = false := by decide +kernel

/-- The condition of a level source rests on the twin, the temperature, the servo, the line channels and two registers (R468). -/
theorem levelCond_congr {s t : State} (n : Nat) (htwin : t.twin = s.twin) (htemp : t.temp = s.temp) (htime : t.time = s.time)
    (hchans : t.chans = s.chans) (hsrc : t.rw .TK_SERVO_SRC = s.rw .TK_SERVO_SRC) (hlim : t.rw .DEV_TEMP_LIMIT = s.rw .DEV_TEMP_LIMIT) :
    levelCond t n = levelCond s n := by
  unfold State.rw at hsrc hlim
  unfold levelCond State.rf State.chan
  rw [htwin, htemp, htime, hchans, hsrc, hlim]

/-- A power-on reset leaves every register but the guard epoch as after reset (R101). -/
theorem powerOnReset_reg (s : State) {r : Reg} (h : r.key ≠ Reg.key ⟨.CTL_GUARD_EPOCH, 0, 0⟩) :
    (powerOnReset s).reg r = State.reset.reg r := reg_setReg_ne _ _ h

/-- A power-on reset leaves every level source Idle, with no condition that holds. -/
theorem levelRefresh_powerOnReset (s : State) : levelRefresh (powerOnReset s) = powerOnReset s := by
  refine levelRefresh_quiet (fun n hn => ?_)
  obtain ⟨hi, hc⟩ := levels_quiet_reset n hn
  have hcond : levelCond (powerOnReset s) n = levelCond State.reset n :=
    levelCond_congr n rfl rfl rfl rfl (powerOnReset_reg s (by decide)) (powerOnReset_reg s (by decide))
  exact ⟨hi, hcond.trans hc⟩

/-- Settles O11: the power-on reset builds the state after reset, and the end of the command adds nothing to it. -/
theorem powerOnResetState : Obligations.PowerOnResetState := by
  unfold Obligations.PowerOnResetState
  intro s
  have hexec : exec .powerOnReset s = .next (powerOnReset s) := congrArg Host.Outcome.next (levelRefresh_powerOnReset s)
  exact ⟨powerOnReset s, hexec, rfl, fun r hr => powerOnReset_reg s hr⟩

end Sys2Proof.Machine
end

section
/-!
SUPPORT. Waking domains (R119, R121, R122): what a wake leaves unchanged, and the request that it queues for a sleeping domain.
-/
namespace Sys2Proof.Machine

/-- `t` is `s` but for what its domains hold and the queue of the wake scheduler. -/
def Wakes (s t : State) : Prop := t = { s with hot := { s.hot with doms := t.hot.doms, queue := t.hot.queue } }

theorem Wakes.refl (s : State) : Wakes s s := rfl

theorem Wakes.trans {s t u : State} (h : Wakes s t) (g : Wakes t u) : Wakes s u := by
  unfold Wakes at *
  rw [h] at g
  exact g

theorem Wakes.foldl {β : Type} {g : State → β → State} (hg : ∀ s b, Wakes s (g s b)) (l : List β) (s : State) :
    Wakes s (l.foldl g s) := by
  induction l generalizing s with
  | nil => exact .refl s
  | cons b t ih => exact (hg s b).trans (ih _)

theorem wakeAt_wakes (s : State) (c d t : Nat) : Wakes s (wakeAt s c d t) := by
  simp only [wakeAt]
  split
  · exact .refl s
  · split <;> rfl

theorem wake_wakes (s : State) (c d : Nat) : Wakes s (wake s c d) := by
  simp only [wake]
  split
  · refine (wakeAt_wakes s c d 0).trans (Wakes.foldl (fun s b => ?_) _ _)
    split
    · exact .refl s
    · exact wakeAt_wakes s c b 0
  · exact wakeAt_wakes s c d 0

theorem wakes_foldl_wake (s : State) (c : Nat) (l : List Nat) : Wakes s (l.foldl (fun s d => wake s c d) s) :=
  Wakes.foldl (fun s d => wake_wakes s c d) l s

/-- Which domains have a resource behind them rests on the fuses and the running image. -/
theorem domPresent_congr {s t : State} (hb : t.boot.fuses = s.boot.fuses) (hr : t.roast = s.roast) (d : Nat) :
    domPresent t d = domPresent s d := by
  unfold domPresent portPresent lanePresent laneFused laneMode laneRec bankAssigned isSmall
  rw [hb, hr]

theorem Wakes.domPresent {s t : State} (h : Wakes s t) (d : Nat) : domPresent t d = domPresent s d :=
  domPresent_congr (by rw [h]) (by rw [h]) d

theorem dom_setDom (s : State) (k j : Nat) (x : Dom) : (s.setDom k x).dom j = if j = k then x else s.dom j := by
  simp [State.dom, State.setDom, mget_mput]

/-- An insertion in the scheduler's order brings the one request. -/
theorem mem_wakeIns {q x : WakeReq} {l : List WakeReq} : x ∈ wakeIns q l ↔ x = q ∨ x ∈ l := by
  induction l with
  | nil => exact List.mem_cons
  | cons a t ih =>
    rw [wakeIns]
    split
    · exact List.mem_cons
    · rw [List.mem_cons, ih, List.mem_cons, or_left_comm]

section
variable {s : State} {c d e t : Nat}

/-- A request for a wake leaves the state of every domain as it was: the tick starts the transition (R122). -/
theorem wakeAt_dom_st (s : State) (c d t e : Nat) : ((wakeAt s c d t).dom e).st = (s.dom e).st := by
  have hset (u : State) (x : Dom) (hx : x.st = (u.dom d).st) : ((u.setDom d x).dom e).st = (u.dom e).st := by
    rw [dom_setDom]
    split
    · rename_i he; rw [he, hx]
    · rfl
  simp only [wakeAt]
  split
  · rfl
  · split
    · exact hset s _ rfl
    · exact hset s _ rfl
    · refine (hset (s.setDom d { s.dom d with cmd := false }) _ ?_).trans (hset s _ rfl)
      rw [dom_setDom, if_pos rfl]
    · exact hset s _ rfl
    · exact hset s _ rfl

/-- A request for domain `d` waits in the wake scheduler. -/
def Queued (s : State) (d : Nat) : Prop := ∃ q ∈ s.hot.queue, q.dom = d

/-- A wake keeps the requests for other domains. -/
theorem Queued.wakeAt_of_ne (h : Queued s e) (hne : e ≠ d) : Queued (wakeAt s c d t) e := by
  obtain ⟨q, hq, rfl⟩ := h
  have hne' : (q.dom == d) = false := beq_eq_false_iff_ne.mpr hne
  have hstays : q ∈ s.hot.queue.filter (fun r => !(r.dom == d && r.cls == 5)) := List.mem_filter.mpr ⟨hq, by rw [hne']; rfl⟩
  refine ⟨q, ?_, rfl⟩
  simp only [wakeAt]
  split
  · exact hq
  · split
    · exact hstays
    · exact hstays
    · exact hq
    · exact mem_wakeIns.mpr (.inr (List.mem_filter.mpr ⟨hstays, bne_iff_ne.mpr hne⟩))
    · exact mem_wakeIns.mpr (.inr (List.mem_filter.mpr ⟨hstays, bne_iff_ne.mpr hne⟩))

/-- A wake of a sleeping domain queues it (R121, R122). -/
theorem queued_wakeAt (hp : domPresent s d = true) (ho : (s.dom d).st = .off) : Queued (wakeAt s c d t) d := by
  simp only [wakeAt, hp, ho, Bool.not_true, Bool.false_eq_true, if_false]
  exact ⟨_, mem_wakeIns.mpr (.inl rfl), rfl⟩

/-- A wake of a domain that is no pipeline wakes that domain alone (R473). -/
theorem wake_of_not_pipe (h : isPipe d = false) : wake s c d = wakeAt s c d 0 := by
  simp only [wake, h, Bool.false_and, Bool.false_eq_true, if_false]

/-- After wakes of a list of domains that are no pipelines, each sleeping one of the list waits in the scheduler. -/
theorem queued_foldl_wake {l : List Nat} (hl : ∀ e ∈ l, isPipe e = false) (hd : d ∈ l ∨ Queued s d)
    (hp : domPresent s d = true) (ho : (s.dom d).st = .off) : Queued (l.foldl (fun s e => wake s c e) s) d := by
  induction l generalizing s with
  | nil => exact hd.resolve_left List.not_mem_nil
  | cons a l ih =>
    have ha : wake s c a = wakeAt s c a 0 := wake_of_not_pipe (hl a List.mem_cons_self)
    rw [List.foldl_cons, ha]
    refine ih (fun e he => hl e (List.mem_cons_of_mem a he)) ?_ ?_ ?_
    · by_cases hda : d = a
      · exact .inr (hda ▸ queued_wakeAt (hda ▸ hp) (hda ▸ ho))
      · exact (hd.imp (fun h => (List.mem_cons.mp h).resolve_left hda) (fun h => h.wakeAt_of_ne hda))
    · rw [(wakeAt_wakes s c a 0).domPresent, hp]
    · rw [wakeAt_dom_st, ho]

end

end Sys2Proof.Machine
end

section
/-!
SUPPORT. Rails, fuses and clocks at startup (R86, R94 to R100): what cutting the outputs, waking domains and a change of HOT_CLK_GOOD
leave unchanged.
-/
namespace Sys2Proof.Machine

/-! ## What leaves the device -/

/-- `t` is `s` but for what has left the device. -/
def Emits (s t : State) : Prop := t = { s with out := t.out }

theorem Emits.refl (s : State) : Emits s s := rfl

theorem Emits.emit (s : State) (o : Out) : Emits s (s.emit o) := rfl

theorem Emits.trans {s t u : State} (h : Emits s t) (g : Emits t u) : Emits s u := by
  unfold Emits at *
  rw [h] at g
  exact g

theorem Emits.foldl {β : Type} {g : State → β → State} (hg : ∀ s b, Emits s (g s b)) (l : List β) (s : State) :
    Emits s (l.foldl g s) := by
  induction l generalizing s with
  | nil => exact .refl s
  | cons b t ih => exact (hg s b).trans (ih _)

theorem timePin_emits (s : State) (pin : Nat) (high : Bool) (t : Int) : Emits s (timePin s pin high t) := by
  simp only [timePin]
  split
  · exact (Emits.emit s _).trans (Emits.foldl (fun s p => .emit s _) _ _)
  · exact .refl s

/-- Cutting the time outputs changes what has left the device and the record of their levels (R86). -/
theorem outputsCut_frame (s : State) :
    outputsCut s = { s with out := (outputsCut s).out, time := { s.time with pps := [], irigBusy := false } } := by
  have hpps : Emits s ([0, 1].foldl (fun s n => if mget false s.time.pps n then timePin s (49 + n) false (now16 s) else s) s) := by
    refine Emits.foldl (fun s n => ?_) _ s
    split
    · exact timePin_emits s _ _ _
    · exact .refl s
  unfold outputsCut
  generalize [0, 1].foldl (fun s n => if mget false s.time.pps n then timePin s (49 + n) false (now16 s) else s) s = u at hpps
  have hirig : Emits s (if u.time.irigBusy then timePin u 51 false (now16 u) else u) := by
    split
    · exact hpps.trans (timePin_emits u _ _ _)
    · exact hpps
  simp only
  generalize (if u.time.irigBusy then timePin u 51 false (now16 u) else u) = v at hirig
  rw [hirig]

/-- Taking every output to its reset state drops lanes, MACs, links, channels, schedulers, domains, wakes and the role, and otherwise
changes only what has left the device and the record of the time outputs' levels (R86; log entry 25). -/
theorem outputsReset_frame (s : State) : outputsReset s = { s with
    out := (outputsReset s).out, time := { s.time with pps := [], irigBusy := false }
    lanes := [], macs := [], chans := [], links := [], twin := {}, schs := []
    hot := { s.hot with doms := [], queue := [], leads := [], txAsleep := [], txWaking := [], late := [], doze := [] } } := by
  obtain ⟨u, hu⟩ : ∃ u, ((outputsCut s).chans.filter (fun c => c.2.on)).foldl (fun s c => s.emit (.lineOff c.1)) (outputsCut s) = u :=
    ⟨_, rfl⟩
  have hoff : Emits (outputsCut s) u := hu ▸ Emits.foldl (fun s c => .emit s _) _ _
  have hdrop : outputsReset s = { u with
      lanes := [], macs := [], chans := [], links := [], twin := {}, schs := []
      hot := { u.hot with doms := [], queue := [], leads := [], txAsleep := [], txWaking := [], late := [], doze := [] } } := by
    rw [← hu]; rfl
  rw [hdrop, hoff, outputsCut_frame s]

/-- A loss of a supervised rail after Rails (R86). -/
theorem railLoss_running {s : State} {rail : Nat} (hr : rail ≤ 4) (h : s.boot.st ∈ [BootSt.clocks, .load, .apply, .running, .bootFailed]) :
    railLoss s rail = outputsReset ({ s with boot := { s.boot with st := .railFault } }.setFlags .RST_RAIL_FAULT 0 0 (1 <<< rail)) := by
  unfold railLoss
  rw [if_neg (Nat.not_lt.mpr hr)]
  simp only [List.mem_cons, List.not_mem_nil, or_false] at h
  rcases h with h | h | h | h | h <;> rw [h]

/-- The same, part by part: the rail's bit is set, and every output takes its reset state (R86; log entry 25). -/
theorem railLoss_running_frame {s : State} {rail : Nat} (hr : rail ≤ 4)
    (h : s.boot.st ∈ [BootSt.clocks, .load, .apply, .running, .bootFailed]) : railLoss s rail = { s with
      boot := { s.boot with st := .railFault }
      regs := (s.wr .RST_RAIL_FAULT 0 0 (sqSet (s.rw .RST_RAIL_FAULT) (1 <<< rail))).regs
      evt := (railLoss s rail).evt, out := (railLoss s rail).out, time := { s.time with pps := [], irigBusy := false }
      lanes := [], macs := [], chans := [], links := [], twin := {}, schs := []
      hot := { s.hot with doms := [], queue := [], leads := [], txAsleep := [], txWaking := [], late := [], doze := [] } } := by
  have hbit : 1 <<< rail ≠ 0 := by rw [Nat.one_shiftLeft]; exact (Nat.two_pow_pos rail).ne'
  have hset := setFlags_frame { s with boot := { s.boot with st := .railFault } } .RST_RAIL_FAULT 0 0 hbit
  rw [railLoss_running hr h]
  generalize { s with boot := { s.boot with st := .railFault } }.setFlags .RST_RAIL_FAULT 0 0 (1 <<< rail) = u at hset
  have hreset := outputsReset_frame u
  generalize outputsReset u = v at hreset
  rw [hreset, hset]
  rfl

/-- A loss of a supervised rail in Rail-fault sets its bit alone (R86). -/
theorem railLoss_again {s : State} {rail : Nat} (hr : rail ≤ 4) (h : s.boot.st = .railFault) :
    railLoss s rail = s.setFlags .RST_RAIL_FAULT 0 0 (1 <<< rail) := by
  unfold railLoss
  rw [if_neg (Nat.not_lt.mpr hr), h]

/-- A loss of a rail before Clocks changes nothing (R86). -/
theorem railLoss_early {s : State} (rail : Nat) (h : s.boot.st ∈ [BootSt.reset, .fuse, .rails]) : railLoss s rail = s := by
  unfold railLoss
  split
  · rfl
  · simp only [List.mem_cons, List.not_mem_nil, or_false] at h
    rcases h with h | h | h <;> rw [h]

/-! ## Clocks -/

/-- A change of HOT_CLK_GOOD stores its bits and reports their edges. -/
theorem setClk_reports (s : State) (v : Nat) : Reports { s with hot := { s.hot with clk := v % 32 } } (setClk s v) :=
  Reports.foldl _ (fun s i => raiseEdge_reports s (8 + i)) _ _

/-- The state when the PLLs have locked: the fault registers not tried, both PLLs shown good, the time PLL running (R94, R114). -/
def clocksOn (s : State) : State :=
  let u := notTried (setClk s (s.hot.clk ||| 0x18))
  { u with time := { u.time with pllLost := false, begun := true } }

theorem clocksOn_boot (s : State) : (clocksOn s).boot = s.boot := (setClk_reports s (s.hot.clk ||| 0x18)).boot_eq

theorem clocksOn_roast (s : State) : (clocksOn s).roast = s.roast := (setClk_reports s (s.hot.clk ||| 0x18)).roast_eq

theorem clocksOn_hot (s : State) : (clocksOn s).hot = { s.hot with clk := (s.hot.clk ||| 0x18) % 32 } :=
  (setClk_reports s (s.hot.clk ||| 0x18)).hot_eq

/-- Both fault registers read NOT_TRIED. -/
theorem notTried_faults (s : State) :
    (notTried s).rw .DEV_ROAST_FAULT_A = faultWord 0x0D 0 ∧ (notTried s).rw .DEV_ROAST_FAULT_B = faultWord 0x0D 0 :=
  ⟨(rw_wr_ne _ _ (by decide)).trans (rw_wr_same s _ _ _ _), rw_wr_same _ _ _ _ _⟩

theorem clocksOn_faults (s : State) :
    (clocksOn s).rw .DEV_ROAST_FAULT_A = faultWord 0x0D 0 ∧ (clocksOn s).rw .DEV_ROAST_FAULT_B = faultWord 0x0D 0 :=
  notTried_faults (setClk s (s.hot.clk ||| 0x18))

/-- The domains that a boot over a link wakes beside the boot domains (R97, R99). -/
def linkDomains (s : State) : List Nat :=
  if bootSrc s = 1 then [168, 169, 221, 222] else if bootSrc s = 2 then [160, 161, 162, 163, 224] else []

/-- None of the domains that the boot wakes is a pipeline. -/
theorem isPipe_bootDomains (s : State) : ∀ d ∈ bootDomains ++ linkDomains s, isPipe d = false := by
  have hlists : (∀ d ∈ bootDomains, isPipe d = false) ∧ (∀ d ∈ [168, 169, 221, 222], isPipe d = false) ∧
      ∀ d ∈ [160, 161, 162, 163, 224], isPipe d = false := by decide
  obtain ⟨hboot, hhost, hstitch⟩ := hlists
  intro d hd
  rcases List.mem_append.mp hd with hd | hd
  · exact hboot d hd
  · unfold linkDomains at hd
    split at hd
    · exact hhost d hd
    · split at hd
      · exact hstitch d hd
      · exact absurd hd List.not_mem_nil

/-- The PLLs lock in Clocks (R94, R95): the image load begins, or the device enters Boot-failed. -/
theorem bootClocksLocked_clocks {s : State} (hst : s.boot.st = .clocks) :
    bootClocksLocked s =
      if s.boot.fuseFail then bootFailed (clocksOn s)
      else
        let u := bootDomains.foldl (fun s d => wake s 4 d) { clocksOn s with boot := { s.boot with st := .load } }
        if bootSrc u = 1 then wakeHostLanes u
        else if bootSrc u = 2 then [160, 161, 162, 163, 224].foldl (fun s d => wake s 4 d) u else u := by
  rw [← clocksOn_boot s]
  exact if_neg (not_not.mpr hst)

/-- After a good fuse check the boot's domains are woken (R91, R94, R97, R99). -/
theorem bootClocksLocked_load {s : State} (hst : s.boot.st = .clocks) (hf : s.boot.fuseFail = false) :
    bootClocksLocked s = (bootDomains ++ linkDomains (clocksOn s)).foldl (fun s d => wake s 4 d)
      { clocksOn s with boot := { s.boot with st := .load } } := by
  have hw := wakes_foldl_wake { clocksOn s with boot := { s.boot with st := .load } } 4 bootDomains
  rw [bootClocksLocked_clocks hst, hf, List.foldl_append]
  generalize bootDomains.foldl (fun s d => wake s 4 d) { clocksOn s with boot := { s.boot with st := .load } } = u at hw
  have hsrc : bootSrc u = bootSrc (clocksOn s) := by rw [hw]; rfl
  simp only [Bool.false_eq_true, if_false, hsrc, linkDomains]
  split
  · rfl
  · split <;> rfl

/-- The same, part by part: beside the clocks and the sequencer only domains and the queue of wakes change. -/
theorem bootClocksLocked_load_frame {s : State} (hst : s.boot.st = .clocks) (hf : s.boot.fuseFail = false) :
    bootClocksLocked s = { clocksOn s with
      boot := { s.boot with st := .load }
      hot := { s.hot with
        clk := (s.hot.clk ||| 0x18) % 32, doms := (bootClocksLocked s).hot.doms, queue := (bootClocksLocked s).hot.queue } } := by
  have hw := wakes_foldl_wake { clocksOn s with boot := { s.boot with st := .load } } 4 (bootDomains ++ linkDomains (clocksOn s))
  rw [← bootClocksLocked_load hst hf] at hw
  have hhot := clocksOn_hot s
  generalize bootClocksLocked s = u at hw
  rw [hw, hhot]

/-- Each boot domain that sleeps is queued (R91, R94). -/
theorem queued_bootClocksLocked {s : State} (hst : s.boot.st = .clocks) (hf : s.boot.fuseFail = false) {d : Nat} (hd : d ∈ bootDomains)
    (hp : domPresent s d = true) (ho : (s.dom d).st = .off) : Queued (bootClocksLocked s) d := by
  rw [bootClocksLocked_load hst hf]
  have hpresent : domPresent { clocksOn s with boot := { s.boot with st := .load } } d = domPresent s d := by
    apply domPresent_congr
    · rfl
    · exact clocksOn_roast s
  refine queued_foldl_wake (isPipe_bootDomains _) (.inl (List.mem_append_left _ hd)) (hpresent.trans hp) ?_
  rw [State.dom, clocksOn_hot]
  exact ho

/-- Entry into Boot-failed cuts the stitch lanes and links and wakes the host lanes, and changes nothing else (R100). -/
theorem bootFailed_frame (s : State) : bootFailed s = { s with
    boot := { s.boot with st := .bootFailed, rx := [], rxFrom := none }
    lanes := s.lanes.filter (fun x => decide (40 ≤ x.1)), links := []
    hot := { s.hot with doms := (bootFailed s).hot.doms, queue := (bootFailed s).hot.queue } } :=
  wakes_foldl_wake (stitchCut { s with boot := { s.boot with st := .bootFailed, rx := [], rxFrom := none } }) 4 [168, 169, 221, 222]

/-- In Boot-failed no stitch lane is left (R100). -/
theorem lane_bootFailed (s : State) {l : Nat} (h : l < 40) : (bootFailed s).lane l = {} := by
  have hnone : mfind (s.lanes.filter (fun x => decide (40 ≤ x.1))) l = none := mfind_eq_none (fun x hx hl => by
    have hge : 40 ≤ x.1 := of_decide_eq_true (List.mem_filter.mp hx).2
    omega)
  rw [bootFailed_frame, State.lane, mget, hnone, Option.getD_none]

/-! ## The commands -/

/-- Settles O13: FUSE_LOAD_DONE, RAILS_GOOD, RAIL_LOSS, BOOT_CLOCKS_LOCKED and CLOCK_LOCK_TIMEOUT by the state of the boot sequencer. -/
theorem railsFusesAndClocks : Obligations.RailsFusesAndClocks := by
  unfold Obligations.RailsFusesAndClocks
  refine ⟨⟨fun s f pass h => ?_, fun s x h => ?_, fun s rail hr h => ?_, fun s rail hr h => ?_, fun s rail h => ?_⟩,
    fun s hst hf => ?_, fun s hst hf => ?_, fun s hst => ?_⟩
  · exact commit_eq (if_pos h)
  · exact commit_eq (if_pos h)
  · refine ⟨_, rfl, ?_⟩
    rw [State.rw, levelRefresh_reg _ (by decide)]
    simp only [levelRefresh_boot, levelRefresh_lanes, levelRefresh_macs, levelRefresh_links, levelRefresh_chans, levelRefresh_schs,
      levelRefresh_twin, levelRefresh_tbl, levelRefresh_ctl, levelRefresh_shadows, levelRefresh_hot]
    rw [railLoss_running_frame hr h]
    exact ⟨rfl, rw_wr_same s _ _ _ _, rfl, rfl, rfl, rfl, rfl, rfl, rfl, rfl, rfl, rfl⟩
  · exact commit_eq (railLoss_again hr h)
  · exact commit_eq (railLoss_early rail h)
  · refine ⟨_, rfl, ?_⟩
    rw [State.rw, State.rw, levelRefresh_reg _ (by decide), levelRefresh_reg _ (by decide), levelRefresh_boot, levelRefresh_hot,
      levelRefresh_time]
    refine ⟨?_, ?_, ?_, ?_, ?_, fun d hd hp ho => queued_bootClocksLocked hst hf hd hp ho⟩
    all_goals rw [bootClocksLocked_load_frame hst hf]
    · exact (clocksOn_faults s).1
    · exact (clocksOn_faults s).2
    · rfl
  · have hfail : bootClocksLocked s = bootFailed (clocksOn s) := (bootClocksLocked_clocks hst).trans (if_pos hf)
    refine ⟨_, rfl, ?_⟩
    rw [levelRefresh_boot, levelRefresh_links, hfail, bootFailed_frame, clocksOn_boot]
    exact ⟨rfl, rfl⟩
  · have htimeout : clockLockTimeout s = bootFailed (notTried s) := if_pos hst
    refine ⟨_, rfl, ?_⟩
    rw [State.rw, State.rw, levelRefresh_reg _ (by decide), levelRefresh_reg _ (by decide)]
    simp only [levelRefresh_boot, levelRefresh_links, levelRefresh_out, levelRefresh_tbl, levelRefresh_roast, State.lane,
      levelRefresh_lanes]
    rw [htimeout]
    refine ⟨?_, ?_, ?_, ?_, fun l _ hl => lane_bootFailed _ hl, ?_⟩
    all_goals rw [bootFailed_frame]
    · rfl
    · exact (notTried_faults s).1
    · exact (notTried_faults s).2
    · exact ⟨rfl, rfl, rfl⟩

end Sys2Proof.Machine
end

section
/-!
SUPPORT. Boot frames (R97, R98): the bytes of a frame that the device builds, and the first BOOT_BLOCK of an image.
-/
namespace Sys2Proof.Machine

/-! ## Bytes -/

theorem length_beBytes (n v : Nat) : (beBytes n v).length = n := by
  induction n with
  | zero => rfl
  | succ n ih => rw [beBytes, List.length_cons, ih]

theorem length_slice (bs : Bytes) (o n : Nat) : (slice bs o n).length = n := by
  rw [slice, List.length_append, List.length_replicate]
  have := List.length_take_le n (bs.drop o)
  omega

/-- The bytes that stand behind others of known length. -/
theorem slice_append (p a r : Bytes) : slice (p ++ (a ++ r)) p.length a.length = a := by
  rw [slice, List.drop_left, List.take_left, Nat.sub_self]
  exact List.append_nil a

/-- A number of `n` bytes behind `o` other bytes. -/
theorem beAt_beBytes {p r : Bytes} {o : Nat} (n v : Nat) (h : p.length = o) : beAt (p ++ (beBytes n v ++ r)) o n = be (beBytes n v) := by
  have hslice := slice_append p (beBytes n v) r
  rw [h, length_beBytes] at hslice
  rw [beAt, hslice]

/-! ## The device's boot frames -/

/-- A boot frame begins with its two addresses and its EtherType (R97). -/
theorem bootFrame_head (da sa : Nat) (payload : Bytes) :
    ∃ r, bootFrame da sa payload = beBytes 6 da ++ (beBytes 6 sa ++ (beBytes 2 0x88B5 ++ r)) :=
  ⟨_, rfl⟩

theorem bootFrame_da (da sa : Nat) (payload : Bytes) : beAt (bootFrame da sa payload) 0 6 = be (beBytes 6 da) := by
  obtain ⟨r, hr⟩ := bootFrame_head da sa payload
  rw [hr]
  exact beAt_beBytes (p := []) 6 da rfl

theorem bootFrame_etype (da sa : Nat) (payload : Bytes) : beAt (bootFrame da sa payload) 12 2 = 0x88B5 := by
  obtain ⟨r, hr⟩ := bootFrame_head da sa payload
  rw [hr, ← List.append_assoc]
  exact beAt_beBytes 2 0x88B5 (by rw [List.length_append, length_beBytes, length_beBytes])

/-- Zeros at the end of a short payload are the padding that the frame has anyway (R97). -/
theorem bootFrame_zeros (da sa : Nat) {payload : Bytes} {k : Nat} (h : payload.length + k ≤ 46) :
    bootFrame da sa (payload ++ List.replicate k 0) = bootFrame da sa payload := by
  have hpad : List.replicate k (0 : BitVec 8) ++ List.replicate (60 - (14 + (payload.length + k))) 0 =
      List.replicate (60 - (14 + payload.length)) 0 := by
    rw [List.replicate_append_replicate]
    congr 1
    omega
  have hlen (q : Bytes) : (beBytes 6 da ++ beBytes 6 sa ++ beBytes 2 0x88B5 ++ q).length = 14 + q.length := by
    simp only [List.length_append, length_beBytes]
  unfold bootFrame
  simp only [hlen, List.length_append, List.length_replicate]
  rw [← List.append_assoc _ payload, List.append_assoc _ (List.replicate k 0), hpad]

theorem length_wsBytes (ws : List Word) : (wsBytes ws).length = 4 * ws.length := by
  induction ws with
  | nil => rfl
  | cons w t ih =>
    rw [wsBytes, List.flatMap_cons, List.length_append, wBytes, length_beBytes, ← wsBytes, ih, List.length_cons]
    omega

/-- The frame of a BOOT_ACK with status 0 and code 0, whose last word is part of the padding (R98). -/
theorem bootFrame_ack (da sa : Nat) (a b : Word) :
    bootFrame da sa (wsBytes [a, b, put 0 8 0, put 24 8 0]) = bootFrame da sa (wsBytes [a, b, 0]) := by
  have hzeros : wsBytes [a, b, put 0 8 0, put 24 8 0] = wsBytes [a, b, 0] ++ List.replicate 4 0 := by
    simp only [wsBytes, List.flatMap_cons, List.flatMap_nil, List.append_nil, List.append_assoc]
    rfl
  have hshort : (wsBytes [a, b, 0]).length + 4 ≤ 46 := by simp [length_wsBytes]
  rw [hzeros, bootFrame_zeros da sa hshort]

/-! ## The commands -/

/-- Staging an image changes the Carafe alone (R78). -/
theorem stage_frame (n : Nat) : ∀ (s : State) (off : Nat) (d : Bytes), stage n s off d = { s with car := (stage n s off d).car } := by
  induction n with
  | zero => exact fun s off d => rfl
  | succ n ih =>
    intro s off d
    rw [stage]
    split
    · rfl
    · exact ih (writeCell s _ _ _) _ _

/-- The first block of an image, of 4 to 60 bytes, is taken and acknowledged, where no other sender's image is in progress (R98). -/
theorem bootData_first {s : State} {lane sa : Nat} {d : Bytes} (seq : Nat) (h4 : 4 ≤ d.length) (h60 : d.length ≤ 60)
    (hmod : d.length % 4 = 0) (hfrom : s.boot.rxFrom = none ∨ s.boot.rxFrom = some (lane, sa)) :
    bootData s lane sa seq 0 d =
      let u := stage d.length s 0 d
      bootAck { u with boot := { u.boot with rx := d, rxFrom := some (lane, sa) } } lane sa seq d.length 0 0 := by
  have hmine : bootData s lane sa seq 0 d = bootData.accept lane sa seq 0 d s (lane, sa) := by
    rcases hfrom with h | h
    · simp only [bootData, h]
    · simp only [bootData, h, if_true]
  have hlen : ¬ (d.length < 4 ∨ d.length > 8192 ∨ d.length % 4 ≠ 0) := by omega
  have hshort : d.length < 64 := by omega
  rw [hmine]
  simp [bootData.accept, hlen, hshort]

/-- A good BOOT_BLOCK to the device's boot address is taken by its fields (R98). -/
theorem bootBlock_good {s : State} {lane : Nat} {f : Bytes} (hlink : bootLink s = true) (hfuse : s.boot.fuseFail = false) (hlane : lane ≤ 1)
    (hfcs : fcsGood f = true) (htype : beAt f 12 2 = 0x88B5) (hop : beAt f 14 1 = 0x14) (hda : beAt f 0 6 = bootAddr s)
    (hlen : f.length ≥ 34 + beAt f 22 2) :
    bootBlock s lane f = bootData s lane (beAt f 6 6) (beAt f 16 2) (beAt f 18 4) (slice f 30 (beAt f 22 2)) := by
  have hlane' : ¬ lane > 1 := by omega
  have hlen' : ¬ f.length < 34 + beAt f 22 2 := by omega
  simp [bootBlock, hlink, hfuse, hlane', hfcs, htype, hop, hda, hlen']

/-- The words of a BOOT_OFFER (R95, R97). -/
def offerWords (s : State) : List Word :=
  [put 28 4 1 ||| put 24 4 6 ||| put 0 16 s.boot.offers, wd s.boot.rx.length, 0, devIdent s, s.rw .RST_STRAPS,
    s.rw .DEV_ROAST_FAULT_A, s.rw .DEV_ROAST_FAULT_B, wd (if s.boot.fuseFail then 2 else if s.boot.st = .load then 4 else 7)]

/-- While boot frames pass, BOOT_OFFER sends its frame on both host lanes and counts the period (R97). -/
theorem bootOffer_sends {s : State} (h : bootLink s = true) :
    let f := bootFrame 0xFFFFFFFFFFFF (bootAddr s) (wsBytes (offerWords s))
    bootOffer s = { s with
      out := s.out ++ [.frame 128 f, .frame 129 f], boot := { s.boot with offers := (s.boot.offers + 1) % 65536 } } := by
  simp only [bootOffer, h, Bool.not_true, Bool.false_eq_true, if_false, State.emit, List.append_assoc]
  rfl

/-- Settles O15: BOOT_OFFER sends one frame twice, and the first BOOT_BLOCK of an image is staged, kept and acknowledged. -/
theorem bootFrames : Obligations.BootFrames := by
  unfold Obligations.BootFrames
  refine ⟨fun s hlink => ?_, fun s lane f hlink hfuse hlane hfcs htype hop hda hlen hoff h4 h60 hmod hfrom => ?_⟩
  · exact ⟨_, _, rfl, bootFrame_da _ _ _, bootFrame_etype _ _ _, congrArg levelRefresh (bootOffer_sends hlink)⟩
  · intro d u
    have hd : d.length = beAt f 22 2 := length_slice f 30 _
    have hu : u = { s with car := u.car } := stage_frame _ s 0 d
    have hack : bootBlock s lane f =
        bootAck { u with boot := { u.boot with rx := d, rxFrom := some (lane, beAt f 6 6) } } lane (beAt f 6 6) (beAt f 16 2) d.length 0 0 := by
      rw [bootBlock_good hlink hfuse hlane hfcs htype hop hda hlen, hoff]
      exact bootData_first _ (h4.trans_eq hd.symm) (hd.trans_le h60) ((congrArg (· % 4) hd).trans hmod) hfrom
    refine commit_eq (hack.trans ?_)
    rw [bootAck, bootFrame_ack, hd, hu]
    rfl

end Sys2Proof.Machine
end

section
/-!
SUPPORT. The sweeps of the redundancy functions (R298): when a visit takes place, and what it does to the entry that it meets.
-/
namespace Sys2Proof.Machine

section
variable {s : State} {r i : Nat} {act : State → List Word → State}

/-- While the stream unit sleeps a sweep wakes it (R473). -/
theorem sweepDue_asleep (wild : Bool) (r i : Nat) (visited : State) (h : domOn s 233 = false) :
    sweepDue s wild r i visited = trigger s 2 233 := by simp [sweepDue, h]

/-- A visit waits for the sleeping bank of its entry (R118). -/
theorem sweepDue_waits (wild : Bool) (visited : State) (h : domOn s 233 = true) (hi : i < regionSize s r)
    (hb : domOn s (tblDom (entryAddr s r i)) = false) : sweepDue s wild r i visited = s := by simp [sweepDue, h, hi, hb]

/-- A visit takes place with the unit and the bank awake and the timing registers in range. -/
theorem sweepDue_visits (visited : State) (h : domOn s 233 = true)
    (hb : regionSize s r ≤ i ∨ domOn s (tblDom (entryAddr s r i)) = true) : sweepDue s false r i visited = visited := by
  have hwaits : ¬ (decide (i < regionSize s r) && !domOn s (tblDom (entryAddr s r i))) = true := by
    rcases hb with hb | hb
    · rw [decide_eq_false (Nat.not_lt.mpr hb), Bool.false_and]; decide
    · rw [hb, Bool.not_true, Bool.and_false]; decide
  simp only [sweepDue, h, hwaits, Bool.not_true, Bool.not_false, Bool.false_eq_true, if_false, if_true]

theorem sweepEntry_beyond (act : State → List Word → State) (h : regionSize s r ≤ i) : sweepEntry s r i act = s := if_pos h

/-- An entry with a parity error is counted (R292, R298). -/
theorem sweepEntry_parity (act : State → List Word → State) (h : i < regionSize s r) (hp : parOk r (entryAt s r i) = false) :
    sweepEntry s r i act = redParity s := by simp [sweepEntry, h, hp]

theorem sweepEntry_invalid (act : State → List Word → State) (hp : parOk r (entryAt s r i) = true)
    (hv : isValid r (entryAt s r i) = false) : sweepEntry s r i act = s := by simp [sweepEntry, hp, hv]

theorem sweepEntry_valid (act : State → List Word → State) (h : i < regionSize s r) (hp : parOk r (entryAt s r i) = true)
    (hv : isValid r (entryAt s r i) = true) : sweepEntry s r i act = act s (entryAt s r i) := by simp [sweepEntry, h, hp, hv]

end

/-! ## The four sweeps with block 19 open -/

section
variable {s : State}

/-- The node reset sweep's place moves on. -/
def nodePosNext (s : State) : State :=
  { s with red := { s.red with nodePos := if regionSize s 12 = 0 then 0 else (s.red.nodePos + 1) % regionSize s 12 } }

/-- The record reset sweep's place moves on. -/
def recPosNext (s : State) : State :=
  { s with red := { s.red with recPos := if regionSize s 9 = 0 then 0 else (s.red.recPos + 1) % regionSize s 9 } }

/-- The node forget sweep's place moves on. -/
def forgetPosNext (s : State) : State :=
  { s with red := { s.red with forgetPos := if regionSize s 12 = 0 then 0 else (s.red.forgetPos + 1) % regionSize s 12 } }

/-- The latent error sweep's place moves on. -/
def latPosNext (s : State) : State :=
  let n := regionSize s 12 + regionSize s 9
  { s with red := { s.red with latPos := if n = 0 then 0 else (s.red.latPos + 1) % n } }

/-- The forget sweep's act on a valid node entry (R293, R298). -/
def forgetVisit (i : Nat) (s : State) (e : List Word) : State :=
  let w := e.getD 0 0
  if tst w 28 || isGuard 12 e || s.roast.guardRegions.testBit 12 then s
  else if fld w 21 2 = 3 then s.setTws (entryAddr s 12 i) (List.replicate 8 0)
  else putEntry s 12 i (setAt e 0 (setFld w 21 2 (fld w 21 2 + 1)))

/-- Static and guard entries are spared (R298). -/
theorem forgetVisit_spared {i : Nat} {e : List Word}
    (h : tst (e.getD 0 0) 28 = true ∨ isGuard 12 e = true ∨ s.roast.guardRegions.testBit 12 = true) : forgetVisit i s e = s := by
  refine if_pos ?_
  rcases h with h | h | h
  · rw [h, Bool.true_or, Bool.true_or]
  · rw [h, Bool.or_true, Bool.true_or]
  · rw [h, Bool.or_true]

/-- Any other entry ages, and one aged three times is zeroed (R293, R298). -/
theorem forgetVisit_ages {i : Nat} {e : List Word} (hs : tst (e.getD 0 0) 28 = false) (hg : isGuard 12 e = false)
    (hr : s.roast.guardRegions.testBit 12 = false) : forgetVisit i s e =
      if fld (e.getD 0 0) 21 2 = 3 then s.setTws (entryAddr s 12 i) (List.replicate 8 0)
      else putEntry s 12 i (setAt e 0 (setFld (e.getD 0 0) 21 2 (fld (e.getD 0 0) 21 2 + 1))) :=
  if_neg (by rw [hs, hg, hr]; decide)

theorem nodeReset_open (h : closed s 19 = false) : nodeReset s = sweepDue s (nodeTimeBad s) 12 s.red.nodePos
    (sweepEntry (nodePosNext s) 12 s.red.nodePos (fun t _ => resetVisit t 12 s.red.nodePos)) := if_neg (by rw [h]; decide)

theorem recordReset_open (h : closed s 19 = false) : recordReset s = sweepDue s (frerTimeBad s) 9 s.red.recPos
    (sweepEntry (recPosNext s) 9 s.red.recPos (fun t e => if fld (e.getD 0 0) 27 2 = 1 then resetVisit t 9 s.red.recPos else t)) :=
  if_neg (by rw [h]; decide)

theorem nodeForget_open (h : closed s 19 = false) : nodeForget s = sweepDue s (nodeTimeBad s) 12 s.red.forgetPos
    (sweepEntry (forgetPosNext s) 12 s.red.forgetPos (forgetVisit s.red.forgetPos)) := if_neg (by rw [h]; decide)

/-- The latent error sweep is off (R299). -/
theorem latentSweep_off (h : tst (s.rw .RED_CFG) 29 = false) : latentSweep s = s := if_pos (by rw [h, Bool.not_false, Bool.or_true])

/-- The latent error sweep visits node entries first. -/
theorem latentSweep_node (hc : closed s 19 = false) (hon : tst (s.rw .RED_CFG) 29 = true) (h : s.red.latPos < regionSize s 12) :
    latentSweep s = sweepDue s (leTimeBad s) 12 s.red.latPos (sweepEntry (latPosNext s) 12 s.red.latPos
      (fun t e => if tst (e.getD 0 0) 27 then t else latentVisit t 12 s.red.latPos)) :=
  (if_neg (by rw [hc, hon]; decide)).trans (if_pos h)

/-- Stream records follow them. -/
theorem latentSweep_record (hc : closed s 19 = false) (hon : tst (s.rw .RED_CFG) 29 = true) (h : regionSize s 12 ≤ s.red.latPos) :
    latentSweep s = sweepDue s (leTimeBad s) 9 (s.red.latPos - regionSize s 12) (sweepEntry (latPosNext s) 9 (s.red.latPos - regionSize s 12)
      (fun t e => if fld (e.getD 1 0) 30 2 = 0 then t else latentVisit t 9 (s.red.latPos - regionSize s 12))) :=
  (if_neg (by rw [hc, hon]; decide)).trans (if_neg (Nat.not_lt.mpr h))

/-- ACT of an entry that has it is cleared (R298). -/
theorem resetVisit_act {r i : Nat} (h : tst ((entryAt s r i).getD 0 0) (if r = 12 then 23 else 25) = true) :
    resetVisit s r i = putEntry s r i (setBit (entryAt s r i) (0, if r = 12 then 23 else 25) false) := if_pos h

/-- An entry with TAKE_ANY alone is left (R298). -/
theorem resetVisit_takeAny {r i : Nat} (ha : tst ((entryAt s r i).getD 0 0) (if r = 12 then 23 else 25) = false)
    (ht : tst ((entryAt s r i).getD 0 0) (if r = 12 then 24 else 26) = true) : resetVisit s r i = s :=
  (if_neg (by rw [ha]; decide)).trans (if_pos ht)

/-- An entry with neither is reset, and the reset counted (R298). -/
theorem resetVisit_resets {r i : Nat} (ha : tst ((entryAt s r i).getD 0 0) (if r = 12 then 23 else 25) = false)
    (ht : tst ((entryAt s r i).getD 0 0) (if r = 12 then 24 else 26) = false) : resetVisit s r i =
      (putEntry s r i (setBit (entryAt s r i) (0, if r = 12 then 24 else 26) true)).bump .RED_RESETS :=
  (if_neg (by rw [ha]; decide)).trans (if_neg (by rw [ht]; decide))

end

/-- Settles O46: each sweep by what keeps its visit from taking place, and then by the entry that it meets. -/
theorem redundancySweeps : Obligations.RedundancySweeps := by
  unfold Obligations.RedundancySweeps
  refine ⟨fun s hc => ?_, fun s hc hasleep => ?_, fun s hc hawake => ?_, fun s r i => rfl⟩
  · exact ⟨commit_eq (if_pos hc), commit_eq (if_pos hc), commit_eq (if_pos hc), commit_eq (if_pos (by rw [hc, Bool.true_or]))⟩
  · refine ⟨commit_eq ((nodeReset_open hc).trans (sweepDue_asleep _ _ _ _ hasleep)),
      commit_eq ((recordReset_open hc).trans (sweepDue_asleep _ _ _ _ hasleep)),
      commit_eq ((nodeForget_open hc).trans (sweepDue_asleep _ _ _ _ hasleep)), commit_eq ?_⟩
    by_cases hon : tst (s.rw .RED_CFG) 29 = true
    · rw [if_pos hon]
      rcases Nat.lt_or_ge s.red.latPos (regionSize s 12) with h | h
      · exact (latentSweep_node hc hon h).trans (sweepDue_asleep _ _ _ _ hasleep)
      · exact (latentSweep_record hc hon h).trans (sweepDue_asleep _ _ _ _ hasleep)
    · rw [if_neg hon, latentSweep_off (Bool.not_eq_true _ ▸ hon)]
  · intro on
    refine ⟨?_, ?_, ?_, ?_⟩
    · intro i n e u
      refine ⟨fun hi hon => commit_eq ((nodeReset_open hc).trans (sweepDue_waits _ _ hawake hi hon)), fun hbad hon => ?_⟩
      have hvisit : nodeReset s = sweepEntry u 12 i (fun t _ => resetVisit t 12 i) :=
        (nodeReset_open hc).trans (by rw [hbad]; exact sweepDue_visits _ hawake hon)
      refine ⟨fun h => ?_, fun hi hp => ?_, fun hi hp hv => ⟨fun ha => ?_, fun ha ht => ?_, fun ha ht => ?_⟩⟩
      · rcases h with h | ⟨hp, hv⟩
        · exact commit_eq (hvisit.trans (sweepEntry_beyond _ h))
        · exact commit_eq (hvisit.trans (sweepEntry_invalid _ hp hv))
      · exact commit_eq (hvisit.trans (sweepEntry_parity _ hi hp))
      · exact commit_eq (hvisit.trans ((sweepEntry_valid (s := u) _ hi hp hv).trans (resetVisit_act (s := u) (r := 12) ha)))
      · exact commit_eq (hvisit.trans ((sweepEntry_valid (s := u) _ hi hp hv).trans (resetVisit_takeAny (s := u) (r := 12) ha ht)))
      · exact commit_eq (hvisit.trans ((sweepEntry_valid (s := u) _ hi hp hv).trans (resetVisit_resets (s := u) (r := 12) ha ht)))
    · intro i n e u
      refine ⟨fun hi hon => commit_eq ((recordReset_open hc).trans (sweepDue_waits _ _ hawake hi hon)), fun hbad hi hon hp hv => ?_⟩
      have hvisit : recordReset s = if fld (e.getD 0 0) 27 2 = 1 then resetVisit u 9 i else u :=
        (recordReset_open hc).trans (by rw [hbad]; exact (sweepDue_visits _ hawake (.inr hon)).trans (sweepEntry_valid _ hi hp hv))
      refine ⟨fun hfn => commit_eq (hvisit.trans (if_neg hfn)), fun hfn => ⟨fun ha => ?_, fun ha ht => ?_⟩⟩
      · exact commit_eq (hvisit.trans ((if_pos hfn).trans (resetVisit_act (s := u) (r := 9) ha)))
      · exact commit_eq (hvisit.trans ((if_pos hfn).trans (resetVisit_resets (s := u) (r := 9) ha ht)))
    · intro i n e w u
      refine ⟨fun hi hon => commit_eq ((nodeForget_open hc).trans (sweepDue_waits _ _ hawake hi hon)), fun hbad hi hon hp hv => ?_⟩
      have hvisit : nodeForget s = forgetVisit i u e :=
        (nodeForget_open hc).trans (by rw [hbad]; exact (sweepDue_visits _ hawake (.inr hon)).trans (sweepEntry_valid _ hi hp hv))
      refine ⟨fun h => commit_eq (hvisit.trans (forgetVisit_spared h)), fun hs hg hr => ⟨fun ha => ?_, fun ha => ?_⟩⟩
      · exact commit_eq (hvisit.trans ((forgetVisit_ages (s := u) hs hg hr).trans (if_pos ha)))
      · exact commit_eq (hvisit.trans ((forgetVisit_ages (s := u) hs hg hr).trans (if_neg ha)))
    · intro i n m u
      refine ⟨fun hoff => commit_eq (latentSweep_off hoff), fun hen hbad => ⟨fun hi hon hp hv => commit_eq ?_, fun hn hi hon hp hv => commit_eq ?_⟩⟩
      · exact (latentSweep_node hc hen hi).trans
          (by rw [hbad]; exact (sweepDue_visits _ hawake (.inr hon)).trans (sweepEntry_valid _ hi hp hv))
      · exact (latentSweep_record hc hen hn).trans
          (by rw [hbad]; exact (sweepDue_visits _ hawake (.inr hon)).trans (sweepEntry_valid _ hi hp hv))

end Sys2Proof.Machine
end

section
/-!
SUPPORT. The Carafe's slots (R230 to R253): a slot with nothing stored, free cells, the scrubber and aged copies.
-/
namespace Sys2Proof.Machine

/-! ## A slot with no frame and no copy -/

section
variable {s : State}

theorem drainRead_no_copy (h : s.car.copies = []) (k d : Nat) (ecc : Option Bool) : drainRead s k d ecc = s := by
  simp [drainRead, drainDue, h]

theorem feedWrite_no_frame (h : s.car.frames = []) (k d : Nat) : feedWrite s k d = s := by
  simp [feedWrite, feedPick, feedDue, feedHead, h]

theorem headsDone_no_frame (h : s.car.frames = []) : headsDone s = s := by
  simp only [headsDone, h, List.map_nil]
  rw [← h]

theorem makeEligible_no_copy (h : s.car.copies = []) : makeEligible s = s := by
  simp only [makeEligible, State.modCpy, h, List.map_nil]
  rw [← h]

theorem pipesGo_no_frame (h : s.car.frames = []) : pipesGo s = s := by
  refine List.foldl_fixed' (fun k => ?_) _
  have hnone : pipeEntered s k = [] := by simp [pipeEntered, pipeQueue, h]
  rw [pipeGo, hnone]
  rfl

/-- The end of a slot with no frame and no copy. -/
theorem slotEnd_empty (hf : s.car.frames = []) (hc : s.car.copies = []) : pipesGo (makeEligible s) = s := by
  rw [makeEligible_no_copy hc, pipesGo_no_frame hf]

/-- While block 17 is closed only bytes arrive (R104). -/
theorem carafeSlot_closed (rx : List (Nat × Bytes)) (ecc : List (Nat × Bool)) (h : closed s 17 = true) :
    carafeSlot s rx ecc = rx.foldl (fun s r => rxBytes s r.1 r.2) s := if_pos h

/-- The course of a slot: drains, feeds, what has left, what arrives, and the copies that become eligible (R232, R246). -/
theorem carafeSlot_open (rx : List (Nat × Bytes)) (ecc : List (Nat × Bool)) (h : closed s 17 = false) :
    carafeSlot s rx ecc =
      let a := (List.range 12).foldl (fun t d => drainRead t s.car.slot d (mfind ecc d)) s
      let b := headsDone ((List.range 12).foldl (fun t d => feedWrite t s.car.slot d) a)
      let c := rx.foldl (fun s r => rxBytes s r.1 r.2) ((b.car.frames.map (·.1)).foldl tidy b)
      pipesGo (makeEligible { c with car := { c.car with slot := s.car.slot + 1 } }) := if_neg (by rw [h]; decide)

/-- With no frame and no copy a slot only counts itself. -/
theorem carafeSlot_empty (ecc : List (Nat × Bool)) (h : closed s 17 = false) (hf : s.car.frames = []) (hc : s.car.copies = []) :
    carafeSlot s [] ecc = { s with car := { s.car with slot := s.car.slot + 1 } } := by
  have hdrains : (List.range 12).foldl (fun t d => drainRead t s.car.slot d (mfind ecc d)) s = s :=
    List.foldl_fixed' (fun d => drainRead_no_copy hc _ _ _) _
  have hfeeds : (List.range 12).foldl (fun t d => feedWrite t s.car.slot d) s = s := List.foldl_fixed' (fun d => feedWrite_no_frame hf _ _) _
  have htidy : (s.car.frames.map (·.1)).foldl tidy s = s := by rw [hf]; rfl
  rw [carafeSlot_open _ _ h]
  simp only [hdrains, hfeeds, headsDone_no_frame hf, htidy, List.foldl_nil]
  apply slotEnd_empty
  · exact hf
  · exact hc

/-! ## Cells -/

/-- A free cell of a bank lies in it, and nothing uses it (R237). -/
theorem takeCell_free {b ptr : Nat} {l : List Nat} (h : takeCell s b l = some ptr) :
    ptr / 32768 = b ∧ ptr ∉ bankUsed s b ∧ ptr ∉ l := by
  simp only [takeCell] at h
  split at h
  · cases h
  · obtain ⟨i, -, hi⟩ := List.mem_map.mp (List.mem_of_find?_eq_some h)
    have hbank : ptr / 32768 = b := by omega
    have hunused := List.find?_some h
    simp only [Bool.not_eq_true', List.contains_eq_mem, decide_eq_false_iff_not, List.mem_append, List.mem_filter, not_or, not_and] at hunused
    exact ⟨hbank, hunused.1, fun hl => hunused.2 hl (beq_iff_eq.mpr hbank)⟩

/-- A cell keeps its content when another is written. -/
theorem writeCell_mem_ne (s : State) {ptr q : Nat} (o : Nat) (bs : Bytes) (h : q ≠ ptr) :
    mget [] (writeCell s ptr o bs).car.mem q = mget [] s.car.mem q := mget_mput_ne _ _ _ _ h

/-- Writing a frame's new cell changes no other cell (R234, R237). -/
theorem writeOne_mem_ne {d b id i ptr q : Nat} {f : CFrame} (hf : s.frm id = some f) (hi : mfind f.cells i = none)
    (ht : takeCell s b = some ptr) (hq : q ≠ ptr) : mget [] (writeOne s d b id i).car.mem q = mget [] s.car.mem q := by
  simp only [writeOne, hf, hi, ht, State.setFrm, occ_car]
  exact writeCell_mem_ne s.drawn _ _ hq

/-! ## The scrubber -/

theorem eccCorr_reports (s : State) : Reports s (eccCorr s) :=
  ((bump_reports s _ _ _ _).trans (occ_reports _ _ _ _ _)).trans (setFlags_reports _ _ _ _ _)

theorem eccUncorr_reports (s : State) (ptr : Nat) : Reports s (eccUncorr s ptr) :=
  (((bump_reports s _ _ _ _).trans (occ_reports _ _ _ _ _)).trans (setReg_reports _ _ _)).trans (setFlags_reports _ _ _ _ _)

end

/-- The scrubber reads place `i` of bank `b` (R231). -/
def scrubBank (errs : List (Nat × Bool)) (i : Nat) (s : State) (b : Nat) : State :=
  match (match mfind errs b with
    | some e => some e
    | none => mfind s.car.bad (b * 32768 + i)) with
  | some true => eccUncorr (cellBad s (b * 32768 + i) true) (b * 32768 + i)
  | some false => eccCorr { s with car := { s.car with bad := mdel s.car.bad (b * 32768 + i) } }
  | none => s

section
variable {s : State}

/-- With scrubbing on the scrubber reads one cell of each bank that is awake, and advances (R231). -/
theorem scrubRead_on (errs : List (Nat × Bool)) (hon : tst (s.rw .CAR_CFG) 31 = true) (hc : closed s 17 = false) :
    scrubRead s errs =
      let u := ((List.range 16).filter (fun b => domOn s (186 + b))).foldl (scrubBank errs s.car.scrub) s
      { u with car := { u.car with scrub := (s.car.scrub + 1) % 32768 } } := if_neg (by rw [hon, hc]; decide)

/-- A cell in which no error stands or is met is read without effect. -/
theorem scrubBank_clean {errs : List (Nat × Bool)} {i b : Nat} (he : mfind errs b = none)
    (hb : mfind s.car.bad (b * 32768 + i) = none) : scrubBank errs i s b = s := by
  simp [scrubBank, he, hb]

/-- An error met where none stands is counted and flagged; an uncorrectable one stands in its cell from then on (R230, R231). -/
theorem scrubBank_error {i b : Nat} (hard : Bool) (hbad : s.car.bad = []) : scrubBank [(b, hard)] i s b =
    if hard then eccUncorr { s with car := { s.car with bad := [(b * 32768 + i, true)] } } (b * 32768 + i) else eccCorr s := by
  have hnone : { s with car := { s.car with bad := mdel s.car.bad (b * 32768 + i) } } = s := by rw [hbad, mdel, ← hbad]
  have hmet : mfind [(b, hard)] b = some hard := if_pos rfl
  cases hard
  · simp only [scrubBank, hmet, hnone, Bool.false_eq_true, if_false]
  · simp only [scrubBank, hmet, cellBad, hbad, mins, if_true]

/-- The errors that stand in cells after that. -/
theorem scrubBank_error_bad {i b : Nat} (hard : Bool) (hbad : s.car.bad = []) :
    (scrubBank [(b, hard)] i s b).car.bad = if hard then [(b * 32768 + i, true)] else [] := by
  rw [scrubBank_error hard hbad]
  cases hard
  · rw [if_neg Bool.false_ne_true, if_neg Bool.false_ne_true, (eccCorr_reports s).car_eq, hbad]
  · rw [if_pos rfl, if_pos rfl, (eccUncorr_reports _ _).car_eq]

end

/-- A fold in which one member of the list acts, and every other is without effect before it and after it. -/
theorem foldl_single {α β : Type} {f : α → β → α} {l : List β} {a : α} {b : β} (hl : l.Nodup) (hb : b ∈ l)
    (hbefore : ∀ x ∈ l, x ≠ b → f a x = a) (hafter : ∀ x ∈ l, x ≠ b → f (f a b) x = f a b) : l.foldl f a = f a b := by
  have hfixed (t : List β) (c : α) (h : ∀ x ∈ t, f c x = c) : t.foldl f c = c := by
    induction t with
    | nil => rfl
    | cons x t ih => rw [List.foldl_cons, h x List.mem_cons_self, ih (fun y hy => h y (List.mem_cons_of_mem x hy))]
  obtain ⟨l₁, l₂, rfl⟩ := List.append_of_mem hb
  rw [List.nodup_middle, List.nodup_cons, List.mem_append, not_or] at hl
  obtain ⟨⟨h₁, h₂⟩, -⟩ := hl
  rw [List.foldl_append, List.foldl_cons, hfixed l₁ a, hfixed l₂ (f a b)]
  · exact fun x hx => hafter x (List.mem_append_right _ (List.mem_cons_of_mem b hx)) (fun h => h₂ (h ▸ hx))
  · exact fun x hx => hbefore x (List.mem_append_left _ hx) (fun h => h₁ (h ▸ hx))

section
variable {s : State}

/-- Where no error stands and none is met the scrubber only advances. -/
theorem scrubRead_clean (hon : tst (s.rw .CAR_CFG) 31 = true) (hc : closed s 17 = false) (hbad : s.car.bad = []) :
    scrubRead s [] = { s with car := { s.car with scrub := (s.car.scrub + 1) % 32768 } } := by
  have hfold : ((List.range 16).filter (fun b => domOn s (186 + b))).foldl (scrubBank [] s.car.scrub) s = s :=
    List.foldl_fixed' (fun b => scrubBank_clean rfl (by rw [hbad]; rfl)) _
  rw [scrubRead_on [] hon hc, hfold]

/-- An error met in one bank is counted and flagged; an uncorrectable one stands in its cell from then on (R230, R231). -/
theorem scrubRead_error {b : Nat} (hard : Bool) (hon : tst (s.rw .CAR_CFG) 31 = true) (hc : closed s 17 = false) (hbad : s.car.bad = [])
    (hb : b < 16) (hawake : domOn s (186 + b) = true) : scrubRead s [(b, hard)] =
      let i := b * 32768 + s.car.scrub
      let u := if hard then eccUncorr { s with car := { s.car with bad := [(i, true)] } } i else eccCorr s
      { u with car := { u.car with scrub := (s.car.scrub + 1) % 32768 } } := by
  have hother (x : Nat) (hx : x ≠ b) : mfind [(b, hard)] x = none := by rw [mfind, if_neg hx.symm, mfind]
  have hmet := scrubBank_error (s := s) (i := s.car.scrub) (b := b) hard hbad
  have hclean : ∀ x ∈ (List.range 16).filter (fun b => domOn s (186 + b)), x ≠ b → scrubBank [(b, hard)] s.car.scrub s x = s :=
    fun x _ hx => scrubBank_clean (hother x hx) (by rw [hbad]; rfl)
  have hfold := foldl_single (f := scrubBank [(b, hard)] s.car.scrub) (List.nodup_range.filter _)
    (List.mem_filter.mpr ⟨List.mem_range.mpr hb, hawake⟩) hclean (fun x _ hx => scrubBank_clean (hother x hx) ?_)
  · rw [scrubRead_on _ hon hc, hfold, hmet]
  · rw [scrubBank_error_bad hard hbad]
    split
    · rw [mfind, if_neg (by omega), mfind]
    · rfl

/-! ## Aged copies -/

/-- A copy that has begun, or is not older than MAX_RES, is left (R253). -/
theorem copyAged_young {p q pos : Nat} {c : CCopy} {f : CFrame} (hpos : (queueCopies s p q)[pos]? = some c) (hf : s.frm c.frame = some f)
    (hs : resShort s p q = false)
    (h : c.begun = true ∨ copyAge s f ≤ 1000 * s.within 1000 8000000 (s.rn .CAR_MAX_RES)) : copyAged s p q pos = s := by
  simp only [copyAged, hpos, hf, hs]
  rcases h with h | h
  · rw [if_pos h]
  · rw [if_neg (Nat.not_lt.mpr h)]
    split <;> rfl

/-- An older one that has not begun is discarded, counted and flagged (R253). -/
theorem copyAged_old {p q pos : Nat} {c : CCopy} {f : CFrame} (hpos : (queueCopies s p q)[pos]? = some c) (hf : s.frm c.frame = some f)
    (hs : resShort s p q = false) (hb : c.begun = false) (h : 1000 * s.within 1000 8000000 (s.rn .CAR_MAX_RES) < copyAge s f) :
    copyAged s p q pos = dropCopy ((occ (s.bump .CAR_AGED) 17 0x16 (feedOf p)).setFlags .CAR_STATUS 0 0 8) c := by
  simp only [copyAged, hpos, hf, hs, hb]
  exact if_pos h

end

/-- Settles O40: the slot, the cells, the scrubber and aged copies. -/
theorem carafeSlots : Obligations.CarafeSlots := by
  unfold Obligations.CarafeSlots
  refine ⟨fun s rx ecc => ⟨fun h => commit_eq (carafeSlot_closed rx ecc h), fun h => commit_eq (carafeSlot_open rx ecc h), ?_⟩,
    fun s b ptr l h => takeCell_free h, fun s d b id i ptr q f hf hi ht hq => writeOne_mem_ne hf hi ht hq, fun s errs h => ?_,
    fun s hon hc hbad => ⟨commit_eq (scrubRead_clean hon hc hbad), fun b hard hb hawake => commit_eq (scrubRead_error hard hon hc hbad hb hawake)⟩,
    fun s i => ⟨fun h => ?_, fun h => ?_, fun h => ?_⟩, ?_⟩
  · rintro h hf hc rfl
    exact commit_eq (carafeSlot_empty ecc h hf hc)
  · refine commit_eq (if_pos ?_)
    rcases h with h | h
    · rw [h, Bool.not_false, Bool.true_or]
    · rw [h, Bool.or_true]
  · simp only [cellRead, h]
  · simp only [cellRead, h]
  · simp only [cellRead, h]
  · rintro s p q pos c f hpos hf ⟨_, hs⟩
    exact ⟨fun hb h => commit_eq (copyAged_old hpos hf hs hb h), fun h => commit_eq (copyAged_young hpos hf hs h)⟩

end Sys2Proof.Machine
end

section
/-!
SUPPORT. The word memories (R113, R472): the table memory and the retention RAM after writes.
-/
namespace Sys2Proof.Machine

/-- The canonical form, memory by memory. -/
theorem memory_wf_iff {s : State} : Memory.wf s = true ↔ mwf 0 s.hot.ram = true ∧ mwf 0 s.tbl.mem = true ∧ mwf 0 s.tbl.buf = true := by
  simp only [Memory.wf, Bool.and_eq_true, and_assoc]

theorem memory_wf_setTw {s : State} (k : Nat) (w : Word) (h : Memory.wf s = true) : Memory.wf (s.setTw k w) = true := by
  obtain ⟨hram, hmem, hbuf⟩ := memory_wf_iff.mp h
  exact memory_wf_iff.mpr ⟨hram, mwf_mput 0 _ k w hmem, hbuf⟩

theorem memory_wf_setTws (ws : List Word) : ∀ (s : State) (k : Nat), Memory.wf s = true → Memory.wf (s.setTws k ws) = true := by
  induction ws with
  | nil => exact fun s k h => h
  | cons w ws ih => exact fun s k h => ih (s.setTw k w) (k + 1) (memory_wf_setTw k w h)

theorem memory_wf_setRamW {s : State} (k : Nat) (w : Word) (h : Memory.wf s = true) : Memory.wf (s.setRamW k w) = true := by
  obtain ⟨hram, hmem, hbuf⟩ := memory_wf_iff.mp h
  exact memory_wf_iff.mpr ⟨mwf_mput 0 _ k w hram, hmem, hbuf⟩

/-- A list of words written from word `k` leaves every word below. -/
theorem tw_setTws_of_lt (ws : List Word) : ∀ (s : State) {k j : Nat}, j < k → (s.setTws k ws).tw j = s.tw j := by
  induction ws with
  | nil => exact fun s _ _ _ => rfl
  | cons w ws ih =>
    intro s k j h
    rw [State.setTws, ih (s.setTw k w) (Nat.lt_succ_of_lt h), tw_setTw, if_neg (Nat.ne_of_lt h)]

/-- Each word of a list written from word `k` is read at its own place. -/
theorem tw_setTws_add (ws : List Word) : ∀ (s : State) (k j : Nat), j < ws.length → (s.setTws k ws).tw (k + j) = ws.getD j 0 := by
  induction ws with
  | nil => exact fun s k j h => absurd h (Nat.not_lt_zero j)
  | cons w ws ih =>
    intro s k j h
    cases j with
    | zero => exact (tw_setTws_of_lt ws (s.setTw k w) (Nat.lt_succ_self k)).trans ((tw_setTw s k k w).trans (if_pos rfl))
    | succ j => rw [State.setTws, Nat.add_comm j 1, ← Nat.add_assoc, ih _ _ j (Nat.lt_of_succ_lt_succ h), Nat.add_comm 1 j,
        List.getD_cons_succ]

/-- Settles O10: one word of each memory, and lists of words by induction on the list. -/
theorem wordMemories : Obligations.WordMemories := by
  unfold Obligations.WordMemories
  exact ⟨tw_setTw, ramW_setRamW, fun s k ws h => memory_wf_setTws ws s k h, fun s k w h => memory_wf_setRamW k w h,
    fun s k j ws h => tw_setTws_add ws s k j h⟩

end Sys2Proof.Machine
end

section
/-!
SUPPORT. Doze (R124, R125): a gate-lead wake ends it.
-/
namespace Sys2Proof.Machine

/-- A device in service in which port 0 is in Doze with its transmit path asleep. LEAD is 100 ticks, 32 µs, and the opening posted for
the path lies exactly that far ahead. -/
def dozingAtLead : State := { justDozing.wr .HOT_PORT_PWR 0 0 0x80000064 with
  hot := { justDozing.hot with txAsleep := [0], leads := [(0, 32000)] } }

/-- Port 0's gate-lead wake is due, and it takes the port out of Doze. -/
theorem gateLeadWake_ends_doze :
    dozingAtLead.hot.leads.find? (fun q => q.1 == 0) = some (0, 32000) ∧
    32000 ≤ dozingAtLead.now + 320 * dozingAtLead.rf .HOT_PORT_PWR 0 0 0 16 ∧
    dozingAtLead.hot.doze = [0] ∧ (gateLeadWake dozingAtLead 0).hot.doze = [] := by decide +kernel

/-- Refutes O31: a gate-lead wake does more than call the transmit path awake. Where the port is in Doze, the wake ends that too, since
the path's lane and MAC domain are those of both directions (R124, R125). -/
theorem not_portPowerStates : ¬ Obligations.PortPowerStates := by
  unfold Obligations.PortPowerStates
  rintro ⟨_, _, _, _, _, hlead, _⟩
  obtain ⟨hposted, hdue, _, hmodel⟩ := gateLeadWake_ends_doze
  have hdoze := congrArg (fun t => t.hot.doze) (Host.Outcome.next.inj (hlead dozingAtLead 0 32000 hposted hdue))
  have hclaim : [] = [0] := hmodel.symm.trans (hdoze.trans (by decide +kernel))
  exact List.cons_ne_nil _ _ hclaim.symm

end Sys2Proof.Machine
end

section
/-!
SUPPORT. Links of ports (R155, R171, R174): when a link comes up or goes down, and when a fault takes it down.
-/
namespace Sys2Proof.Machine

variable {s : State} {p : Nat}

/-- LINK_DOWN leaves a link that is down. -/
theorem linkDownFx_down (h : (s.mac p).link = false) : linkDownFx s p = s := if_pos (by rw [h]; rfl)

/-- A fault is followed by a present port whose mode signals faults (R155). -/
theorem remoteFault_follows (hp : p < 130) (hpr : portPresent s p = true) (hm : faultMode (laneMode s (portLane p)) = true) :
    remoteFault s p = if (s.mac p).rf = true then s else
      ((linkDownFx (s.setMac p { s.mac p with rf := true, lf := false }) p).setFlags .MAC_STATUS p 0 4).emit (.signal p (some false)) := by
  cases h : (s.mac p).rf <;> simp [remoteFault, hp, hpr, hm, h]

theorem localFault_follows (hp : p < 130) (hpr : portPresent s p = true) (hm : faultMode (laneMode s (portLane p)) = true) :
    localFault s p = if (s.mac p).lf = true then s else
      (linkDownFx (s.setMac p { s.mac p with lf := true, rf := false }) p).emit (.signal p (some true)) := by
  cases h : (s.mac p).lf <;> simp [localFault, hp, hpr, hm, h]

/-- A mode without fault signalling knows neither fault (R155). -/
theorem remoteFault_other (hm : faultMode (laneMode s (portLane p)) = false) : remoteFault s p = s := by
  simp [remoteFault, hm]

theorem localFault_other (hm : faultMode (laneMode s (portLane p)) = false) : localFault s p = s := by
  simp [localFault, hm]

/-- Settles O36: the condition under which each of the four commands acts; what it then does is the statement's own. -/
theorem linksAndFaults : Obligations.LinksAndFaults := by
  unfold Obligations.LinksAndFaults
  refine ⟨fun s p sp hp hpr hl he hd => commit_eq (if_pos ?_), fun s p h => commit_eq (if_neg (by rw [h]; exact Bool.false_ne_true)),
    fun s p h => commit_eq (linkDownFx_down h), fun s p hp hpr hm => ?_,
    fun s p hm => ⟨commit_eq (remoteFault_other hm), commit_eq (localFault_other hm)⟩⟩
  · simp [hp, hpr, hl, he, hd]
  · have hr := remoteFault_follows hp hpr hm
    have hl := localFault_follows hp hpr hm
    exact ⟨fun h => commit_eq (hr.trans (if_neg (Bool.eq_false_iff.mp h))), fun h => commit_eq (hr.trans (if_pos h)),
      fun h => commit_eq (hl.trans (if_neg (Bool.eq_false_iff.mp h))), fun h => commit_eq (hl.trans (if_pos h))⟩

end Sys2Proof.Machine
end

section
/-!
SUPPORT. Transmit taps (R133, R135): the fields of a taps word, a far receiver's requests, and clamping.
-/
namespace Sys2Proof.Machine

/-! ## Requests -/

section
variable {s : State} {l tap : Nat}

/-- A tap of the lane's transmitter: 0 PRE, 1 MAIN, 2 POST. -/
def tapValue (s : State) (l tap : Nat) : Nat := fld (s.rw .LN_TX_TAPS l) ([16, 8, 0].getD tap 0) ([5, 6, 5].getD tap 5)

/-- The sum of the lane's taps. -/
def tapSum (s : State) (l : Nat) : Nat := fld (s.rw .LN_TX_TAPS l) 16 5 + fld (s.rw .LN_TX_TAPS l) 8 6 + fld (s.rw .LN_TX_TAPS l) 0 5

/-- The tap moved to `v` and answered updated. -/
def tapMoved (s : State) (l tap v : Nat) : State :=
  (s.wr .LN_TX_TAPS l 0 (setFld (s.rw .LN_TX_TAPS l) ([16, 8, 0].getD tap 0) ([5, 6, 5].getD tap 5) v)).emit (.tapAnswer l tap 1)

/-- A request to move one tap by a step, within its range and the sum of 48 (R133). -/
theorem tapRequest_step (ht : (s.lane l).st = .training) (htap : tap ≤ 2) (up : Bool) :
    tapRequest s l tap up =
      if up then
        if [8, 48, 16].getD tap 0 ≤ tapValue s l tap ∨ 48 ≤ tapSum s l then s.emit (.tapAnswer l tap 2)
        else tapMoved s l tap (tapValue s l tap + 1)
      else
        if tapValue s l tap ≤ [0, 24, 0].getD tap 0 then s.emit (.tapAnswer l tap 3)
        else tapMoved s l tap (tapValue s l tap - 1) := by
  have hacts : ¬ ((s.lane l).st ≠ .training ∨ tap > 4) := not_or.mpr ⟨not_not_intro ht, by omega⟩
  exact (if_neg hacts).trans ((if_neg (by omega)).trans (if_neg (by omega)))

theorem tapRequest_raise (ht : (s.lane l).st = .training) (htap : tap ≤ 2) : tapRequest s l tap true =
    if [8, 48, 16].getD tap 0 ≤ tapValue s l tap ∨ 48 ≤ tapSum s l then s.emit (.tapAnswer l tap 2)
    else tapMoved s l tap (tapValue s l tap + 1) := tapRequest_step ht htap true

theorem tapRequest_lower (ht : (s.lane l).st = .training) (htap : tap ≤ 2) : tapRequest s l tap false =
    if tapValue s l tap ≤ [0, 24, 0].getD tap 0 then s.emit (.tapAnswer l tap 3)
    else tapMoved s l tap (tapValue s l tap - 1) := tapRequest_step ht htap false

theorem tapRequest_preset (ht : (s.lane l).st = .training) (up : Bool) :
    tapRequest s l 3 up = (s.wr .LN_TX_TAPS l 0 presetTaps).emit (.tapAnswer l 3 1) := by
  simp [tapRequest, ht]

theorem tapRequest_initialise (ht : (s.lane l).st = .training) (up : Bool) :
    tapRequest s l 4 up = (s.wr .LN_TX_TAPS l 0 initTaps).emit (.tapAnswer l 4 1) := by
  simp [tapRequest, ht]

end

/-! ## Clamping -/

/-- A word built from three taps, as a number. -/
theorem toNat_taps (pre main post : Nat) :
    (put 16 5 pre ||| put 8 6 main ||| put 0 5 post).toNat = 2 ^ 8 * (2 ^ 8 * (pre % 2 ^ 5) + main % 2 ^ 6) + post % 2 ^ 5 := by
  have hpre := toNat_put 16 5 pre (by decide)
  have hmain := toNat_put 8 6 main (by decide)
  have hpost : (put 0 5 post).toNat = post % 2 ^ 5 := by rw [toNat_put 0 5 post (by decide), Nat.pow_zero, Nat.one_mul]
  have hhigh : (put 16 5 pre ||| put 8 6 main).toNat = 2 ^ 8 * (2 ^ 8 * (pre % 2 ^ 5) + main % 2 ^ 6) := by
    rw [toNat_or_of_lt hpre (by rw [hmain]; omega), hpre, hmain]; omega
  rw [toNat_or_of_lt hhigh (by rw [hpost]; omega), hhigh, hpost]

/-- The taps of a word built from three taps within their fields. -/
theorem taps_of_put {pre main post : Nat} (hpre : pre < 32) (hmain : main < 64) (hpost : post < 32) :
    let w := put 16 5 pre ||| put 8 6 main ||| put 0 5 post
    fld w 16 5 = pre ∧ fld w 8 6 = main ∧ fld w 0 5 = post := by
  simp only [fld, toNat_taps, Nat.shiftRight_eq_div_pow]
  omega

/-- The taps that clamping leaves (R133): MAIN first, then PRE and POST within what MAIN leaves of 48. -/
theorem taps_clampTaps (w : Word) :
    fld (clampTaps w) 16 5 = min (min (fld w 16 5) 8) (48 - max 24 (min (fld w 8 6) 48)) ∧
    fld (clampTaps w) 8 6 = max 24 (min (fld w 8 6) 48) ∧
    fld (clampTaps w) 0 5 = min (min (fld w 0 5) 16)
      (48 - max 24 (min (fld w 8 6) 48) - min (min (fld w 16 5) 8) (48 - max 24 (min (fld w 8 6) 48))) :=
  taps_of_put (by omega) (by omega) (by omega)

/-- Clamping ends within the ranges and the sum of 48. -/
theorem clampTaps_within (w : Word) : fld (clampTaps w) 16 5 ≤ 8 ∧ 24 ≤ fld (clampTaps w) 8 6 ∧ fld (clampTaps w) 0 5 ≤ 16 ∧
    fld (clampTaps w) 16 5 + fld (clampTaps w) 8 6 + fld (clampTaps w) 0 5 ≤ 48 := by
  obtain ⟨hpre, hmain, hpost⟩ := taps_clampTaps w
  omega

/-- Clamping leaves taps within their ranges and sum. -/
theorem clampTaps_legal {w : Word} (hpre : fld w 16 5 ≤ 8) (hmain : 24 ≤ fld w 8 6) (hpost : fld w 0 5 ≤ 16)
    (hsum : fld w 16 5 + fld w 8 6 + fld w 0 5 ≤ 48) :
    fld (clampTaps w) 16 5 = fld w 16 5 ∧ fld (clampTaps w) 8 6 = fld w 8 6 ∧ fld (clampTaps w) 0 5 = fld w 0 5 := by
  obtain ⟨cpre, cmain, cpost⟩ := taps_clampTaps w
  omega

end Sys2Proof.Machine
end

section
/-!
SUPPORT. Tests and the eye monitor (R144, R145): what a receiver's catching up leaves, an LN_TEST word on port, stitch and host lanes, and
the commands of the eye monitor.
-/
namespace Sys2Proof.Machine

variable {s : State} {l : Nat}

/-- Lanes are read from the map of lanes alone. -/
theorem lane_congr {t : State} (h : t.lanes = s.lanes) (k : Nat) : t.lane k = s.lane k := by rw [State.lane, h]; rfl

/-! ## Registers of the lane window -/

/-- The registers of a lane stand in the lane window (R146). -/
theorem laneSpace_le_key {f : Fam} (h : laneSpace ≤ f.row.base) (l : Nat) : laneSpace ≤ Reg.key ⟨f, l, 0⟩ := by
  simp only [Reg.key]; omega

/-- Two registers of one lane stand at different addresses. -/
theorem laneKey_ne (f g : Fam) (l : Nat) (h : f.row.sI = g.row.sI ∧ f.row.base ≠ g.row.base) :
    Reg.key ⟨f, l, 0⟩ ≠ Reg.key ⟨g, l, 0⟩ := by
  obtain ⟨hstep, hbase⟩ := h
  simp only [Reg.key, hstep]; omega

/-- The event counters lie below the lane window. -/
theorem occ_laneReg (s : State) {b : Nat} (ev sub n : Nat) (hb : b < 40) {q : Reg} (hq : laneSpace ≤ q.key) :
    (occ s b ev sub n).reg q = s.reg q := by
  refine occ_reg s b ev sub n hb (Nat.ne_of_gt (Nat.lt_of_lt_of_le (by decide) hq)) (fun k hk => ?_)
  have hovf : Reg.key ⟨.PCT_OVF, k, 0⟩ < laneSpace := by simp only [Reg.key, Fam.row, laneSpace]; omega
  exact Nat.ne_of_gt (Nat.lt_of_lt_of_le hovf hq)

/-! ## What the receiver has met -/

theorem laneOcc_reports (s : State) (l ev n : Nat) : Reports s (laneOcc s l ev n) := by
  unfold laneOcc
  split
  · exact occ_reports _ _ _ _ _
  · split
    · exact occ_reports _ _ _ _ _
    · exact .refl s

/-- An occurrence in a lane's block writes no register of the lane window. -/
theorem laneOcc_laneReg (s : State) (l ev n : Nat) {q : Reg} (hq : laneSpace ≤ q.key) : (laneOcc s l ev n).reg q = s.reg q := by
  unfold laneOcc
  split
  · exact occ_laneReg s _ _ _ (by omega) hq
  · split
    · exact occ_laneReg s _ _ _ (by omega) hq
    · rfl

/-- Nothing is caught up where neither a checker runs nor FEC is in use. -/
theorem laneCatchUp_idle (htest : (s.lane l).st ≠ .test ∨ fld (s.rw .LN_TEST l) 16 4 = 0)
    (hfec : (s.lane l).st ≠ .up ∨ fld (laneRec s l) 20 2 = 0) : laneCatchUp s l = s :=
  (if_neg fun h => htest.elim (absurd h.1) h.2).trans (if_neg fun h => hfec.elim (absurd h.1) h.2)

/-- Catching up changes no lane. -/
theorem laneCatchUp_lanes (s : State) (l : Nat) : (laneCatchUp s l).lanes = s.lanes := by
  have hocc := (laneOcc_reports (s.drawn.bump .LN_FEC_CORR l 0 s.free) l 0x1A s.free).lanes_eq
  unfold laneCatchUp
  dsimp only
  split
  · split <;> rfl
  · split
    · split
      · exact hocc
      · exact (setFlags_reports _ _ _ _ _).lanes_eq.trans hocc
    · rfl

/-- Catching up leaves LN_TEST. -/
theorem laneCatchUp_test (s : State) (l : Nat) : (laneCatchUp s l).rw .LN_TEST l = s.rw .LN_TEST l := by
  have hprbs : Reg.key ⟨.LN_TEST, l, 0⟩ ≠ Reg.key ⟨.LN_PRBS_ERR, l, 0⟩ := laneKey_ne .LN_TEST .LN_PRBS_ERR l (by decide)
  have hocc : (laneOcc (s.drawn.bump .LN_FEC_CORR l 0 s.free) l 0x1A s.free).rw .LN_TEST l = s.rw .LN_TEST l :=
    (laneOcc_laneReg _ _ _ _ (laneSpace_le_key (by decide) l)).trans (reg_setReg_ne _ _ (laneKey_ne .LN_TEST .LN_FEC_CORR l (by decide)))
  unfold laneCatchUp
  dsimp only
  split
  · split
    · exact rw_wr_ne _ _ hprbs
    · exact rw_wr_ne _ _ hprbs
  · split
    · split
      · exact hocc
      · exact (setFlags_reg_ne _ _ (laneKey_ne .LN_TEST .LN_STATUS l (by decide))).trans
          ((reg_setReg_ne _ _ (laneKey_ne .LN_TEST .LN_FEC_UNCORR l (by decide))).trans hocc)
    · rfl

/-! ## LN_TEST words -/

/-- The state in which an LN_TEST word is stored, before it acts (R144): CLR has cleared LN_PRBS_ERR, and the word's bits are kept. -/
def testStored (s : State) (l : Nat) (w : Word) : State :=
  (if tst w 0 then s.wr .LN_PRBS_ERR l 0 0 else laneCatchUp s l).wr .LN_TEST l 0 (w &&& 0xCF0F0000)

theorem testStored_lane (s : State) (l : Nat) (w : Word) (k : Nat) : (testStored s l w).lane k = s.lane k := by
  refine lane_congr ?_ k
  unfold testStored
  split
  · rfl
  · exact laneCatchUp_lanes s l

/-- The word that a write of LN_TEST replaces. -/
theorem test_before_stored (s : State) (l : Nat) (w : Word) :
    (if tst w 0 then s.wr .LN_PRBS_ERR l 0 0 else laneCatchUp s l).rw .LN_TEST l = s.rw .LN_TEST l := by
  split
  · exact rw_wr_ne s 0 (laneKey_ne .LN_TEST .LN_PRBS_ERR l (by decide))
  · exact laneCatchUp_test s l

/-- On a port or stitch lane the word acts at once (R144). -/
theorem testWrite_port (w : Word) (h : l < 40) :
    testWrite s l w = testApply (testStored s l w) l (s.rw .LN_TEST l) (w &&& 0xCF0F0000) := by
  have e := test_before_stored s l w
  exact (if_neg (Nat.not_le.mpr h)).trans (congrArg (fun old => testApply (testStored s l w) l old (w &&& 0xCF0F0000)) e)

/-- On a host lane the word waits for the response, with the word that it replaces (R144). -/
theorem testWrite_host (w : Word) (h : 40 ≤ l) : testWrite s l w = (testStored s l w).setLane l { s.lane l with
    testNext := some (w &&& 0xCF0F0000, ((s.lane l).testNext.map (·.2)).getD (s.rw .LN_TEST l)) } := by
  rw [← test_before_stored s l w, ← testStored_lane s l w l]
  exact if_pos h

/-- The bits that LN_TEST keeps hold the whole checker selection. -/
theorem checker_of_kept (w : Word) : fld (w &&& 0xCF0F0000) 16 4 = fld w 16 4 := by
  have h : (w &&& 0xCF0F0000).extractLsb' 16 4 = w.extractLsb' 16 4 := by
    rw [BitVec.extractLsb'_and]
    exact BitVec.and_allOnes
  exact congrArg BitVec.toNat h

/-- A selection takes a lane that is neither OFF nor linked to TEST; a checker that was not selected before starts without lock (R144). -/
theorem testApply_selects {old v : Word} (hoff : (s.lane l).st ≠ .off) (hup : (s.lane l).st ≠ .up) (hidle : (s.lane l).st ≠ .idle)
    (hv : fld v 16 16 ≠ 0) :
    testApply s l old v =
      (if (s.lane l).st = .test ∧ fld old 16 4 = fld v 16 4 then s else prbsUnlock s l).setLane l
        { s.lane l with st := .test, sync := false, mlock := false, desk := false, woke := false } := by
  have hlane : (if (s.lane l).st = .test ∧ fld old 16 4 = fld v 16 4 then s else prbsUnlock s l).lane l = s.lane l := by
    split <;> rfl
  refine (if_neg hoff).trans ((if_pos hv).trans ?_)
  simp only [if_neg (not_or.mpr ⟨hup, hidle⟩), hlane]

/-- A word that selects nothing leaves a lane that is not in TEST. -/
theorem testApply_none {old v : Word} (htest : (s.lane l).st ≠ .test) (hv : fld v 16 16 = 0) : testApply s l old v = s := by
  simp [testApply, htest, hv]

/-- CLR zeroes LN_PRBS_ERR of a port or stitch lane in bring-up, whatever the word selects (R144). -/
theorem testWrite_clears (w : Word) (hl : l < 40) (hclr : tst w 0 = true) (hst : (s.lane l).st ∈ [LnSt.cold, .training, .down]) :
    (testWrite s l w).rw .LN_PRBS_ERR l = 0 := by
  have hstored : (testStored s l w).rw .LN_PRBS_ERR l = 0 := by
    rw [testStored, if_pos hclr, rw_wr_ne _ _ (laneKey_ne .LN_PRBS_ERR .LN_TEST l (by decide)), rw_wr_same]
  rw [← testStored_lane s l w l] at hst
  have hne (x : LnSt) (hx : x ∉ [LnSt.cold, .training, .down]) : ((testStored s l w).lane l).st ≠ x := fun h => hx (h ▸ hst)
  rw [testWrite_port w hl]
  by_cases hv : fld (w &&& 0xCF0F0000) 16 16 = 0
  · rw [testApply_none (hne _ (by decide)) hv, hstored]
  · rw [testApply_selects (hne _ (by decide)) (hne _ (by decide)) (hne _ (by decide)) hv,
      if_neg (fun h => hne .test (by decide) h.1)]
    refine (rw_wr_same _ _ _ _ _).trans ?_
    rw [hstored]; rfl

/-! ## The eye monitor -/

/-- The state in which START of the eye monitor is carried out, its settings being stored (R145). -/
def eyeStored (s : State) (l : Nat) (w : Word) : State := s.wr .LN_EYE_CMD l 0 (w &&& 0x1F)

/-- A word with START acts on an idle scanner. -/
theorem start_of_idle {w : Word} (hstart : tst w 31 = true) (hidle : (s.lane l).eyeBusy = false) :
    ¬ (!tst w 31 || (s.lane l).eyeBusy) = true := by
  rw [hstart, hidle]; decide

/-- START on an idle scanner in UP or TEST clears the counts and is busy (R145). -/
theorem eyeWrite_scans {w : Word} (hstart : tst w 31 = true) (hidle : (s.lane l).eyeBusy = false)
    (hst : (s.lane l).st = .up ∨ (s.lane l).st = .test) :
    eyeWrite s l w = (eyeStored s l w).setLane l { s.lane l with eye := [], eyeSat := false, eyeBusy := true } :=
  (if_neg (start_of_idle hstart hidle)).trans (if_pos hst)

/-- Elsewhere it ends at once, saturated (R145). -/
theorem eyeWrite_ends {w : Word} (hstart : tst w 31 = true) (hidle : (s.lane l).eyeBusy = false)
    (hst : ¬ ((s.lane l).st = .up ∨ (s.lane l).st = .test)) :
    eyeWrite s l w = ((eyeStored s l w).setLane l { s.lane l with eye := [], eyeSat := true }).setFlags .LN_STATUS l 0 128 :=
  (if_neg (start_of_idle hstart hidle)).trans (if_neg hst)

/-- The lanes after START of an idle scanner: the lane's own scanner, and no other lane. -/
theorem eyeWrite_lane {w : Word} (hstart : tst w 31 = true) (hidle : (s.lane l).eyeBusy = false) (k : Nat) :
    (eyeWrite s l w).lane k = if k = l then
      (if (s.lane l).st = .up ∨ (s.lane l).st = .test then { s.lane l with eye := [], eyeSat := false, eyeBusy := true }
        else { s.lane l with eye := [], eyeSat := true }) else s.lane k := by
  by_cases hst : (s.lane l).st = .up ∨ (s.lane l).st = .test
  · rw [eyeWrite_scans hstart hidle hst, lane_setLane, if_pos hst]; rfl
  · rw [eyeWrite_ends hstart hidle hst, lane_congr (setFlags_reports _ _ _ _ _).lanes_eq, lane_setLane, if_neg hst]; rfl

/-- START stores the scan's settings. -/
theorem eyeWrite_cmd {w : Word} (hstart : tst w 31 = true) (hidle : (s.lane l).eyeBusy = false) :
    (eyeWrite s l w).rw .LN_EYE_CMD l = w &&& 0x1F := by
  have hstored : (eyeStored s l w).rw .LN_EYE_CMD l = w &&& 0x1F := rw_wr_same _ _ _ _ _
  by_cases hst : (s.lane l).st = .up ∨ (s.lane l).st = .test
  · rw [eyeWrite_scans hstart hidle hst]; exact hstored
  · rw [eyeWrite_ends hstart hidle hst]
    exact (setFlags_reg_ne _ _ (laneKey_ne .LN_EYE_CMD .LN_STATUS l (by decide))).trans hstored

/-- EYE_SCAN_DONE of a busy scan stores its counts and flags EYE_DONE (R145). -/
theorem eyeDone_busy (cs : List Word) (h : (s.lane l).eyeBusy = true) : eyeDone s l cs =
    (s.setLane l { s.lane l with eye := ((List.range 2048).zip cs).foldl (fun m p => mput 0 m p.1 p.2) [], eyeBusy := false }).setFlags
      .LN_STATUS l 0 128 := by
  refine if_neg ?_
  rw [h]; decide

end Sys2Proof.Machine
end

section
/-!
SUPPORT. Writes through the lane window (R52, R146, R148): a single operation sets LN_IND_ADDR and writes the lane's register behind it.
-/
namespace Sys2Proof.Machine

/-- The address register of the lane window. -/
abbrev laneAddr : Reg := ⟨.LN_IND_ADDR, 0, 0⟩

/-- The data register of the lane window. -/
abbrev laneData : Reg := ⟨.LN_IND_DATA, 0, 0⟩

/-- The registers of a lane that a host writes through the window, beside its status (R146). -/
def laneWritable : List Fam := [.LN_TX_TAPS, .LN_TEST, .LN_EYE_CMD]

/-- An operation of `who` through the lane window reaches register `f` of lane `l` (R40, R55, R104, R146): the issuer is served, neither
window register is a guard register, and the lane is present, awake and not OFF behind an open wrapper. -/
structure LaneReached (s : State) (who : Who) (f : Fam) (l : Nat) : Prop where
  writable : f ∈ laneWritable
  lane_lt : l < 42
  issuer : served s who = true
  addr : isGuardReg s laneAddr = false
  data : isGuardReg s laneData = false
  fused : laneFused s l = false
  isOpen : regClosed s ⟨f, l, 0⟩ = false
  mode : laneMode s l ≠ 0
  on : (s.lane l).st ≠ .off

variable {s : State} {who : Who} {f : Fam} {l : Nat} {a : Word}

/-- Word `a` in LN_IND_ADDR names register `f` of lane `l` (R52, R146). -/
def LaneNamed (a : Word) (f : Fam) (l : Nat) : Prop := a.toNat / 0x10000 = l ∧ laneWord a.toNat = some ⟨f, l, 0⟩

/-- The address at which a lane operation starts names its register. -/
theorem laneNamed_start : ∀ f ∈ laneWritable, ∀ l < 42, LaneNamed (wd (Reg.key ⟨f, l, 0⟩ - laneSpace)) f l := by
  unfold LaneNamed
  decide +kernel

theorem laneSpace_le_base : ∀ f ∈ laneWritable, laneSpace ≤ f.row.base := by decide

/-- The wrapper of a lane's register is that of one of the 40 blocks with counters. -/
theorem regCtr_lane : ∀ f ∈ laneWritable, ∀ l < 42, ∀ b ∈ regCtr ⟨f, l, 0⟩, b < 40 := by decide +kernel

/-- The state in which a write through the window reaches register `r`: LN_IND_ADDR names it, and its block has counted. -/
def laneWriting (s : State) (a : Word) (r : Reg) : State := touched (s.setReg laneAddr a) r

/-- The state with the window's address advanced by one word (R52). -/
def laneStep (s : State) : State := s.wr .LN_IND_ADDR 0 0 (s.rw .LN_IND_ADDR + 1)

theorem laneStep_reports (s : State) : Reports s (laneStep s) := setReg_reports _ _ _

@[simp] theorem laneStep_lane (s : State) (k : Nat) : (laneStep s).lane k = s.lane k := rfl

@[simp] theorem setRes_lane (s : State) (st n : Nat) (ws : List Word) (k : Nat) : (setRes s st n ws).lane k = s.lane k := rfl

theorem laneWriting_reports (s : State) (a : Word) (r : Reg) : Reports s (laneWriting s a r) :=
  (setReg_reports s _ _).trans (touched_reports _ _)

/-- The window's address stands below the lanes' registers. -/
theorem setAddr_laneReg (s : State) (a : Word) {q : Reg} (hq : laneSpace ≤ q.key) : (s.setReg laneAddr a).reg q = s.reg q :=
  reg_setReg_ne s a (Nat.ne_of_gt (Nat.lt_of_lt_of_le (by decide) hq))

theorem laneStep_laneReg (s : State) {q : Reg} (hq : laneSpace ≤ q.key) : (laneStep s).reg q = s.reg q := setAddr_laneReg s _ hq

/-- The window's address and the counters leave the registers of the lanes. -/
theorem laneWriting_laneReg (hf : f ∈ laneWritable) (hl : l < 42) {q : Reg} (hq : laneSpace ≤ q.key) :
    (laneWriting s a ⟨f, l, 0⟩).reg q = s.reg q := by
  rw [← setAddr_laneReg s a hq]
  unfold laneWriting touched
  split
  next b hb => exact occ_laneReg _ _ _ _ (regCtr_lane f hf l hl b hb) hq
  next => rfl

/-- Nothing turns the write away from its register. -/
theorem LaneReached.turnedAway (h : LaneReached s who f l) (a : Word) : turnedAway (s.setReg laneAddr a) ⟨f, l, 0⟩ = none := by
  have hkey := laneSpace_le_key (laneSpace_le_base f h.writable) l
  have hclosed : regClosed (s.setReg laneAddr a) ⟨f, l, 0⟩ = false := h.isOpen
  have hasleep : regAsleep (s.setReg laneAddr a) ⟨f, l, 0⟩ = false := by
    rw [regAsleep, if_neg (Nat.not_lt.mpr hkey), Bool.or_eq_false_iff]
    exact ⟨beq_eq_false_iff_ne.mpr h.mode, beq_eq_false_iff_ne.mpr h.on⟩
  rw [Machine.turnedAway, hclosed, hasleep]; rfl

/-- A write through the window behind its address writes the lane's register. -/
theorem LaneReached.windowWrite (h : LaneReached s who f l) (ha : LaneNamed a f l) (w : Word) :
    windowWrite (s.setReg laneAddr a) .LN_IND_DATA a.toNat w = some (regWrite (laneWriting s a ⟨f, l, 0⟩) 0 ⟨f, l, 0⟩ w false) := by
  obtain ⟨hlane, hword⟩ := ha
  have hfused : laneFused (s.setReg laneAddr a) l = false := h.fused
  simp only [Machine.windowWrite, hlane, hfused, Bool.and_false, hword, h.turnedAway]
  rfl

/-- Setting the window's address is one write access. -/
theorem accWrite_laneAddr (a : Word) (hg : isGuardReg s laneAddr = false) :
    accWrite (touched s laneAddr) who laneAddr a = (stOk, s.setReg laneAddr a) := by
  have hj : guardJudge s who (isGuardReg s laneAddr) = none := by rw [hg]; rfl
  show accWrite s who laneAddr a = _
  simp only [accWrite, hj]
  exact congrArg (fun w => (stOk, s.setReg laneAddr w)) BitVec.and_allOnes

/-- A write access to LN_IND_DATA writes the lane's register and advances the window. -/
theorem accWrite_laneData (h : LaneReached s who f l) (ha : LaneNamed a f l) (w : Word) :
    accWrite (s.setReg laneAddr a) who laneData w = (stOk, laneStep (regWrite (laneWriting s a ⟨f, l, 0⟩) 0 ⟨f, l, 0⟩ w false)) := by
  have hg : isGuardReg (s.setReg laneAddr a) laneData = false := h.data
  have hj : guardJudge (s.setReg laneAddr a) who (isGuardReg (s.setReg laneAddr a) laneData) = none := by rw [hg]; rfl
  have hrn : (s.setReg laneAddr a).rn .LN_IND_ADDR = a.toNat := congrArg BitVec.toNat (reg_setReg_same s laneAddr a)
  simp only [accWrite, hj, windowAddr, hrn, h.windowWrite ha w]
  rfl

/-- A single write through the window is answered OK with one word written (R52). -/
theorem burstWrite_lane (h : LaneReached s who f l) (ha : LaneNamed a f l) (w : Word) :
    burstWrite s who (Reg.key ⟨.LN_IND_ADDR, 0, 0⟩) a [w] =
      (stOk, 1, laneStep (regWrite (laneWriting s a ⟨f, l, 0⟩) 0 ⟨f, l, 0⟩ w false)) := by
  have hat : regAt s (Reg.key ⟨.LN_IND_ADDR, 0, 0⟩) = some laneAddr := rfl
  have hat' : regAt s (Reg.key ⟨.LN_IND_ADDR, 0, 0⟩ + 4) = some laneData := rfl
  simp only [burstWrite, hat, hat', h.addr, h.data, accWrite_laneAddr a h.addr, writeMany_cons [] (accWrite_laneData h ha w)]
  rfl

/-- A lane operation that reaches its register writes it, in a state that differs by the window's address and counters alone, and
advances the window. -/
theorem laneOp_reached (h : LaneReached s who f l) (w : Word) : ∃ v, Reports s v ∧ (∀ q : Reg, laneSpace ≤ q.key → v.reg q = s.reg q) ∧
    laneOp s who f l w = testFlush (setRes (laneStep (regWrite v 0 ⟨f, l, 0⟩ w false)) stOk 1 []) := by
  refine ⟨laneWriting s (wd (Reg.key ⟨f, l, 0⟩ - laneSpace)) ⟨f, l, 0⟩, laneWriting_reports s _ _,
    fun q hq => laneWriting_laneReg h.writable h.lane_lt hq, ?_⟩
  rw [laneOp, hostOp_served h.issuer, burstWrite_lane h (laneNamed_start f h.writable l h.lane_lt) w]

/-! ## What each register does with its word -/

theorem regWrite_taps (s : State) (l : Nat) (w : Word) : regWrite s 0 ⟨.LN_TX_TAPS, l, 0⟩ w false = tapsWrite s l w :=
  congrArg (tapsWrite s l) BitVec.and_allOnes

/-- LN_TEST and LN_EYE_CMD take a word without a reserved encoding as it stands. -/
theorem regWrite_unmasked (s : State) {w : Word} (hf : f = .LN_TEST ∨ f = .LN_EYE_CMD) (h : reservedEnc ⟨f, l, 0⟩ w = false) :
    regWrite s 0 ⟨f, l, 0⟩ w false = rwWrite s ⟨f, l, 0⟩ w false := by
  have hacc : f.row.acc = .rw := by rcases hf with rfl | rfl <;> rfl
  simp only [regWrite, hacc, if_pos hf, h, Bool.false_eq_true, if_false]

theorem regWrite_test (s : State) {w : Word} (h : reservedEnc ⟨.LN_TEST, l, 0⟩ w = false) :
    regWrite s 0 ⟨.LN_TEST, l, 0⟩ w false = testWrite s l w := regWrite_unmasked s (.inl rfl) h

theorem regWrite_eye (s : State) (l : Nat) (w : Word) : regWrite s 0 ⟨.LN_EYE_CMD, l, 0⟩ w false = eyeWrite s l w :=
  regWrite_unmasked s (.inr rfl) rfl

theorem tapsWrite_reports (s : State) (l : Nat) (w : Word) : Reports s (tapsWrite s l w) := by
  unfold tapsWrite
  split
  · exact .refl s
  · exact setReg_reports s _ _

/-- A host's taps are clamped on a lane without training, and change nothing on one with TRAIN (R135). -/
theorem tapsWrite_rw (s : State) (l : Nat) (w : Word) :
    (tapsWrite s l w).rw .LN_TX_TAPS l = if laneTrain s l then s.rw .LN_TX_TAPS l else clampTaps w := by
  unfold tapsWrite
  split
  · rfl
  · exact rw_wr_same _ _ _ _ _

theorem Reports.laneTrain_eq {s t : State} (h : Reports s t) (l : Nat) : laneTrain t l = laneTrain s l := by
  simp only [laneTrain, laneRec, h.roast_eq]

/-- A state that only reports, with an operation's response set down. -/
theorem Reports.setRes_frame {s t : State} (h : Reports s t) (st n : Nat) (ws : List Word) :
    setRes t st n ws = { s with opRes := ⟨st, n, ws⟩, regs := t.regs, evt := t.evt, pct := t.pct } :=
  congrArg (fun u => setRes u st n ws) h

/-- Settles O33: requests and clamping of taps, LN_TEST words by the lane's state, and the eye monitor; each host write by what it does
to the register that it reaches through the lane window. -/
theorem tapsTestsAndEye : Obligations.TapsTestsAndEye := by
  unfold Obligations.TapsTestsAndEye
  refine ⟨⟨fun s l tap ht htap => ?_, fun s l up ht => ?_, fun s who l w hl hr ha hd hfu hc hm hst => ?_, clampTaps_within,
      fun w => clampTaps_legal⟩,
    fun s l w hl hoff hup hidle hv => ?_, fun s l w hl => testWrite_host w hl, fun s l => laneCatchUp_idle,
    fun s l w hl hclr hst => testWrite_clears w hl hclr hst, fun s who l w hl hr ha hd hfu hc hm hst henc => ?_,
    fun s who l w hl hr ha hd hfu hc hm hst hstart hidle => ?_, fun s l cs h => commit_eq (eyeDone_busy cs h)⟩
  · have hraise := tapRequest_raise ht htap
    have hlower := tapRequest_lower ht htap
    exact ⟨fun h => commit_eq (hraise.trans (if_pos h)),
      fun h hsum => commit_eq (hraise.trans (if_neg (not_or.mpr ⟨Nat.not_le.mpr h, Nat.not_le.mpr hsum⟩))),
      fun h => commit_eq (hlower.trans (if_pos h)), fun h => commit_eq (hlower.trans (if_neg (Nat.not_le.mpr h)))⟩
  · exact ⟨commit_eq (tapRequest_preset ht up), commit_eq (tapRequest_initialise ht up)⟩
  · obtain ⟨v, hv, hreg, hop⟩ := laneOp_reached (f := .LN_TX_TAPS) ⟨by decide, hl, hr.1, ha, hd, hfu, hc, hm, hst⟩ w
    have hkey := laneSpace_le_key (f := .LN_TX_TAPS) (by decide) l
    rw [regWrite_taps] at hop
    refine ⟨_, commit_eq hop, rfl, ?_, ((hv.trans (tapsWrite_reports v l w)).trans (laneStep_reports _)).setRes_frame _ _ _⟩
    rw [setRes_rw, State.rw, laneStep_laneReg _ hkey, ← State.rw, tapsWrite_rw, hv.laneTrain_eq, State.rw, hreg _ hkey, ← State.rw]
  · rw [testWrite_port w hl, testApply_selects (by rwa [testStored_lane]) (by rwa [testStored_lane]) (by rwa [testStored_lane]) hv,
      testStored_lane, checker_of_kept]
    simp only [eq_comm (a := fld (s.rw .LN_TEST l) 16 4)]
    rfl
  · obtain ⟨v, hv, hreg, hop⟩ := laneOp_reached (f := .LN_TEST) ⟨by decide, hl, hr.1, ha, hd, hfu, hc, hm, hst⟩ w
    rw [regWrite_test v henc] at hop
    exact ⟨v, hv, hreg _ (laneSpace_le_key (by decide) l), commit_eq hop, commit_eq hop⟩
  · obtain ⟨v, hv, hreg, hop⟩ := laneOp_reached (f := .LN_EYE_CMD) ⟨by decide, hl, hr.1, ha, hd, hfu, hc, hm, hst⟩ w
    have hlane (k : Nat) : v.lane k = s.lane k := lane_congr hv.lanes_eq k
    rw [← hlane l] at hidle
    rw [regWrite_eye] at hop
    refine ⟨_, commit_eq hop, rfl, ?_, ?_, fun k hk => ?_⟩
    · rw [setRes_lane, laneStep_lane, eyeWrite_lane hstart hidle, if_pos rfl, hlane]
    · rw [setRes_rw, State.rw, laneStep_laneReg _ (laneSpace_le_key (by decide) l)]
      exact eyeWrite_cmd hstart hidle
    · rw [setRes_lane, laneStep_lane, eyeWrite_lane hstart hidle, if_neg hk, hlane]

end Sys2Proof.Machine
end

section
/-!
SUPPORT. Rate matching (R136, R137) and alignment markers (R140, R141): when a unit is deleted or inserted and where it is counted, and
what a block at a marker's place, or one with a marker's pattern, does to a stitch lane.
-/
namespace Sys2Proof.Machine

variable {s : State} {l sub fill gap : Nat}

/-! ## Rate matching -/

/-- A lane that is no stitch lane transmits from a PLL of its own (R139). -/
theorem pllLane_port (h : isStitch l = false) : pllLane l = l := if_neg (Bool.eq_false_iff.mp h)

/-- The FIFO of a stitch link is kept at the first lane, from whose PLL every lane of it transmits (R139). -/
theorem pllLane_stitch (h : isStitch l = true) : pllLane l = (linkLanes (laneLink l)).headD l := if_pos h

/-- The FIFO of a stitch link stands at a filler column (R137). -/
theorem atGap_stitch (h : isStitch l = true) (sub : Nat) : atGap s l sub = true := by rw [atGap, h, Bool.true_or]

/-- A unit of a port lane's FIFO is counted at the lane and in its block (R402). -/
theorem rateUnit_port (h : isStitch l = false) (del : Bool) : rateUnit s l sub fill del =
    laneOcc ((s.setLane l { s.lane l with
      fill := mput 0 (s.lane l).fill sub (if del then fill - (fifoShape (laneMode s l)).2 else fill + (fifoShape (laneMode s l)).2) }).bump
        (if del then .LN_FILL_DEL else .LN_FILL_INS) l) l (if del then 0x18 else 0x19) := by
  rw [rateUnit, pllLane_port h]
  exact if_neg (Bool.eq_false_iff.mp h)

/-- A column of a stitch link's FIFO is counted at every lane of the link (log entry 117). -/
theorem rateUnit_stitch (h : isStitch l = true) (del : Bool) :
    let k := (linkLanes (laneLink l)).headD l
    rateUnit s l sub fill del = (linkLanes (laneLink l)).foldl (fun s j => s.bump (if del then .LN_FILL_DEL else .LN_FILL_INS) j)
      (s.setLane k { s.lane k with
        fill := mput 0 (s.lane k).fill sub (if del then fill - (fifoShape (laneMode s l)).2 else fill + (fifoShape (laneMode s l)).2) }) := by
  rw [rateUnit, pllLane_stitch h]
  exact if_pos h

/-- A fill above three quarters at a gap of two units in UP brings a deletion (R137). -/
theorem rateDelete_deletes (hup : (s.lane l).st = .up) (hgap : atGap s l sub = true) (h2 : 2 ≤ gap)
    (hhigh : 3 * (fifoShape (laneMode s l)).1 < 4 * fill) (hfill : fill ≤ (fifoShape (laneMode s l)).1) :
    rateDelete s l sub fill gap = rateUnit s l sub fill true := if_pos ⟨hup, hgap, h2, hhigh, hfill⟩

/-- A fill below one quarter at a gap in UP brings an insertion (R137). -/
theorem rateInsert_inserts (hup : (s.lane l).st = .up) (hgap : atGap s l sub = true) (hlow : 4 * fill < (fifoShape (laneMode s l)).1) :
    rateInsert s l sub fill = rateUnit s l sub fill false := if_pos ⟨hup, hgap, hlow⟩

/-- Nothing is deleted away from a gap, at a short one, and at three quarters or below. -/
theorem rateDelete_leaves (h : atGap s l sub = false ∨ gap < 2 ∨ 4 * fill ≤ 3 * (fifoShape (laneMode s l)).1) :
    rateDelete s l sub fill gap = s := by
  refine if_neg ?_
  rintro ⟨_, hgap, h2, hhigh, _⟩
  rcases h with h | h | h
  · rw [h] at hgap; cases hgap
  · omega
  · omega

/-- Nothing is inserted away from a gap, and at one quarter or above. -/
theorem rateInsert_leaves (h : atGap s l sub = false ∨ (fifoShape (laneMode s l)).1 ≤ 4 * fill) : rateInsert s l sub fill = s := by
  refine if_neg ?_
  rintro ⟨_, hgap, hlow⟩
  rcases h with h | h
  · rw [h] at hgap; cases hgap
  · omega

/-! ## Alignment markers -/

variable {pos a k bip : Nat} {w0 w1 : Word}

/-- A marker on a stitch lane with sync that expects none yet fixes the marker place (R140). -/
theorem alignmentMarker_first (hl : isStitch l = true) (hs : (s.lane l).sync = true) (hm : markerOf w0 w1 = some k)
    (hat : (s.lane l).mkAt = none) (hlock : (s.lane l).mlock = false) :
    alignmentMarker s l pos w0 w1 bip =
      deskew (s.setLane l { s.lane l with mkAt := some pos, mkMiss := 0, logical := k, mlock := false }) (laneLink l) := by
  simp [alignmentMarker, hl, hs, hm, hat, hlock]

/-- A marker at its due place with the right parity gives marker lock (R140). -/
theorem alignmentMarker_due (hl : isStitch l = true) (hs : (s.lane l).sync = true) (hm : markerOf w0 w1 = some k)
    (hat : (s.lane l).mkAt = some a) (hmiss : (s.lane l).mkMiss = 0) (hbip : fld w0 0 8 = bip % 256) :
    alignmentMarker s l (a + 16385) w0 w1 bip =
      deskew (s.setLane l { s.lane l with mkAt := some (a + 16385), mkMiss := 0, logical := k, mlock := true }) (laneLink l) := by
  simp [alignmentMarker, hl, hs, hm, hat, hmiss, hbip]

/-- A lane without lock that misses its marker looks for a first one again (R140). -/
theorem alignmentMarker_missed_unlocked (hl : isStitch l = true) (hs : (s.lane l).sync = true) (hm : markerOf w0 w1 = none)
    (hat : (s.lane l).mkAt = some a) (hlock : (s.lane l).mlock = false) :
    alignmentMarker s l (a + 16385) w0 w1 bip = s.setLane l { s.lane l with mkAt := none, mkMiss := 0 } := by
  simp [alignmentMarker, hl, hs, hm, hat, hlock]

/-- A lane with lock counts up to three missing markers (R140). -/
theorem alignmentMarker_missed_locked (hl : isStitch l = true) (hs : (s.lane l).sync = true) (hm : markerOf w0 w1 = none)
    (hat : (s.lane l).mkAt = some a) (hlock : (s.lane l).mlock = true) (hmiss : (s.lane l).mkMiss < 3) :
    alignmentMarker s l (a + 16385 * ((s.lane l).mkMiss + 1)) w0 w1 bip =
      s.setLane l { s.lane l with mkMiss := (s.lane l).mkMiss + 1 } := by
  simp [alignmentMarker, hl, hs, hm, hat, hlock, hmiss]

/-- The fourth missing marker takes lock and deskew, and from UP the link and a running eye scan (R140, R141; log entry 82). -/
theorem alignmentMarker_lost (hl : isStitch l = true) (hs : (s.lane l).sync = true) (hm : markerOf w0 w1 = none)
    (hat : (s.lane l).mkAt = some a) (hmiss : (s.lane l).mkMiss = 3) (hlock : (s.lane l).mlock = true) (hup : (s.lane l).st = .up) :
    alignmentMarker s l (a + 16385 * 4) w0 w1 bip = eyeStop (reportDown ((s.setFlags .LN_STATUS l 0 8).setLane l
      { s.lane l with mlock := false, desk := false, mkAt := none, mkMiss := 0 }) l) l := by
  simp [alignmentMarker, hl, hs, hm, hat, hmiss, hlock, hup]

/-- Settles O34: rate matching by the gap and the fill, and a block by its place, its pattern and the lane's lock. -/
theorem laneRateAndAlignment : Obligations.LaneRateAndAlignment := by
  unfold Obligations.LaneRateAndAlignment
  refine ⟨fun s l sub fill gap hl hup hgap h2 hhigh hfill => ?_, fun s l sub fill hl hup hgap hlow => ?_,
    fun s l sub fill gap hlow hhigh => ⟨commit_eq (rateDelete_leaves (.inr (.inr hhigh))), commit_eq (rateInsert_leaves (.inr hlow))⟩,
    fun s l sub fill gap _ hgap => ⟨commit_eq (rateDelete_leaves (.inl hgap)), commit_eq (rateInsert_leaves (.inl hgap))⟩,
    fun s l sub fill gap h2 => commit_eq (rateDelete_leaves (.inr (.inl h2))),
    fun s l sub fill gap hl hup h2 => ⟨fun hhigh hfill => ?_, fun hlow => ?_⟩,
    fun s l pos k bip w0 w1 hl hs hm hat hlock => commit_eq (alignmentMarker_first hl hs hm hat hlock),
    fun s l a k bip w0 w1 hl hs hm hat hmiss hbip => commit_eq (alignmentMarker_due hl hs hm hat hmiss hbip),
    fun s l a bip w0 w1 hl hs hm hat => ⟨fun hlock hmiss => commit_eq (alignmentMarker_missed_locked hl hs hm hat hlock hmiss),
      fun hlock => commit_eq (alignmentMarker_missed_unlocked hl hs hm hat hlock)⟩,
    fun s l a bip w0 w1 hl hs hm hat hmiss hlock hup => commit_eq (alignmentMarker_lost hl hs hm hat hmiss hlock hup)⟩
  · exact commit_eq ((rateDelete_deletes hup hgap h2 hhigh hfill).trans (rateUnit_port hl true))
  · exact commit_eq ((rateInsert_inserts hup hgap hlow).trans (rateUnit_port hl false))
  · exact commit_eq ((rateDelete_deletes hup (atGap_stitch hl sub) h2 hhigh hfill).trans (rateUnit_stitch hl true))
  · exact commit_eq ((rateInsert_inserts hup (atGap_stitch hl sub) hlow).trans (rateUnit_stitch hl false))

end Sys2Proof.Machine
end

section
/-!
SUPPORT. The end of a disable (R172): it waits for a frame in reception.
-/
namespace Sys2Proof.Machine

/-- A frame in reception when the disable starts is received normally (R172, step 1), and the disable does not end before it. -/
theorem disableEnd_receiving {s : State} {p : Nat} (h : (s.mac p).rx ≠ none) : disableEnd s p = s :=
  if_neg (fun ⟨_, _, _, _, hrx, _⟩ => h hrx)

/-- A device in service in which port 0 is disabling with its drain step over, while a frame is still being received at it. -/
def disablingInReception : State := { State.reset.setMac 0 { en := .disabling, link := true, drained := true, rx := some {} } with
  boot := { State.reset.boot with st := .running }
  roast := { State.reset.roast with lanes := [put 22 4 6] } }

/-- Refutes O35: the end of a disable rests on more than what is sent. With a frame still in reception at the port, DISABLE_END leaves
the port disabling, its drain step over and nothing in transmission (R172, steps 1 and 3). -/
theorem not_portEnableDisable : ¬ Obligations.PortEnableDisable := by
  unfold Obligations.PortEnableDisable
  rintro ⟨_, _, hend, _⟩
  have hclaim := hend disablingInReception 0 (by decide) (by decide) (by decide) (by decide) (.inl (by decide))
  have hmodel : exec (.disableEnd 0) disablingInReception = .next (levelRefresh disablingInReception) :=
    commit_eq (disableEnd_receiving (by decide))
  have hen := congrArg (fun t => (t.mac 0).en) (Host.Outcome.next.inj (hmodel.symm.trans hclaim))
  exact absurd hen (by decide +kernel)

end Sys2Proof.Machine
end

section
/-!
SUPPORT. Preemption verification (R159) and low-power idle (R168 to R170): when each command acts, and what a change of low-power idle
leaves of the MACs.
-/
namespace Sys2Proof.Machine

/-! ## DORMANT_LANE -/

/-- `t` is `s` but for the events' own part. -/
def EvtOnly (s t : State) : Prop := t = { s with evt := t.evt }

theorem EvtOnly.trans {s t u : State} (h : EvtOnly s t) (g : EvtOnly t u) : EvtOnly s u := by
  unfold EvtOnly at *
  rw [h] at g
  exact g

theorem EvtOnly.foldl {β : Type} {g : State → β → State} (hg : ∀ s b, EvtOnly s (g s b)) (l : List β) (s : State) :
    EvtOnly s (l.foldl g s) := by
  induction l generalizing s with
  | nil => rfl
  | cons b t ih => exact (hg s b).trans (ih _)

theorem setSrc_evtOnly (s : State) (n : Nat) (x : Src) : EvtOnly s (s.setSrc n x) := rfl

theorem wakeContext_evtOnly (s : State) (c : Nat) : EvtOnly s (wakeContext s c) :=
  EvtOnly.foldl (fun _ _ => setSrc_evtOnly _ _ _) _ s

/-- The events' own part is written, and a context may then be woken. -/
theorem evtWake_evtOnly (s : State) (e : Evt) (b : Bool) (c : Nat) :
    EvtOnly s (if b then wakeContext { s with evt := e } c else { s with evt := e }) := by
  have he : EvtOnly s { s with evt := e } := rfl
  cases b
  · exact he
  · exact he.trans (wakeContext_evtOnly _ c)

/-- DORMANT_LANE and the offers of contexts that wake lie in the events' own part (R388, R389). -/
theorem refreshDormant_evtOnly (s : State) : EvtOnly s (refreshDormant s) := by
  refine EvtOnly.foldl (fun s c => ?_) _ s
  by_cases hv : (!ctxValid s c) = true
  · rw [if_pos hv]; rfl
  · rw [if_neg hv]
    dsimp only
    split
    · rfl
    · exact evtWake_evtOnly s _ _ c

theorem EvtOnly.macs_eq {s t : State} (h : EvtOnly s t) : t.macs = s.macs := by rw [h]

theorem EvtOnly.time_eq {s t : State} (h : EvtOnly s t) : t.time = s.time := by rw [h]

theorem EvtOnly.regs_eq {s t : State} (h : EvtOnly s t) : t.regs = s.regs := by rw [h]

theorem mac_congr {s t : State} (h : t.macs = s.macs) (q : Nat) : t.mac q = s.mac q := by rw [State.mac, h]; rfl

@[simp] theorem refreshDormant_mac (s : State) (q : Nat) : (refreshDormant s).mac q = s.mac q :=
  mac_congr (refreshDormant_evtOnly s).macs_eq q

@[simp] theorem refreshDormant_time (s : State) : (refreshDormant s).time = s.time := (refreshDormant_evtOnly s).time_eq

@[simp] theorem refreshDormant_regs (s : State) : (refreshDormant s).regs = s.regs := (refreshDormant_evtOnly s).regs_eq

/-! ## MAC counters -/

/-- A fold that gathers a list and whose steps only report only reports. -/
theorem Reports.foldl_snd {α β : Type} {g : α × State → β → α × State} (hg : ∀ a b, Reports a.2 (g a b).2) (l : List β)
    (a : α × State) : Reports a.2 (l.foldl g a).2 := by
  induction l generalizing a with
  | nil => exact .refl _
  | cons b t ih => exact (hg a b).trans (ih _)

/-- Counting at a MAC only reports (R175, R176). -/
theorem macCounts_reports (s : State) (p : Nat) (cs : List (Nat × Nat)) : Reports s (macCounts s p cs) := by
  unfold macCounts
  split
  · exact .refl s
  · dsimp only
    split
    · exact Reports.foldl_snd (by intros; exact setReg_reports _ _ _) cs ([], s)
    · exact ((Reports.foldl_snd (by intros; exact setReg_reports _ _ _) cs ([], s)).trans
        (Reports.foldl _ (fun _ _ => setFlags_reports _ _ _ _ _) _ _)).trans (setFlags_reports _ _ _ _ _)

theorem macCount_reports (s : State) (p n k : Nat) : Reports s (macCount s p n k) := by
  unfold macCount
  split
  · exact .refl s
  · exact macCounts_reports s p _

theorem macCount_mac (s : State) (p n k q : Nat) : (macCount s p n k).mac q = s.mac q :=
  mac_congr (macCount_reports s p n k).macs_eq q

/-! ## Low-power idle -/

variable {s : State} {p : Nat}

/-- An event that may be counted leaves the MACs. -/
theorem macCount_if_mac (s : State) (b : Bool) (p n q : Nat) : (if b then macCount s p n else s).mac q = s.mac q := by
  cases b
  · rfl
  · exact macCount_mac s p n 1 q

/-- A change of low-power idle sets the port's two directions and leaves every other MAC. -/
theorem setLpi_mac (s : State) (p : Nat) (tx rx : Bool) (q : Nat) :
    (setLpi s p tx rx).mac q = if q = p then { s.mac p with txLpi := tx, rxLpi := rx } else s.mac q := by
  unfold setLpi
  dsimp only
  rw [refreshDormant_mac, mac_setMac]
  simp only [macCount_if_mac]

/-- The end of transmit low-power idle is no entry, which would be counted. -/
theorem setLpi_txEnds (s : State) (p : Nat) :
    setLpi s p false (s.mac p).rxLpi = refreshDormant (s.setMac p { s.mac p with txLpi := false }) := by
  simp [setLpi]

/-- Transmit low-power idle ends and TW_TX begins (R127, R169); nothing else of the MAC changes. -/
theorem lpiExit_mac (h : (s.mac p).txLpi = true) : (lpiExit s p).mac p =
    { s.mac p with txLpi := false, txWait := s.time.ticks + 250 * s.rf .MAC_EEE_TW p 0 16 16 } := by
  have hrf : (refreshDormant (s.setMac p { s.mac p with txLpi := false })).rf .MAC_EEE_TW p 0 16 16 = s.rf .MAC_EEE_TW p 0 16 16 := by
    simp only [State.rf, State.reg, refreshDormant_regs]; rfl
  rw [lpiExit, if_pos h, setLpi_txEnds, mac_setMac, if_pos rfl, refreshDormant_mac, mac_setMac, if_pos rfl, refreshDormant_time, hrf]
  rfl

/-- What keeps a port out of low-power idle: a frame of the control engine, one in transmission, or a copy that its drain has begun to
read (R169). -/
theorem txQueued_iff : txQueued s p = true ↔ (s.mac p).ctlq ≠ [] ∨ (s.mac p).tx ≠ none ∨ (s.mac p).txP ≠ none ∨
    ∃ c ∈ s.car.copies, c.port = p ∧ c.issued ≠ 0 ∧ 0 < c.read := by
  simp [txQueued, Option.isSome_iff_ne_none, or_assoc, and_assoc]

/-! ## Verification -/

/-- A timeout of a verification in progress sends another verify, up to the third (R159). -/
theorem verifyTimeout_retries (hv : (s.mac p).ver = .verifying) (h1 : 1 ≤ s.rf .MAC_MM_CFG p 0 16 8)
    (h2 : s.rf .MAC_MM_CFG p 0 16 8 ≤ 128) (ht : (s.mac p).tries < 3) : verifyTimeout s p =
      macCount ((s.setMac p { s.mac p with tries := (s.mac p).tries + 1 }).emit (.mpacket p false)) p 55 := by
  have hrange : ¬ (s.rf .MAC_MM_CFG p 0 16 8 = 0 ∨ s.rf .MAC_MM_CFG p 0 16 8 > 128) := by omega
  rw [verifyTimeout, if_neg (not_not.mpr hv), if_neg hrange, if_pos ht]

/-- After the third attempt a timeout fails the verification and flags it (R159). -/
theorem verifyTimeout_fails (hv : (s.mac p).ver = .verifying) (h1 : 1 ≤ s.rf .MAC_MM_CFG p 0 16 8)
    (h2 : s.rf .MAC_MM_CFG p 0 16 8 ≤ 128) (ht : 3 ≤ (s.mac p).tries) : verifyTimeout s p =
      (s.setMac p { s.mac p with ver := .failed }).setFlags .MAC_STATUS p 0 8 := by
  have hrange : ¬ (s.rf .MAC_MM_CFG p 0 16 8 = 0 ∨ s.rf .MAC_MM_CFG p 0 16 8 > 128) := by omega
  rw [verifyTimeout, if_neg (not_not.mpr hv), if_neg hrange, if_neg (Nat.not_lt.mpr ht)]

/-- Settles O37: each command by its condition, and what a change of low-power idle does to the MACs. -/
theorem verificationAndLpi : Obligations.VerificationAndLpi := by
  unfold Obligations.VerificationAndLpi
  refine ⟨fun s p hp hl => commit_eq (if_pos (by rw [hp, hl]; rfl)), fun s p hv => ⟨commit_eq (if_pos hv), fun h1 h2 => ⟨fun ht =>
      commit_eq (verifyTimeout_retries hv h1 h2 ht), fun ht => commit_eq (verifyTimeout_fails hv h1 h2 ht)⟩⟩,
    fun s p hv => ⟨commit_eq (if_neg hv), commit_eq (if_pos hv)⟩,
    fun s p he htx hq => commit_eq (if_pos (by rw [he, htx, hq]; rfl)),
    fun s p htx hq => ⟨commit_eq (congrArg (fun t => ctlFlush t p) (if_pos hq)), lpiExit_mac htx⟩, fun s p => txQueued_iff,
    fun s p lpi he => commit_eq (if_neg (by rw [he]; exact Bool.false_ne_true)), fun s p tx rx => ?_⟩
  have hsame := setLpi_mac s p tx rx p
  rw [if_pos rfl] at hsame
  exact ⟨by rw [hsame], by rw [hsame], by rw [hsame], fun q hq => (setLpi_mac s p tx rx q).trans (if_neg hq)⟩

end Sys2Proof.Machine
end

section
/-!
SUPPORT. A copy's transmission: its start (R156, R160, R250, R257), its preemption (R160 to R162, R270) and its end (R250, R263, R427,
R431), and the control engine's frames that wait for the end (R23).
-/
namespace Sys2Proof.Machine

variable {s : State} {p half sent : Nat} {c : CCopy} {f : CFrame}

/-! ## Start -/

theorem modFrm_found {id : Nat} (h : s.frm id = some f) (g : CFrame → CFrame) : s.modFrm id g = s.setFrm id (g f) := by
  simp only [State.modFrm, h]

/-- The state in which a beginning copy's corrections and notes are done (R250): the copy and its frame are marked begun, and the express
or the preemptable half of a MAC holds the copy. -/
def begunCopy (s : State) (p half : Nat) (f : CFrame) (c : CCopy) : State :=
  let u := (s.modCpy (fun x => x.id == c.id) (fun x => { x with
    begun := true, beg := s.monoPs, tsTx := txStamp s p half, maxLen := some (macMaxLen s p) })).setFrm c.frame { f with anyBegun := true }
  if 130 ≤ p then u else u.setMac p (if c.express then { s.mac p with tx := some c.id } else { s.mac p with txP := some c.id })

theorem beginCopy_found (h : s.frm c.frame = some f) :
    beginCopy s p half f c = noteTx (tcCorrect (begunCopy s p half f c) f c (txStamp s p half)) f c (txStamp s p half) := by
  have hframe (g : CCopy → CCopy) (k : CFrame → CFrame) : (s.modCpy (fun x => x.id == c.id) g).modFrm c.frame k =
      (s.modCpy (fun x => x.id == c.id) g).setFrm c.frame (k f) := modFrm_found (s := s.modCpy _ g) h k
  simp only [beginCopy, hframe]
  rfl

/-- A frame that no port received is not corrected (R318), and a copy without a note has nothing noted. -/
theorem noteTx_tcCorrect_eq_self (hsrc : 133 ≤ f.src) (hnote : c.note = .none) (ts : Nat) : noteTx (tcCorrect s f c ts) f c ts = s := by
  have hcorrect : tcCorrect s f c ts = s := if_pos (by simp [hsrc])
  rw [hcorrect]
  simp only [noteTx, hnote]

theorem transmitStart_notReady (h : txReady s p = false) : transmitStart s p half = s := if_pos (by rw [h]; rfl)

section
variable (hready : txReady s p = true) (hport : p < 130 ∨ 133 ≤ p) (hpick : startPick s p = some c)
include hready hport hpick

/-- A suspended copy that is picked resumes (R160, R162). -/
theorem transmitStart_resumes (hsusp : c.susp = true) : transmitStart s p half = macCount
    (s.modCpy (fun x => x.id == c.id) (fun x => { x with susp := false, beg := s.monoPs, zeros := x.endBad })) p 48 := by
  have hmac : ¬ (130 ≤ p ∧ p < 133) := by omega
  simp [transmitStart, hready, hmac, hpick, hsusp]

/-- Any other copy that is picked begins (R250, R257). -/
theorem transmitStart_begins (hsusp : c.susp = false) (hfrm : s.frm c.frame = some f) :
    transmitStart s p half = beginCopy s p half f c := by
  have hmac : ¬ (130 ≤ p ∧ p < 133) := by omega
  simp [transmitStart, hready, hmac, hpick, hsusp, hfrm]

end

section
variable {l ch : Nat} (hl : l < 3) (hready : txReady s (130 + l) = true)
  (hfind : s.car.copies.find? (fun c => c.port == 130 + l && mayBegin s c) = some c) (hchan : freeChan s l = some ch)
  (hfrm : s.frm c.frame = some f)
include hl hready hfind hchan hfrm

/-- Without a data credit of the link nothing begins (R428). -/
theorem transmitStart_stitch_waits (hcredit : dataCredit s l = 0) : transmitStart s (130 + l) half = s := by
  have hport : 130 ≤ 130 + l ∧ 130 + l < 133 := by omega
  simp [transmitStart, hready, hport, hfind, hchan, hfrm, hcredit]

/-- With a credit, and the first cell or the whole frame there, the copy begins and its first segment leaves (R427; log entry 37). -/
theorem transmitStart_stitch_begins {f' : CFrame} {c' : CCopy} (hcredit : 0 < dataCredit s l)
    (hread : 129 ≤ c.read ∨ (f.ended = true ∧ f.bytes.length ≤ c.read))
    (hfrm' : (beginCopy s (130 + l) half f c).frm c.frame = some f') (hcpy' : (beginCopy s (130 + l) half f c).cpy c.id = some c') :
    transmitStart s (130 + l) half = segFirst (beginCopy s (130 + l) half f c) l ch f' c' := by
  have hport : 130 ≤ 130 + l ∧ 130 + l < 133 := by omega
  simp [transmitStart, hready, hport, hfind, hchan, hfrm, hcredit, hread, hfrm', hcpy']

end

/-- A copy may begin when it has been handed over, its ball time comes before the next tick, and its way out serves it (R257; log entry
105). -/
theorem mayBegin_iff : mayBegin s c = true ↔ handed c = true ∧ c.ball < s.monoPs + 4000 ∧ pathServes s c = true := by
  simp [mayBegin, and_assoc]

/-! ## Preemption -/

section
variable {id : Nat} (htx : (s.mac p).txP = some id) (hcpy : s.cpy id = some c) (hfrm : s.frm c.frame = some f)
include htx hcpy hfrm

/-- The preemptable frame in progress ends its fragment where there is a cause and both parts are long enough (R160, R162, R270). -/
theorem preempt_cuts (hsusp : c.susp = false) (hgood : c.endBad = false)
    (hcause : (s.sch p).hold = true ∨ (gatesNow s p).testBit c.queue = false ∨
      ∃ x ∈ s.car.copies, x.port = p ∧ handed x = true ∧ x.express = true)
    (hfirst : 64 * (1 + addFrag s p) ≤ sent + 4) (hrest : c.sent + sent + 64 ≤ (sentBytes s f c).length + (if f.ended then 4 else 0)) :
    preempt s p sent = (s.modCpy (fun x => x.id == c.id) (fun x =>
      { x with susp := true, sent := x.sent + sent, preempts := x.preempts + 1 })).emit
        (fragOut p c (((sentBytes s f c).drop c.sent).take sent) false) := by
  have hcut : ((s.sch p).hold || s.car.copies.any (fun x => x.port == p && handed x && x.express) ||
      !(gatesNow s p).testBit c.queue) = true := by
    rcases hcause with h | h | ⟨x, hx, hxp, hxh, hxe⟩
    · rw [h]; rfl
    · rw [h]; simp
    · have hany : s.car.copies.any (fun x => x.port == p && handed x && x.express) = true :=
        List.any_eq_true.mpr ⟨x, hx, by simp [hxp, hxh, hxe]⟩
      rw [hany]; simp
  simp only [preempt, htx, Option.bind_some, hcpy, hfrm, hcut, hsusp, hgood]
  exact if_neg (by simp [hfirst, hrest])

/-- It goes on where either part would be too short (R160). -/
theorem preempt_short (h : sent + 4 < 64 * (1 + addFrag s p) ∨
    (sentBytes s f c).length + (if f.ended then 4 else 0) < c.sent + sent + 64) : preempt s p sent = s := by
  have hpart : (decide (sent + 4 ≥ 64 * (1 + addFrag s p)) &&
      decide (c.sent + sent + 64 ≤ (sentBytes s f c).length + (if f.ended then 4 else 0))) = false := by
    rcases h with h | h
    · rw [decide_eq_false (Nat.not_le.mpr h), Bool.false_and]
    · rw [decide_eq_false (Nat.not_le.mpr h), Bool.and_false]
  simp only [preempt, htx, Option.bind_some, hcpy, hfrm, hpart]
  exact if_pos (by simp)

end

/-! ## End -/

/-- A MAC ends the copy that its express half holds. -/
theorem endPick_tx {id : Nat} (hp : p < 130) (htx : (s.mac p).tx = some id) (hcpy : s.cpy id = some c) : endPick s p = some c := by
  simp [endPick, hp, htx, hcpy]

/-- The last fragment of a copy that was preempted is a continuation (R160). -/
theorem lastFragment_eq (s : State) (p : Nat) (c : CCopy) (b : Bytes) :
    (if c.preempts = 0 then s else macCount (s.emit (fragOut p c b true)) p 54) =
      if c.preempts = 0 then s else macCount (s.emit (.fragment p true ((c.preempts + 3) % 4) b true)) p 54 := by
  by_cases h : c.preempts = 0
  · rw [if_pos h, if_pos h]
  · rw [if_neg h, if_neg h, fragOut, bne_iff_ne.mpr h]

section
variable (hp : p < 130) (hpick : endPick s p = some c) (hfrm : s.frm c.frame = some f)
include hp hpick hfrm

/-- A good copy that has been read to its end, and that no edit of a cut-through frame has made too long (R200), leaves a MAC whole
(R263). -/
theorem transmitEnd_good (hgood : c.endBad = false) (hended : f.ended = true) (hread : f.bytes.length ≤ c.read)
    (hlen : c.cut = false ∨ overLong s f c = false) :
    let w := if p = 128 ∨ p = 129 then arrivalFrame s f c else sentBytes s f c ++ fcsBytes (sentBytes s f c)
    let u := if c.preempts = 0 then s
      else macCount (s.emit (.fragment p true ((c.preempts + 3) % 4) (w.drop c.sent) true)) p 54
    transmitEnd s p sent = copyLeaves (overrun (schCharge ((countTxGood u p w).emit (.frame p w)) p c.queue w.length) p c) p c := by
  have hport : ¬ (130 ≤ p ∧ p < 133) := by omega
  have hservice : p ≠ 133 := by omega
  have hfits : (!c.cut || !overLong s f c) = true := by rcases hlen with h | h <;> rw [h] <;> simp
  have hend : transmitEnd s p sent = endGood s p f c := by
    simp [transmitEnd, hpick, hfrm, hport, hgood, hended, hread, hfits]
  rw [hend]
  simp only [endGood, lastFragment_eq, if_neg hservice]
  rfl

/-- A copy found bad leaves a MAC with the inverted FCS of the bytes sent (R250). -/
theorem transmitEnd_bad (hbad : c.endBad = true) :
    let b := (macBytes s f c).take c.sent ++ pad60 (if c.zeros then [] else ((macBytes s f c).drop c.sent).take sent)
    let w := b ++ (fcsBytes b).map (fun x => ~~~ x)
    let u := countTxAll (macCount s p 41) p w.length
    let v := if c.preempts = 0 then u
      else macCount (u.emit (.fragment p true ((c.preempts + 3) % 4) (w.drop c.sent) true)) p 54
    let x := occ v (portBlock p) 0x15 (portSub p)
    transmitEnd s p sent = copyLeaves (overrun (schCharge (x.emit (.badFrame p w)) p c.queue w.length) p c) p c := by
  have hport : ¬ (130 ≤ p ∧ p < 133) := by omega
  have hend : transmitEnd s p sent = endTail s p f c sent := by
    simp [transmitEnd, hpick, hfrm, hport, hbad]
  rw [hend]
  simp only [endTail, lastFragment_eq, if_pos hp]

/-- A good copy whose end has not been read goes on. -/
theorem transmitEnd_unread (hgood : c.endBad = false) (h : f.ended = false ∨ c.read < f.bytes.length) : transmitEnd s p sent = s := by
  have hport : ¬ (130 ≤ p ∧ p < 133) := by omega
  have hread : ¬ (f.ended = true ∧ f.bytes.length ≤ c.read) := by
    rintro ⟨hended, hread⟩
    rcases h with h | h
    · rw [h] at hended; cases hended
    · omega
  simp [transmitEnd, hpick, hfrm, hport, hgood, hread]

end

/-- A copy found bad ends on its stitch link with the bad-end indication, and its channel is free (R427, R431). -/
theorem transmitEnd_stitch_bad {l ch : Nat} (hl : l < 3) (hpick : endPick s (130 + l) = some c) (hfrm : s.frm c.frame = some f)
    (hchan : (s.link l).tx.find? (fun t => t.2 == c.id) = some (ch, c.id)) (hbad : c.endBad = true) :
    let n := min (stitchBytes s f c).length 128
    let u := sendSeg s l (segWord ch false true true 0) []
    let v := u.setLink l { u.link l with tx := mdel (u.link l).tx ch }
    transmitEnd s (130 + l) sent = copyLeaves
      (overrun (schCharge (countTxAll (macCount v (130 + l) 41) (130 + l) n) (130 + l) c.queue n) (130 + l) c) (130 + l) c := by
  have hport : 130 ≤ 130 + l ∧ 130 + l < 133 := by omega
  simp [transmitEnd, hpick, hfrm, hport, endStitch, hchan, hbad]

/-! ## The control engine's frames -/

/-- A frame of the control engine that waited for the MAC leaves (R23, R169). -/
theorem ctlFlush_one {m : Bytes × Option (Nat × Nat)} (hfree : ctlBusy s p = false) (hq : (s.mac p).ctlq = [m])
    (hpulse : (s.mac p).ownPulse = false) :
    ctlFlush s p = testFlush (ctlSend (s.setMac p { s.mac p with ctlq := [], ownPulse := false }) p m) := by
  simp [ctlFlush, hfree, hq, hpulse]

/-- With a frame in transmission, or with none that waits, nothing of the control engine leaves. -/
theorem ctlFlush_rests (h : (s.mac p).tx ≠ none ∨ (s.mac p).ctlq = []) : ctlFlush s p = s := by
  refine if_pos ?_
  rcases h with h | h
  · simp [ctlBusy, Option.isSome_iff_ne_none.mpr h]
  · simp [h]

/-- The answer of TRANSMIT_END rests on what ends; the control engine's frames then leave. -/
theorem exec_transmitEnd {t : State} (h : transmitEnd s p sent = t) :
    exec (.transmitEnd p sent) s = .next (levelRefresh (ctlFlush t p)) := commit_eq (congrArg (fun t => ctlFlush t p) h)

/-- Settles O42: the start by what is picked, the preemption by its cause and its parts, the end by how the copy stands, on a MAC and on
a stitch link. -/
theorem transmission : Obligations.Transmission := by
  unfold Obligations.Transmission
  refine ⟨fun s p half h => commit_eq (transmitStart_notReady h), fun s p half c hready hport hpick => ⟨fun hsusp =>
      commit_eq (transmitStart_resumes hready hport hpick hsusp), fun f hsusp hfrm => ⟨commit_eq
      ((transmitStart_begins hready hport hpick hsusp hfrm).trans (beginCopy_found hfrm)),
      fun hsrc hnote => noteTx_tcCorrect_eq_self hsrc hnote _⟩⟩,
    fun s p sent id c f htx hcpy hfrm hsusp hgood => ⟨fun hcause hfirst hrest =>
      commit_eq (preempt_cuts htx hcpy hfrm hsusp hgood hcause hfirst hrest), fun h => commit_eq (preempt_short htx hcpy hfrm h)⟩,
    fun s p sent id c f hp htx hcpy hfrm => ?_,
    fun s l half ch c f hl hready hfind hchan hfrm => ⟨fun hcredit =>
      commit_eq (transmitStart_stitch_waits hl hready hfind hchan hfrm hcredit), fun f' c' hcredit hread hfrm' hcpy' =>
      commit_eq (transmitStart_stitch_begins hl hready hfind hchan hfrm hcredit hread hfrm' hcpy')⟩,
    fun s c => mayBegin_iff,
    fun s l sent ch c f hl hpick hfrm hchan hbad => exec_transmitEnd (transmitEnd_stitch_bad hl hpick hfrm hchan hbad)⟩
  have hpick := endPick_tx hp htx hcpy
  refine ⟨fun hgood hended hread hlen => exec_transmitEnd (transmitEnd_good hp hpick hfrm hgood hended hread hlen),
    fun hbad => exec_transmitEnd (transmitEnd_bad hp hpick hfrm hbad), fun hgood h => ?_,
    fun t => ⟨fun hfree m hq hpulse => ctlFlush_one hfree hq hpulse, ctlFlush_rests⟩⟩
  have hbusy : (s.mac p).tx ≠ none := by rw [htx]; exact Option.some_ne_none id
  rw [exec_transmitEnd (transmitEnd_unread hp hpick hfrm hgood h), ctlFlush_rests (.inl hbusy)]

end Sys2Proof.Machine
end

section
/-!
SUPPORT. The table command NEXT (R201, R210): a word of the table memory beyond the overflow store.
-/
namespace Sys2Proof.Machine

/-- NEXT answers with the entry at which its search ends, where that is no policer and its parity is good (R210, R211). -/
theorem tableExec_next_found {u : State} {who : Who} {r i j : Nat} (n : Nat) (hr : r ≤ 12) (h7 : r ≠ 7) (hi : i < regionSize u r)
    (hfound : nextAt u r i = some j) :
    let v := sparAt u r j
    parOk r (entryAt v r j) = true →
    tableExec u who 6 r i n = ({ code := 0, index := j, off := 0 }, setBuf v who.ctx 0 (entryAt v r j)) := by
  intro v hpar
  have hop : opRegion 6 r = true := by simp [opRegion, hr]
  simp [tableExec, hop, hfound, h7, Nat.ne_of_gt (Nat.zero_lt_of_lt hi), Nat.not_le.mpr hi, hpar, v]

/-- A device in service with the forwarding database's overflow store awake. The table memory lists one word, V and PAR of the place that
an overflow entry 2,048 would have; the store ends with entry 2,047 (R201). -/
def wordBeyondOverflow : State := { State.reset.wr .CTL_CTX_CFG 0 0 0x80000000 with
  boot := { State.reset.boot with st := .running }
  hot := { State.reset.hot with doms := mins State.reset.hot.doms 202 { st := .on } }
  tbl := { State.reset.tbl with mem := [(6291456 + 4 * 2048 + 2, 0xA0000000)] } }

/-- The last entry of the forwarding database is invalid, with a good parity. -/
theorem wordBeyondOverflow_last_invalid (j : Nat) (hlo : 264191 ≤ j) (hhi : j < regionSize wordBeyondOverflow 0) :
    isValid 0 (entryAt wordBeyondOverflow 0 j) = false ∧ parOk 0 (entryAt wordBeyondOverflow 0 j) = true := by
  have hsize : regionSize wordBeyondOverflow 0 = 264192 := rfl
  obtain rfl : j = 264191 := by omega
  decide +kernel

/-- `wordBeyondOverflow` as NEXT from the last entry of the forwarding database begins. -/
def lastNextBegun : State := tableBegun wordBeyondOverflow ⟨0, false⟩ 6 0 264191 []

/-- `lastNextBegun` with the entry beyond the overflow store brought into the buffer. -/
def lastNextRead : State := setBuf (sparAt lastNextBegun 0 264192) 0 0 (entryAt (sparAt lastNextBegun 0 264192) 0 264192)

/-- From the last entry NEXT goes on to the place beyond the overflow store, which holds a valid entry, and answers OK. -/
theorem exec_tableNext_wordBeyondOverflow :
    exec (.tableNext ⟨0, false⟩ 0 264191 []) wordBeyondOverflow =
      .next (tableAnswered lastNextRead ⟨0, false⟩ 0 264192 0 16) := by
  have hfound : nextAt lastNextBegun 0 264191 = some 264192 := by decide +kernel
  exact tableRow_answered (by decide +kernel) (by decide) (by decide) (by decide +kernel) (by decide) (by decide) (by decide)
    (by decide +kernel) (tableExec_next_found 0 (by decide) (by decide) (by decide +kernel) hfound (by decide +kernel))

/-- Refutes O44: in the forwarding database NEXT does not end its search with the region. `nextAt` takes up every listed word from the
overflow store on, and no hypothesis bounds the words that the memory lists: from the last entry, which is invalid, the search goes on to
the valid entry at index 264,192 and answers CODE 0, where the statement has CODE 1. -/
theorem not_tableSearches : ¬ Obligations.TableSearches := by
  unfold Obligations.TableSearches
  rintro ⟨_, hnext, _⟩
  obtain ⟨_, hnone⟩ := hnext wordBeyondOverflow ⟨0, false⟩ 0 264191 [] (by decide +kernel) (by decide +kernel) (by decide) (by decide)
    (by decide +kernel) (by decide +kernel) (by decide) (by decide +kernel) (by decide +kernel)
  have hclaimed : exec (.tableNext ⟨0, false⟩ 0 264191 []) wordBeyondOverflow = .next (tableAnswered lastNextBegun ⟨0, false⟩ 1 0 0 16) :=
    hnone (by decide) wordBeyondOverflow_last_invalid
  have hres := congrArg (fun t => mget 0 t.tbl.res 0) (Host.Outcome.next.inj (exec_tableNext_wordBeyondOverflow.symm.trans hclaimed))
  have hmodel : mget 0 (tableAnswered lastNextRead ⟨0, false⟩ 0 264192 0 16).tbl.res 0 = put 0 19 264192 := by decide +kernel
  have hclaim : mget 0 (tableAnswered lastNextBegun ⟨0, false⟩ 1 0 0 16).tbl.res 0 = put 28 4 1 := by decide +kernel
  exact absurd (hmodel.symm.trans (hres.trans hclaim)) (by decide)

end Sys2Proof.Machine
end

section
/-!
SUPPORT. The learning engine's search (R206, R215): what a request for an unknown station meets on the way.
-/
namespace Sys2Proof.Machine

section
variable {s : State} {q : LearnReq}

/-- An open learning engine whose banks are awake handles its oldest request (R118, R214). -/
theorem learnCommit_takes {l : List LearnReq} (hopen : closed s 20 = false) (hqueue : s.tbl.queue = q :: l)
    (hbanks : ∀ i ∈ [(bucketOf s 0 (fdbKey q.fid q.mac)).headD 0, 262144], fdbAwake s i = true) :
    learnCommit s = learnOne { s with tbl := { s.tbl with queue := l } } q := by
  have hall : ((bucketOf s 0 (fdbKey q.fid q.mac)).headD 0 :: [262144]).all (fdbAwake s) = true := List.all_eq_true.mpr hbanks
  simp only [learnCommit, hopen, hqueue, hall, Bool.false_eq_true, if_false, if_true]

/-- A refresh of a station that has no entry any more leaves what its search made of the entries that it met (R206, R215). -/
theorem learnOne_refresh_unknown (hlearn : tst (s.rw .FDB_CFG) 31 = true) (hguard : s.roast.guardRegions.testBit 0 = false)
    (hnone : (findKey s 0 (fdbKey q.fid q.mac)).1 = none) (hrefresh : q.refresh = true) :
    learnOne s q = searchMet s 8 0 (fdbKey q.fid q.mac) := by
  simp [learnOne, hlearn, hguard, hnone, hrefresh]

end

/-- Station 7's refresh, which came too late: its entry has been aged. -/
def lateRefresh : LearnReq := ⟨0, 7, 4, true, false⟩

/-- A device in service, learning on, that takes `lateRefresh`. The forwarding database holds station 9 alone, in the overflow store, with
good parity but a word 3 whose SPAR is wrong. -/
def sparErrorInOverflow : State := { State.reset.wr .FDB_CFG 0 0 0x80000000 with
  boot := { State.reset.boot with st := .running }
  hot := { State.reset.hot with doms := (List.range 16).map (fun b => (202 + b, { st := .on })) }
  tbl := { State.reset.tbl with queue := [lateRefresh], mem := [(6291457, 9), (6291458, 0xA0004004), (6291459, 1)] } }

/-- `sparErrorInOverflow` with its request taken. -/
def sparErrorTaken : State := { sparErrorInOverflow with tbl := { sparErrorInOverflow.tbl with queue := [] } }

/-- Station 9's entry is valid and its parity good, but not its SPAR (R205); the search for station 7 counts that (R206). -/
theorem searchMet_counts_sparError :
    let e := entryAt sparErrorTaken 0 262144
    (isValid 0 e = true ∧ parOk 0 e = true ∧ entryKey 0 e = fdbKey 0 9 ∧ oddOnes [e.getD 3 0] = true) ∧
    (levelRefresh (searchMet sparErrorTaken 8 0 (fdbKey 0 7))).rw .FDB_PARITY = 1 ∧
    (levelRefresh sparErrorTaken).rw .FDB_PARITY = 0 := by decide +kernel

/-- Refutes O45: a request for an unknown station can do more than its row says. Its search meets every entry at the key's places, and one
with a bad SPAR is counted in FDB_PARITY and its word 3 rewritten (R206); the statement excludes entries with bad parity there, but not
those with a bad SPAR. -/
theorem not_learningAgingAndFlushing : ¬ Obligations.LearningAgingAndFlushing := by
  unfold Obligations.LearningAgingAndFlushing
  rintro ⟨_, _, htaken, _⟩
  have hopen : closed sparErrorInOverflow 20 = false := by decide +kernel
  have hbanks : ∀ i ∈ [(bucketOf sparErrorInOverflow 0 (fdbKey 0 7)).headD 0, 262144], fdbAwake sparErrorInOverflow i = true := by
    decide +kernel
  have hlearn : tst (sparErrorInOverflow.rw .FDB_CFG) 31 = true := by decide +kernel
  have hnone : findKey sparErrorTaken 0 (fdbKey 0 7) = (none, []) := by decide +kernel
  obtain ⟨_, _, hsearched⟩ := htaken sparErrorInOverflow lateRefresh [] hopen rfl hbanks
  obtain ⟨hrefreshed, _⟩ := hsearched hlearn (by decide)
  have hclaim : exec .learnCommit sparErrorInOverflow = .next (levelRefresh sparErrorTaken) := hrefreshed hnone rfl
  have hmodel : exec .learnCommit sparErrorInOverflow = .next (levelRefresh (searchMet sparErrorTaken 8 0 (fdbKey 0 7))) :=
    commit_eq ((learnCommit_takes hopen rfl hbanks).trans
      (learnOne_refresh_unknown (s := sparErrorTaken) (q := lateRefresh) hlearn (by decide) (congrArg Prod.fst hnone) rfl))
  have hcount := congrArg (fun t => t.rw .FDB_PARITY) (Host.Outcome.next.inj (hmodel.symm.trans hclaim))
  obtain ⟨_, hone, hzero⟩ := searchMet_counts_sparError
  exact absurd (hone.symm.trans (hcount.trans hzero)) (by decide)

end Sys2Proof.Machine
end

section
/-!
SUPPORT. Learn notices (R224, R433): what becomes of them on a link without message credit.
-/
namespace Sys2Proof.Machine

/-- What `act` does with a domain that the host has not left asleep is what it does. -/
theorem leftMaybe_awake {s : State} {d : Nat} (act : State → State) (h : leftAsleep s d = false) : leftMaybe s d act = act s := by
  simp [leftMaybe, h]

/-- Notices that find no stitch credit are discarded and counted, one by one (R224). -/
theorem learnMessageDue_noCredit {s : State} {l : Nat} (hl : l ≤ 2) (hn : (s.link l).notices ≠ []) (hcredit : msgCredit s l = 0) :
    learnMessageDue s l = ((s.link l).notices.take 8).foldl (fun s _ => (s.bump .FDB_NOTICE_DROP).setFlags .FDB_STATUS 0 0 32)
      (s.setLink l { s.link l with notices := (s.link l).notices.drop 8 }) := by
  simp [learnMessageDue, hn, hcredit, Nat.not_lt.mpr hl]

/-- A device in service whose link S0 is up, its 16 message credits spent, with a notice of station 7 gathered for it. -/
def noticeWithoutCredit : State := { State.reset.setLink 0 { up := true, msgSent := 16, notices := [(0, 7, 4)] } with
  boot := { State.reset.boot with st := .running }
  hot := { State.reset.hot with doms := [(224, { st := .on })] } }

/-- Refutes O59: a LEARN message that falls due is not always queued. On a link that has no message credit left the notices are discarded
and counted in FDB_NOTICE_DROP (R224), where the statement queues them. -/
theorem not_stitchLinks : ¬ Obligations.StitchLinks := by
  unfold Obligations.StitchLinks
  rintro ⟨_, _, _, _, _, hdue, _⟩
  have hgathered : (noticeWithoutCredit.link 0).notices ≠ [] := by decide +kernel
  have hawake : leftAsleep noticeWithoutCredit 224 = false := by decide +kernel
  have hmodel : exec (.learnMessageDue 0) noticeWithoutCredit = .next (levelRefresh
      (((noticeWithoutCredit.setLink 0 { up := true, msgSent := 16 }).bump .FDB_NOTICE_DROP).setFlags .FDB_STATUS 0 0 32)) :=
    commit_eq ((leftMaybe_awake _ hawake).trans (learnMessageDue_noCredit (by decide) hgathered (by decide +kernel)))
  have hclaim := hdue noticeWithoutCredit 0 (by decide) hgathered
  have hcount := congrArg (fun t => t.rw .FDB_NOTICE_DROP) (Host.Outcome.next.inj (hmodel.symm.trans hclaim))
  have hdropped : (levelRefresh (((noticeWithoutCredit.setLink 0 { up := true, msgSent := 16 }).bump .FDB_NOTICE_DROP).setFlags
      .FDB_STATUS 0 0 32)).rw .FDB_NOTICE_DROP = 1 := by decide +kernel
  exact absurd (hdropped.symm.trans hcount) (by decide +kernel)

end Sys2Proof.Machine
end

section
/-!
SUPPORT. FENCE_COMPLETE (R38, R53): a request that nothing holds any more executes when a fence completes, whatever its context.
-/
namespace Sys2Proof.Machine

/-- A first fence that is a single operation and whose frames are gone is removed and answers OK; then what it held executes. -/
theorem fenceComplete_single {s : State} {w : Fence} {l : List Fence} (hfirst : s.ctl.fences = w :: l) (hsingle : w.req = none)
    (hgone : ∀ i ∈ w.waits, frameInside s i = false) :
    fenceComplete s w.ctx = heldRun s.ctl.held.length (setRes { s with ctl := { s.ctl with fences := l } } stOk 0 []) := by
  have hfind : s.ctl.fences.find? (fun x => x.ctx == w.ctx && x.waits.all (fun i => !frameInside s i)) = some w := by
    rw [hfirst]; exact List.find?_cons_of_pos (by simpa using hgone)
  have herase : s.ctl.fences.erase w = l := by rw [hfirst, List.erase_cons_head]
  simp only [fenceComplete, hfind, hsingle, herase]
  rfl

/-- A device in service in which a fence of context 0 waits for no frame, and a request of context 1 stands in B10, which has no fence
and for which no table command waits. -/
def requestUnfenced : State := { State.reset with
  boot := { State.reset.boot with st := .running }
  ctl := { fences := [⟨0, [], none⟩], held := [(1, 0, [])] } }

/-- Refutes O21: FENCE_COMPLETE of a context with no request of its own behind the fence can do more than remove the fence. A request
of another context that stands in B10, with no fence of its context and no table command waiting, executes then (R38). The statement
leaves it standing, and does not assume that every request in B10 has one of these to wait for. -/
theorem not_latchedReadsAndFences : ¬ Obligations.LatchedReadsAndFences := by
  unfold Obligations.LatchedReadsAndFences
  rintro ⟨_, _, _, hcomplete, _⟩
  have hgone : ∀ i ∈ (⟨0, [], none⟩ : Fence).waits, frameInside requestUnfenced i = false := by simp
  have hclaim := hcomplete requestUnfenced 0 ⟨0, [], none⟩ [] rfl rfl rfl hgone (by decide)
  have hmodel : exec (.fenceComplete 0) requestUnfenced = .next (levelRefresh (heldRun 1
      (setRes { requestUnfenced with ctl := { requestUnfenced.ctl with fences := [] } } stOk 0 []))) :=
    commit_eq (fenceComplete_single rfl rfl hgone)
  have hheld := congrArg (fun t => t.ctl.held) (Host.Outcome.next.inj (hmodel.symm.trans hclaim))
  simp only [levelRefresh_ctl] at hheld
  have hran : (heldRun 1 (setRes { requestUnfenced with ctl := { requestUnfenced.ctl with fences := [] } } stOk 0 [])).ctl.held = [] := by
    decide +kernel
  exact absurd (hran.symm.trans hheld) (by decide)

end Sys2Proof.Machine
end

section
/-!
SUPPORT. The tick of the Timekeeper (R306): a frame of the control engine whose wait for TW_TX it ends leaves with it (R169).
-/
namespace Sys2Proof.Machine

/-- A device whose time PLL runs, one tick before the end of H0's wait for TW_TX, with a frame of the control engine that waits for
that. -/
def lastTickOfWait : State := { State.reset.setMac 128 { txWait := 8, ctlq := [(List.replicate 64 0, none)] } with
  boot := { State.reset.boot with st := .running }
  time := { pllLost := false, begun := true, ticks := 7 } }

/-- Refutes O48: a tick at which no step waits can do more than count and advance the time. It ends the wait of a host port for TW_TX
after low-power idle, and the frames of the control engine that waited there leave (R169), where the statement keeps them. -/
theorem not_timekeeperAndSteps : ¬ Obligations.TimekeeperAndSteps := by
  unfold Obligations.TimekeeperAndSteps
  rintro ⟨_, htick, _⟩
  obtain ⟨hplain, _⟩ := htick lastTickOfWait rfl
  have hclaim := hplain rfl rfl
  have hmodel : exec .timekeeperTick lastTickOfWait =
      .next (levelRefresh (ctlFlush (ctlFlush (timekeeperTick lastTickOfWait) 128) 129)) := rfl
  have hqueue := congrArg (fun t => (t.mac 128).ctlq) (Host.Outcome.next.inj (hmodel.symm.trans hclaim))
  simp only [mac_congr (levelRefresh_macs _)] at hqueue
  have hleft : ((ctlFlush (ctlFlush (timekeeperTick lastTickOfWait) 128) 129).mac 128).ctlq = [] := by decide +kernel
  exact absurd (hleft.symm.trans hqueue) (by decide +kernel)

end Sys2Proof.Machine
end

section
/-!
SUPPORT. Domains that the host leaves asleep (R120; log entry 81): a command whose effect relies on one draws a free value, which
says whether the effect takes place.
-/
namespace Sys2Proof.Machine

/-- The state on which an effect acts that takes place although the host has left its domain `d` asleep: the free value is drawn, and
the domain serves for this one effect. -/
def lentAwake (s : State) (d : Nat) : State := s.drawn.setDom d { s.dom d with st := .on }

/-- What an effect does that relies on a domain left asleep. -/
theorem leftMaybe_asleep {s : State} {d : Nat} (act : State → State) (h : leftAsleep s d = true) :
    leftMaybe s d act = if s.free % 2 = 0 then s.drawn else (act (lentAwake s d)).setDom d (s.dom d) := by
  simp only [leftMaybe, h]; rfl

/-- An effect that draws no free value of its own leaves one drawn where its domain is left asleep, whichever way that falls. -/
theorem leftMaybe_draws {s : State} {d : Nat} {act : State → State} (h : leftAsleep s d = true)
    (hact : (act (lentAwake s d)).freeCtr = (lentAwake s d).freeCtr) : (leftMaybe s d act).freeCtr = s.freeCtr + 1 := by
  rw [leftMaybe_asleep act h]
  split
  · rfl
  · exact hact

/-- A command that relies on a domain left asleep does not leave the state as it was, also where its effect would. -/
theorem commit_leftMaybe_ne {s : State} {d : Nat} {act : State → State} (h : leftAsleep s d = true)
    (hact : (act (lentAwake s d)).freeCtr = (lentAwake s d).freeCtr) : commit (leftMaybe s d act) ≠ .next (levelRefresh s) := by
  intro heq
  have hctr := congrArg State.freeCtr (Host.Outcome.next.inj heq)
  rw [levelRefresh_freeCtr, levelRefresh_freeCtr, leftMaybe_draws h hact] at hctr
  exact Nat.succ_ne_self _ hctr

/-- A device in service whose domains are all OFF by mode: 220 of the PTP engine and 234 of time I/O among them. -/
def leftOff : State := { State.reset with boot := { State.reset.boot with st := .running } }

/-- The same with port 4 as the servo's parent in PTP domain 0. -/
def parentLeftOff : State := leftOff.wr .TK_SERVO_SRC 0 0 0x40000004

/-- Refutes O49: SYNC_LOST can do more than nothing while the engine does not run. With a parent selected and the engine's domain 220
left asleep by the host, what the command does is unpredictable (R120): it draws a free value and, as that falls, flags the loss,
where the statement says that the state stays. -/
theorem not_ptpMessagesReceived : ¬ Obligations.PtpMessagesReceived := by
  unfold Obligations.PtpMessagesReceived
  rintro ⟨_, _, _, hstopped⟩
  obtain ⟨hclaim, _⟩ := hstopped parentLeftOff 0 (.inl (by decide +kernel))
  exact commit_leftMaybe_ne (act := fun s => syncLost s 0) (by decide +kernel) (by decide +kernel) hclaim

/-- A Follow_Up of PTP domain 0 to port 8. -/
def waitingFollowUp : PtpMsg := { kind := 8, dom := 0, port := 8, seq := 0, body := List.replicate 44 0 }

/-- The device with domain 220 left asleep and a Follow_Up that waits to be sent. -/
def followUpLeftOff : State := { leftOff with time := { leftOff.time with fus := [waitingFollowUp] } }

/-- Refutes O50: with the engine stopped something can be sent. With its domain 220 left asleep by the host and a Follow_Up waiting,
what FOLLOW_UP_SEND does is unpredictable (R120): it draws a free value and, as that falls, sends the message, where the statement
says that the state stays. -/
theorem not_ptpMessagesSent : ¬ Obligations.PtpMessagesSent := by
  unfold Obligations.PtpMessagesSent
  rintro ⟨_, hstopped, _⟩
  obtain ⟨hclaim, _⟩ := hstopped followUpLeftOff 0 0 (by decide +kernel)
  exact commit_leftMaybe_ne (act := followUpSend) (by decide +kernel) (by decide +kernel) hclaim

/-- The device with domain 234 left asleep and the PPS input enabled. -/
def ppsInLeftOff : State := leftOff.wr .TIO_PPS_IN_CFG 0 0 0x80000000

/-- Refutes O51: an edge of PPS_IN can count while time I/O does not run. With the input enabled and its domain 234 left asleep by the
host, what PPS_IN_EDGE does is unpredictable (R120): it draws a free value and, as that falls, takes the edge, where the statement
says that the state stays. -/
theorem not_timeInputsAndOutputs : ¬ Obligations.TimeInputsAndOutputs := by
  unfold Obligations.TimeInputsAndOutputs
  rintro ⟨hstopped, _⟩
  have hclaim := hstopped ppsInLeftOff 0 (.inl (by decide +kernel))
  exact commit_leftMaybe_ne (act := fun s => ppsInEdge s 0) (by decide +kernel) (by decide +kernel) hclaim

end Sys2Proof.Machine
end

section
/-!
SUPPORT. The endpoint's domain left asleep by the host (R120; log entry 81): whether a late launch copy is found late is free.
-/
namespace Sys2Proof.Machine

/-- The frame of a launch for the epoch that did not ask to be discarded when late. -/
def overdueFrame : CFrame := { src := 134, feed := 11, ref := 128, rate := 0, t := 0, launch := some (0, false) }

/-- Its copy for port 8, which has not begun. -/
def overdueCopy : CCopy := { id := 0, frame := 0, port := 8, queue := 0 }

/-- The device with domain 234 left asleep, one second after the launch time of a copy that waits. -/
def overdueLeftOff : State := { leftOff with
  time := { leftOff.time with now := { leftOff.time.now with sec := 1 } }
  car := { leftOff.car with frames := [(0, overdueFrame)], copies := [overdueCopy] } }

/-- Refutes O52: a launch copy that has not begun by T + LATE_TOL is not always counted. With domain 234 of the endpoint left asleep by
the host, what LAUNCH_LATE does is unpredictable (R120): it draws a free value and, as that falls, leaves the copy as it is, where the
statement has the copy counted and no value drawn. -/
theorem not_endpointLaunches : ¬ Obligations.EndpointLaunches := by
  unfold Obligations.EndpointLaunches
  rintro ⟨_, _, _, _, _, _, hlate⟩
  obtain ⟨_, hoverdue⟩ := hlate overdueLeftOff 8 0 0 0 false overdueCopy overdueFrame (by decide +kernel) rfl rfl
  have hclaim := congrArg State.freeCtr (Host.Outcome.next.inj (hoverdue rfl rfl (by decide +kernel)))
  have hdraws : (leftMaybe overdueLeftOff 234 (fun s => launchLate s 8 0 0)).freeCtr = overdueLeftOff.freeCtr + 1 :=
    leftMaybe_draws (by decide +kernel) (by decide +kernel)
  rw [levelRefresh_freeCtr, levelRefresh_freeCtr, hdraws] at hclaim
  exact absurd hclaim (by decide +kernel)

end Sys2Proof.Machine
end

section
/-!
SUPPORT. A line channel whose domain the host left asleep while it runs (R120; log entry 81): whether a loss of signal reaches its
framer is free.
-/
namespace Sys2Proof.Machine

/-- Where a command relies on a domain left asleep and its effect draws no free value of its own, the next state has one drawn. -/
theorem freeCtr_of_commit_leftMaybe {s t : State} {d : Nat} {act : State → State} (h : leftAsleep s d = true)
    (hact : (act (lentAwake s d)).freeCtr = (lentAwake s d).freeCtr)
    (hnext : commit (leftMaybe s d act) = .next (levelRefresh t)) : t.freeCtr = s.freeCtr + 1 := by
  have hctr := congrArg State.freeCtr (Host.Outcome.next.inj hnext)
  rw [levelRefresh_freeCtr, levelRefresh_freeCtr, leftMaybe_draws h hact] at hctr
  exact hctr.symm

/-- The device with domain 218 left asleep, its mode being OFF, while channel 0 of that group runs in SYNC. -/
def lineLeftOff : State := leftOff.setChan 0 { on := true, framer := .sync }

/-- Refutes O53: the framer of a running channel does not always leave SYNC at a loss of signal. The statement does not assume that
domain 218 of the channel is awake. Where the host has left it asleep, what LOS_RAW does is unpredictable (R120): it draws a free
value and, as that falls, leaves the framer in SYNC, where the statement has it in HUNT and no value drawn. -/
theorem not_lineChannels : ¬ Obligations.LineChannels := by
  unfold Obligations.LineChannels
  rintro ⟨_, hrunning, _⟩
  have hruns : chanRuns lineLeftOff 0 = true := by decide +kernel
  have hasleep : leftAsleep lineLeftOff 218 = true := by decide +kernel
  obtain ⟨_, _, _, _, _, _, hlos, _⟩ := hrunning lineLeftOff 0 hruns
  have hdrawn := freeCtr_of_commit_leftMaybe (act := fun s => losRaw s 0) hasleep (by decide +kernel) hlos
  exact absurd hdrawn (by decide +kernel)

end Sys2Proof.Machine
end

section
/-!
SUPPORT. Level sources (R381, R382, R395, R468): what following their conditions changes, and that every command ends with each of them
where its condition puts it.
-/
namespace Sys2Proof.Machine

variable {s t : State} {n k : Nat}

/-! ## What following a condition leaves unchanged -/

/-- Following one condition leaves every other source. -/
theorem levelStep_src_ne (s : State) (h : k ≠ n) : (levelStep s n).src k = s.src k := by
  unfold levelStep
  split
  · rfl
  · split
    · exact (src_setSrc _ _ _ _).trans (if_neg h)
    · exact (src_setSrc _ _ _ _).trans (if_neg h)
    · rfl

/-- While block 27 is held nothing follows (R395). -/
theorem levelStep_held (n : Nat) (h : closed s 27 = true) : levelStep s n = s := if_pos (by rw [h, Bool.true_or])

/-- A Claimed source stays as it is (R382). -/
theorem levelStep_claimed (h : (s.src n).st = .claimed) : levelStep s n = s := by
  unfold levelStep
  rw [h]
  split <;> rfl

/-- The end of a command leaves every source that is no level source (R381). -/
theorem levelRefresh_src_of_notMem (s : State) (h : n ∉ levelSources) : (levelRefresh s).src n = s.src n := by
  unfold levelRefresh
  generalize levelSources = l at h
  induction l generalizing s with
  | nil => rfl
  | cons a l ih =>
    rw [List.foldl_cons, ih (levelStep s a) (List.not_mem_of_not_mem_cons h), levelStep_src_ne s (List.ne_of_not_mem_cons h)]

/-- The end of a command leaves a Claimed source (R382). -/
theorem levelRefresh_src_of_claimed (h : (s.src n).st = .claimed) : (levelRefresh s).src n = s.src n := by
  unfold levelRefresh
  generalize levelSources = l
  induction l generalizing s with
  | nil => rfl
  | cons a l ih =>
    have hstep : (levelStep s a).src n = s.src n := by
      by_cases ha : n = a
      · rw [levelStep_claimed (ha ▸ h)]
      · exact levelStep_src_ne s ha
    rw [List.foldl_cons, ih (by rw [hstep, h]), hstep]

theorem levelRefresh_held (h : closed s 27 = true) : levelRefresh s = s := by
  unfold levelRefresh
  induction levelSources with
  | nil => rfl
  | cons a l ih => rw [List.foldl_cons, levelStep_held a h, ih]

/-- Following the conditions writes event sources and registers only. -/
theorem levelRefresh_marks (s : State) : Marks s (levelRefresh s) := Marks.foldl _ levelStep_marks _ s

/-- The end of a command leaves the counters' own part (R381). -/
@[simp] theorem levelRefresh_pct (s : State) : (levelRefresh s).pct = s.pct := by rw [levelRefresh_marks s]

/-- Settles O5: the frame of one level source's step, along the list of level sources. -/
theorem levelRefreshFrame : Obligations.LevelRefreshFrame := by
  unfold Obligations.LevelRefreshFrame
  exact fun s => ⟨levelRefresh_marks s, fun _ hr => levelRefresh_reg s hr, fun _ hn => levelRefresh_src_of_notMem s hn,
    fun _ hn => levelRefresh_src_of_claimed hn, levelRefresh_held⟩

/-! ## Sources that follow their conditions -/

/-- Level source `n` is absent, or is where its condition puts it. -/
def Follows (s : State) (n : Nat) : Prop := srcPresent s n = true → levelSettled s n = true

/-- Which sources are present rests on the fuses and the Roast (R2, R467). -/
theorem srcPresent_congr (hb : t.boot = s.boot) (hr : t.roast = s.roast) (n : Nat) : srcPresent t n = srcPresent s n := by
  simp only [srcPresent, portPresent, lanePresent, laneFused, laneMode, laneRec, isSmall, hb, hr]

theorem Reports.srcPresent_eq (h : Reports s t) (n : Nat) : srcPresent t n = srcPresent s n :=
  srcPresent_congr h.boot_eq h.roast_eq n

theorem Reports.closed_eq (h : Reports s t) (b : Nat) : closed t b = closed s b := by
  simp only [closed, State.blk, h.blks_eq]

/-- Following one condition leaves every condition as it was. -/
theorem levelCond_levelStep (s : State) (k n : Nat) : levelCond (levelStep s k) n = levelCond s n :=
  have h := levelStep_reports s k
  levelCond_congr n h.twin_eq h.temp_eq h.time_eq h.chans_eq (levelStep_reg s k (by decide)) (levelStep_reg s k (by decide))

theorem closed_levelStep (s : State) (k b : Nat) : closed (levelStep s k) b = closed s b := (levelStep_reports s k).closed_eq b

/-- Where block 27 is released, a present source whose condition has been followed is where the condition puts it (R382, R395). -/
theorem follows_levelStep_same (hc : closed s 27 = false) (n : Nat) : Follows (levelStep s n) n := by
  intro hp
  rw [(levelStep_reports s n).srcPresent_eq] at hp
  have hopen : ¬ ((closed s 27 || !srcPresent s n) = true) := by rw [hc, hp]; decide
  unfold levelSettled
  rw [levelCond_levelStep]
  unfold levelStep
  rw [if_neg hopen]
  cases hst : (s.src n).st <;> cases hcond : levelCond s n
  case idle.true => simp [pend, src_setSrc_same]
  case pending.false =>
    show (((s.setSrc n {}).src n).st != .pending) = true
    rw [src_setSrc_same]
    decide
  all_goals simp [hst]

/-- Following another source's condition keeps a source where its condition puts it. -/
theorem Follows.levelStep (h : Follows s n) (hc : closed s 27 = false) (k : Nat) : Follows (levelStep s k) n := by
  by_cases hk : n = k
  · subst hk
    exact follows_levelStep_same hc n
  · intro hp
    rw [(levelStep_reports s k).srcPresent_eq] at hp
    have hs := h hp
    unfold levelSettled at hs ⊢
    rwa [levelCond_levelStep, levelStep_src_ne s hk]

/-- A list of level sources followed one after the other leaves each of them where its condition puts it. -/
theorem follows_foldl_levelStep (l : List Nat) (hc : closed s 27 = false) (h : n ∈ l ∨ Follows s n) :
    Follows (l.foldl levelStep s) n := by
  induction l generalizing s with
  | nil => exact h.resolve_left List.not_mem_nil
  | cons a l ih =>
    refine ih ((closed_levelStep s a 27).trans hc) ?_
    rcases h with h | h
    · rcases List.mem_cons.mp h with rfl | h
      · exact .inr (follows_levelStep_same hc n)
      · exact .inl h
    · exact .inr (h.levelStep hc a)

/-- The end of a command puts every level source where its condition puts it. -/
theorem levelInv_levelRefresh (s : State) : LevelInv (levelRefresh s) := by
  intro hc n hn
  rw [(levelRefresh_reports s).closed_eq] at hc
  exact follows_foldl_levelStep levelSources hc (.inl hn)

/-- Every command ends with the level sources following their conditions (R381). -/
theorem exec_commits (i : Instr) (s : State) : ∃ u, exec i s = commit u := by
  cases i <;> exact ⟨_, rfl⟩

/-- Settles O2: every command ends with `levelRefresh`. -/
theorem everyCommandAnswers : Obligations.EveryCommandAnswers := by
  unfold Obligations.EveryCommandAnswers
  intro i s
  obtain ⟨u, hu⟩ := exec_commits i s
  exact ⟨levelRefresh u, hu, levelInv_levelRefresh u⟩

/-- A step with an empty queue idles (log entry 3). -/
theorem step_idle (h : s.pending = []) : step s = .next s := by
  unfold step
  rw [h]

/-- A step takes the command at the front of the queue. -/
theorem step_cons {i : Instr} {l : List Instr} (h : s.pending = i :: l) : step s = exec i { s with pending := l } := by
  unfold step
  rw [h]

/-- Settles O1: the two cases of the queue. -/
theorem stepRunsFrontCommand : Obligations.StepRunsFrontCommand := by
  unfold Obligations.StepRunsFrontCommand
  exact ⟨fun _ _ _ => step_cons rfl, fun _ h => step_idle h⟩

/-- Settles O3: right after reset every level source is Idle and no condition holds. -/
theorem levelInvariantAtReset : Obligations.LevelInvariantAtReset := by
  unfold Obligations.LevelInvariantAtReset
  intro _ n hn _
  obtain ⟨hidle, hcond⟩ := levels_quiet_reset n hn
  rw [levelSettled, hcond, hidle]
  rfl

/-- Settles O4: an idle step keeps the state, and every command ends with the level sources where their conditions put them. -/
theorem levelInvariantKept : Obligations.LevelInvariantKept := by
  unfold Obligations.LevelInvariantKept
  intro s t hinv hstep
  cases hq : s.pending with
  | nil =>
    rw [step_idle hq] at hstep
    exact Host.Outcome.next.inj hstep ▸ hinv
  | cons i l =>
    obtain ⟨u, hu, hinv'⟩ := everyCommandAnswers i { s with pending := l }
    rw [step_cons hq, hu] at hstep
    exact Host.Outcome.next.inj hstep ▸ hinv'

end Sys2Proof.Machine
end

section
/-!
SUPPORT. EVENT_COMPLETE of the source of counter overflows (R381, R382, R385, R400): the completion is itself counted, and the counter
that it wraps raises an edge of that source.
-/
namespace Sys2Proof.Machine

/-- A running device whose first counter of block 27 counts completions and is about to wrap, while context 0 has claimed source 61, that
of the overflow flag of PCT_STATUS. -/
def completingOverflow : State := (({ State.reset with
    boot := { State.reset.boot with st := .running }, pct := { State.reset.pct with cnt := [(216, 2 ^ 48 - 1)] } }.wr .CTL_CTX_CFG 0 0
  0x80000000).wr .PCT_CFG 27 0 0x1300FF00).setSrc 61 { st := .claimed, claimer := 0 }

/-- Refutes O24: a completion without a second edge does not always leave its source Idle. Where the source is that of the overflow flag
and the counter of completions wraps at this one, the flag's edge finds the source Idle again and makes it Pending (R382, R400). -/
theorem not_eventClaims : ¬ Obligations.EventClaims := by
  unfold Obligations.EventClaims
  rintro ⟨_, hcomplete, _⟩
  obtain ⟨_, hidle⟩ := hcomplete completingOverflow ⟨0, false⟩ 61 (by decide +kernel) (by decide +kernel) (by decide +kernel)
  have hclaim := congrArg (fun t => (t.src 61).st) (Host.Outcome.next.inj (hidle (by decide +kernel)))
  exact absurd hclaim (by decide +kernel)

end Sys2Proof.Machine
end

section
/-!
SUPPORT. The test access port (R457; IEEE 1149.1): what one edge on TCK leaves, for every state of the port.
-/
namespace Sys2Proof.Machine

variable {s : State} {tms tdi : Bool}

/-- A rising edge in Capture-DR loads the register that the instruction selects, IDCODE, the boundary scan or BYPASS, and moves on. -/
theorem tckEdge_rising_capDr (h : s.jtag.tap = .capDr) : tckEdge s true tms tdi true = { s with
    freeCtr := s.freeCtr + (if s.jtag.ir ≠ 1 ∧ jtagScan s.jtag.ir = true then 1 else 0)
    jtag := { s.jtag with
      tap := tapNext .capDr tms, ir := if tapNext .capDr tms = .reset then 1 else s.jtag.ir
      dr := if s.jtag.ir = 1 then idCode s else if jtagScan s.jtag.ir then low Config.bsrLength s.free else 0 } } := by
  by_cases h1 : s.jtag.ir = 1
  · simp [tckEdge, h, h1]
  · cases hscan : jtagScan s.jtag.ir <;> simp [tckEdge, h, h1, hscan, State.drawn]

/-- A rising edge in every state of the port (R457): it captures or shifts, and moves the state by TMS. -/
theorem tckEdge_rising (s : State) (tms tdi : Bool) : tckEdge s true tms tdi true = { s with
    freeCtr := s.freeCtr + (if s.jtag.tap = .capIr ∨ (s.jtag.tap = .capDr ∧ s.jtag.ir ≠ 1 ∧ jtagScan s.jtag.ir = true) then 1 else 0)
    jtag := { s.jtag with
      tap := tapNext s.jtag.tap tms
      ir := if tapNext s.jtag.tap tms = .reset then 1 else s.jtag.ir
      dr := if s.jtag.tap = .shDr then jtagShift (drLength s.jtag.ir) s.jtag.dr tdi else if s.jtag.tap ≠ .capDr then s.jtag.dr
        else if s.jtag.ir = 1 then idCode s else if jtagScan s.jtag.ir then low Config.bsrLength s.free else 0
      irShift := if s.jtag.tap = .shIr then jtagShift Config.irLength s.jtag.irShift tdi
        else if s.jtag.tap = .capIr then low Config.irLength (s.free / 4 * 4 + 1) else s.jtag.irShift } } := by
  cases htap : s.jtag.tap
  case capDr => simp [tckEdge_rising_capDr htap]
  case capIr => simp [tckEdge, htap, State.drawn]
  all_goals simp [tckEdge, htap]

/-- A falling edge in Update-DR latches a boundary-scan register, and an EXTEST drives the balls with it. -/
theorem tckEdge_falling_updDr (h : s.jtag.tap = .updDr) : tckEdge s false tms tdi true = { s with
    out := s.out ++ (if 3 ≤ s.jtag.ir ∧ s.jtag.ir ≤ 5 then [.scan s.jtag.ir (if jtagScan s.jtag.ir then s.jtag.dr else s.jtag.latch)]
      else [])
    jtag := { s.jtag with latch := if jtagScan s.jtag.ir then s.jtag.dr else s.jtag.latch, tdo := none } } := by
  by_cases hext : 3 ≤ s.jtag.ir ∧ s.jtag.ir ≤ 5 <;> simp [tckEdge, h, hext, State.emit]

/-- A falling edge in Update-IR takes the new instruction, and an EXTEST drives the balls with what is latched. -/
theorem tckEdge_falling_updIr (h : s.jtag.tap = .updIr) : tckEdge s false tms tdi true = { s with
    out := s.out ++ (if 3 ≤ Config.irSelect s.jtag.irShift ∧ Config.irSelect s.jtag.irShift ≤ 5 then
      [.scan (Config.irSelect s.jtag.irShift) s.jtag.latch] else [])
    jtag := { s.jtag with ir := Config.irSelect s.jtag.irShift, tdo := none } } := by
  by_cases hext : 3 ≤ Config.irSelect s.jtag.irShift ∧ Config.irSelect s.jtag.irShift ≤ 5 <;> simp [tckEdge, h, hext, State.emit]

/-- A falling edge in every state of the port (R457): it updates and sets TDO. -/
theorem tckEdge_falling (s : State) (tms tdi : Bool) :
    let j := s.jtag
    let ir := if j.tap = .updIr then Config.irSelect j.irShift else j.ir
    let latch := if j.tap = .updDr ∧ jtagScan j.ir = true then j.dr else j.latch
    tckEdge s false tms tdi true = { s with
      out := s.out ++ (if (j.tap = .updDr ∨ j.tap = .updIr) ∧ 3 ≤ ir ∧ ir ≤ 5 then [.scan ir latch] else [])
      jtag := { j with
        ir := ir, latch := latch
        tdo := if j.tap = .shDr then some (nbit j.dr 0) else if j.tap = .shIr then some (nbit j.irShift 0) else none } } := by
  cases htap : s.jtag.tap
  case updDr => simp [tckEdge_falling_updDr htap, htap]
  case updIr => simp [tckEdge_falling_updIr htap, htap]
  all_goals simp [tckEdge, htap]

/-- Five edges with TMS high reach Test-Logic-Reset from every state. -/
theorem tapNext_five_high (t : Tap) : tapNext (tapNext (tapNext (tapNext (tapNext t true) true) true) true) true = .reset := by
  cases t <;> rfl

/-- The fields of the identification code (R457). -/
theorem idCode_fields (s : State) : idCode s % 2 = 1 ∧ idCode s / 2 % 2 ^ 11 = 0x0C5 ∧
    idCode s / 2 ^ 12 % 2 ^ 16 = fld (devIdent s) 16 16 ∧ idCode s / 2 ^ 28 = (s.boot.fuses.stepping % 16 + 1) % 16 := by
  have hpart : fld (devIdent s) 16 16 < 2 ^ 16 := fld_lt _ _ _
  unfold idCode
  generalize fld (devIdent s) 16 16 = part at hpart ⊢
  omega

/-- Settles O56: every rising and every falling edge is one of the two general laws, read in the state that the statement names. -/
theorem testAccessPort : Obligations.TestAccessPort := by
  unfold Obligations.TestAccessPort
  have hrising (s : State) (tms tdi : Bool) := commit_eq (tckEdge_rising s tms tdi)
  have hfalling (s : State) (tms tdi : Bool) := commit_eq (tckEdge_falling s tms tdi)
  refine ⟨fun s r tms tdi => rfl, fun s tms tdi => ⟨fun htap hir => ?_, fun htap => ?_, fun htap => ?_, fun htap => ?_⟩,
    fun s tms tdi => ⟨fun htap => ?_, fun htap => ?_, fun htap => ?_⟩, hrising, hfalling, tapNext_five_high, idCode_fields⟩
  · exact (hrising s tms tdi).trans (by simp [htap, hir])
  · exact (hrising s tms tdi).trans (by simp [htap])
  · exact (hrising s tms tdi).trans (by simp [htap])
  · simp only [List.mem_cons, List.not_mem_nil, or_false, not_or] at htap
    obtain ⟨hcapDr, hshDr, hcapIr, hshIr⟩ := htap
    exact (hrising s tms tdi).trans (by simp [hcapDr, hshDr, hcapIr, hshIr])
  · exact (hfalling s tms tdi).trans (by simp [htap])
  · exact (hfalling s tms tdi).trans (by simp [htap])
  · simp only [List.mem_cons, List.not_mem_nil, or_false, not_or] at htap
    obtain ⟨hupdDr, hupdIr, hshDr, hshIr⟩ := htap
    exact (hfalling s tms tdi).trans (by simp [hupdDr, hupdIr, hshDr, hshIr])

end Sys2Proof.Machine
end

section
/-!
SUPPORT. The counter collector, clears, bandwidth windows and telemetry exports (R401, R403, R406 to R408).
-/
namespace Sys2Proof.Machine

variable {s : State} {who : Who}

/-! ## The collector's sweep (R403) and the exports that wait for it (R407, R408) -/

theorem exportBegin_none (h : s.pct.exp = none) : exportBegin s = s := by simp only [exportBegin, h]

/-- Once its sweep has begun, what will be exported keeps its time. -/
theorem exportBegin_begun {x : TelExport} {v : Nat × Nat} (h : s.pct.exp = some x) (hx : x.sweep = some v) : exportBegin s = s := by
  simp only [exportBegin, h, hx]; rfl

/-- What waits to be exported takes the time of the sweep that begins. -/
theorem exportBegin_waiting {x : TelExport} (h : s.pct.exp = some x) (hx : x.sweep = none) :
    exportBegin s = { s with pct := { s.pct with exp := some { x with sweep := some (s.time.now.sec, s.time.now.ns) } } } := by
  simp only [exportBegin, h, hx]; rfl

/-- The beginning of a sweep changes what waits to be exported alone. -/
theorem exportBegin_frame (s : State) : exportBegin s = { s with pct := { s.pct with exp := (exportBegin s).pct.exp } } := by
  unfold exportBegin
  split
  · split <;> rfl
  · rfl

theorem exportHand_none (h : s.pct.exp = none) : exportHand s = s := by simp only [exportHand, h]

theorem exportHand_waiting {x : TelExport} (h : s.pct.exp = some x) (hx : x.sweep = none) : exportHand s = s := by
  simp only [exportHand, h, hx]; rfl

theorem telFrames_nil (n : Nat) : telFrames n [] = [] := by cases n <;> rfl

/-- At most 80 records are one frame (R407). -/
theorem telFrames_single {rs : List Bytes} (hne : rs ≠ []) (h80 : rs.length ≤ 80) : telFrames rs.length rs = [rs] := by
  obtain ⟨r, t, rfl⟩ := List.exists_cons_of_ne_nil hne
  rw [List.length_cons, telFrames, if_neg hne, List.take_of_length_le h80, List.drop_eq_nil_of_le h80, telFrames_nil]

/-- Without records nothing is exported (log entry 55). -/
theorem exportHand_empty {x : TelExport} {v : Nat × Nat} (h : s.pct.exp = some x) (hx : x.sweep = some v)
    (hrs : counterRecords s ++ x.bw = []) : exportHand s = { s with pct := { s.pct with exp := none } } := by
  simp only [exportHand, h, hx, hrs]; rfl

/-- At most 80 records leave in one frame, marked last (R407). -/
theorem exportHand_single {x : TelExport} {v : Nat × Nat} (h : s.pct.exp = some x) (hx : x.sweep = some v)
    (hne : counterRecords s ++ x.bw ≠ []) (h80 : (counterRecords s ++ x.bw).length ≤ 80) :
    exportHand s = telSend { s with pct := { s.pct with exp := none } } x 0 true (counterRecords s ++ x.bw) := by
  simp only [exportHand, h, hx, telFrames_single hne h80]; rfl

/-- The state in which the collector's slot is served: a sweep that begins gives its time to what waits to be exported. -/
def slotBegun (s : State) : State := if s.pct.slot = 0 then exportBegin s else s

theorem slotBegun_frame (s : State) : slotBegun s = { s with pct := { s.pct with exp := (slotBegun s).pct.exp } } := by
  unfold slotBegun
  split
  · exact exportBegin_frame s
  · rfl

/-- The collector moves on from slot `c`; past the last the sweep is counted and its records are exported. -/
def slotPassed (c : Nat) (u : State) : State :=
  let v := { u with pct := { u.pct with slot := (c + 1) % 320 } }
  if c = 319 then exportHand (occ (v.bump .PCT_SWEEPS) 28 0x10 0) else v

theorem sweepSlot_off (h : closed s 28 = true ∨ domOn s 227 = false) : sweepSlot s = s := by
  unfold sweepSlot
  rcases h with h | h <;> simp [h]

section
variable (hc : closed s 28 = false) (hd : domOn s 227 = true)
include hc hd

/-- A slot of the running collector: which counters it copies rests on the state as it was. -/
theorem sweepSlot_on : sweepSlot s = slotPassed s.pct.slot
    (if !counterBlkPresent s (s.pct.slot / 8) || !countersAwake s (s.pct.slot / 8) || pctOdd s s.pct.slot then slotBegun s
      else if pctPair s s.pct.slot then mirrorCopy (mirrorCopy (slotBegun s) s.pct.slot) (s.pct.slot + 1)
      else mirrorCopy (slotBegun s) s.pct.slot) := by
  have hsame (e : Option TelExport) (c : Nat) :
      let u := { s with pct := { s.pct with exp := e } }
      counterBlkPresent u (c / 8) = counterBlkPresent s (c / 8) ∧ countersAwake u (c / 8) = countersAwake s (c / 8) ∧
        pctOdd u c = pctOdd s c ∧ pctPair u c = pctPair s c := ⟨rfl, rfl, rfl, rfl⟩
  obtain ⟨hpresent, hawake, hodd, hpair⟩ := hsame (slotBegun s).pct.exp s.pct.slot
  rw [← slotBegun_frame] at hpresent hawake hodd hpair
  rw [← hpresent, ← hawake, ← hodd, ← hpair]
  exact if_neg (by rw [hc, hd]; decide)

/-- A slot whose counter is absent, asleep or the odd one of a chained pair copies nothing. -/
theorem sweepSlot_passes (h : counterBlkPresent s (s.pct.slot / 8) = false ∨ countersAwake s (s.pct.slot / 8) = false ∨
    pctOdd s s.pct.slot = true) : sweepSlot s = slotPassed s.pct.slot (slotBegun s) := by
  rw [sweepSlot_on hc hd, if_pos (by rcases h with h | h | h <;> simp [h])]

/-- A slot whose counter is present and awake copies it, or both of a chained pair. -/
theorem sweepSlot_copies (hp : counterBlkPresent s (s.pct.slot / 8) = true) (ha : countersAwake s (s.pct.slot / 8) = true)
    (ho : pctOdd s s.pct.slot = false) : sweepSlot s = slotPassed s.pct.slot
      (if pctPair s s.pct.slot then mirrorCopy (mirrorCopy (slotBegun s) s.pct.slot) (s.pct.slot + 1)
        else mirrorCopy (slotBegun s) s.pct.slot) := by
  rw [sweepSlot_on hc hd, if_neg (by rw [hp, ha, ho]; decide)]

end

/-- The mirror of a counter whose selection is in order takes the counter's value (R403). -/
theorem mirrorCopy_value {c : Nat} (h : pctBad s c = false) : mget 0 (mirrorCopy s c).pct.mir c = mget 0 s.pct.cnt c := by
  rw [mirrorCopy, pctValue, h]
  exact mget_mput_same _ _ _ _

/-! ## Clears (R401, R406) -/

/-- A permitted write of a register that is reached does what is known of it on the state in which the operation reaches its block. -/
theorem commit_writeOp {r : Reg} {w : Word} {f : State → State} (h : Reached s who r) (hm : MayWrite s who r)
    (hw : windowAddr r.f = none) (hf : regWrite (touched s r) who.ctx r w false = f (touched s r)) :
    commit (writeOp s who r.key w) = .next (wrote s r f) := by
  rw [writeOp_reached h hm hw, wrote_congr hf]

theorem pctCmd_counters {w : Word} (hw : fld w 30 2 = 1) (hb : tst w 23 = true ∨ fld w 24 6 ≤ 39) (s : State) :
    pctCmd s w = (cmdCounters w).foldl clearCounter s := by
  have hrange : ¬ ((!tst w 23 && decide (fld w 24 6 > 39)) = true) := by
    rcases hb with hb | hb
    · simp [hb]
    · simp [Nat.not_lt.mpr hb]
  simp only [pctCmd, hw, hrange, if_false, Bool.false_eq_true]

theorem pctCmd_peaks {w : Word} (hw : fld w 30 2 = 2) (s : State) :
    pctCmd s w = (List.range 134).foldl (fun s p => (s.wr .PCT_PEAK_RX p 0 0).wr .PCT_PEAK_TX p 0 0) s := by
  simp only [pctCmd, hw]

theorem clearCounter_awake {c : Nat} (h : countersAwake s (c / 8) = true) :
    clearCounter s c = { s with pct := { s.pct with cnt := mput 0 s.pct.cnt c 0 } } := if_pos h

theorem clearCounter_asleep {c : Nat} (h : countersAwake s (c / 8) = false) : clearCounter s c =
    { s with pct := { s.pct with mir := mput 0 s.pct.mir c 0, clearOnWake := c :: s.pct.clearOnWake.filter (· != c) } } :=
  if_neg (by rw [h]; decide)

/-- A clear of one counter leaves every other counter and its mirror. -/
theorem clearCounter_other {c d : Nat} (h : d ≠ c) : mget 0 (clearCounter s c).pct.cnt d = mget 0 s.pct.cnt d ∧
    mget 0 (clearCounter s c).pct.mir d = mget 0 s.pct.mir d := by
  unfold clearCounter
  split
  · exact ⟨mget_mput_ne 0 0 _ 0 h, rfl⟩
  · exact ⟨rfl, mget_mput_ne 0 0 _ 0 h⟩

/-- Bit `i` of a word's low field. -/
theorem testBit_fld_low {w : Word} {n i : Nat} (h : i < n) : (fld w 0 n).testBit i = tst w i := by
  simp [fld, tst, Nat.testBit_mod_two_pow, h]

/-- A PCT_CMD of one block names the counters of that block whose bits are set (R401). -/
theorem mem_cmdCounters {w : Word} (h : tst w 23 = false) (c : Nat) :
    c ∈ cmdCounters w ↔ c / 8 = fld w 24 6 ∧ tst w (c % 8) = true := by
  have hmem : c ∈ cmdCounters w ↔ ∃ i < 8, tst w i = true ∧ 8 * fld w 24 6 + i = c := by
    simp only [cmdCounters, h, Bool.false_eq_true, if_false, List.flatMap_cons, List.flatMap_nil, List.append_nil, List.mem_map,
      onesOf, List.mem_filter, List.mem_range]
    exact exists_congr (fun i => by rw [and_assoc]; exact and_congr_right (fun hi => by rw [testBit_fld_low hi]))
  rw [hmem]
  constructor
  · rintro ⟨i, hi, hset, rfl⟩
    rw [show (8 * fld w 24 6 + i) / 8 = fld w 24 6 by omega, show (8 * fld w 24 6 + i) % 8 = i by omega]
    exact ⟨rfl, hset⟩
  · rintro ⟨hblk, hset⟩
    exact ⟨c % 8, Nat.mod_lt _ (by decide), hset, by omega⟩

/-! ## Bandwidth windows (R406) -/

/-- What a fold leaves of `view` at a member `b` of its list, where no other member touches that: what `b`'s own step makes of it. -/
theorem foldl_view {α β γ : Type} {f : α → β → α} {view : α → γ} {l : List β} {b : β} (hl : l.Nodup) (hb : b ∈ l)
    (h : ∀ c, ∀ x ∈ l, x ≠ b → view (f c x) = view c) (a : α) : ∃ c, view c = view a ∧ view (l.foldl f a) = view (f c b) := by
  have hkept (t : List β) (c : α) (ht : ∀ x ∈ t, x ∈ l ∧ x ≠ b) : view (t.foldl f c) = view c := by
    induction t generalizing c with
    | nil => rfl
    | cons x t ih =>
      obtain ⟨hx, hxb⟩ := ht x List.mem_cons_self
      rw [List.foldl_cons, ih _ (fun y hy => ht y (List.mem_cons_of_mem x hy)), h c x hx hxb]
  obtain ⟨l₁, l₂, rfl⟩ := List.append_of_mem hb
  rw [List.nodup_middle, List.nodup_cons, List.mem_append, not_or] at hl
  obtain ⟨⟨h₁, h₂⟩, -⟩ := hl
  refine ⟨l₁.foldl f a, hkept l₁ a (fun x hx => ⟨List.mem_append_left _ hx, fun e => h₁ (e ▸ hx)⟩), ?_⟩
  rw [List.foldl_append, List.foldl_cons]
  exact hkept l₂ _ (fun x hx => ⟨List.mem_append_right _ (List.mem_cons_of_mem b hx), fun e => h₂ (e ▸ hx)⟩)

/-- A peak follows a total that exceeds it. -/
def raisePeak (s : State) (f : Fam) (p : Nat) (v : Word) : State := if v.toNat > s.rn f p then s.wr f p 0 v else s

theorem raisePeak_pct (s : State) (f : Fam) (p : Nat) (v : Word) : (raisePeak s f p v).pct = s.pct := by
  unfold raisePeak
  split <;> rfl

theorem raisePeak_time (s : State) (f : Fam) (p : Nat) (v : Word) : (raisePeak s f p v).time = s.time := by
  unfold raisePeak
  split <;> rfl

theorem raisePeak_rw_ne (s : State) {f g : Fam} {p q : Nat} (v : Word) (h : Reg.key ⟨g, q, 0⟩ ≠ Reg.key ⟨f, p, 0⟩) :
    (raisePeak s f p v).rw g q = s.rw g q := by
  unfold raisePeak
  split
  · exact rw_wr_ne s v h
  · rfl

theorem raisePeak_rn_same (s : State) (f : Fam) (p : Nat) (v : Word) : (raisePeak s f p v).rn f p = max (s.rn f p) v.toNat := by
  unfold raisePeak
  split
  · rename_i h
    exact (congrArg BitVec.toNat (rw_wr_same s f p 0 v)).trans (Nat.max_eq_right (Nat.le_of_lt h)).symm
  · rename_i h
    exact (Nat.max_eq_left (Nat.not_lt.mp h)).symm

/-- What the end of a window writes for port `p`. -/
def windowPort (s : State) (p : Nat) : State :=
  raisePeak (raisePeak ((s.wr .PCT_BW_RX p 0 (wd (mget 0 s.pct.rx p))).wr .PCT_BW_TX p 0 (wd (mget 0 s.pct.tx p)))
    .PCT_PEAK_RX p (wd (mget 0 s.pct.rx p))) .PCT_PEAK_TX p (wd (mget 0 s.pct.tx p))

/-- The end of a window with a WINDOW in range: each port in turn, and the totals start again. -/
theorem windowEnd_on (hb : tst (s.rw .PCT_BW_CFG) 31 = true) (hc : closed s 28 = false) (hd : domOn s 227 = true)
    (hok : windowOk s = true) :
    let t := (List.range 134).foldl windowPort s
    windowEnd s = { t with pct := { t.pct with rx := [], tx := [], winNs := t.time.now.ns }, freeCtr := s.freeCtr } := by
  have hruns : ¬ ((!tst (s.rw .PCT_BW_CFG) 31 || closed s 28 || !domOn s 227) = true) := by rw [hb, hc, hd]; decide
  unfold windowEnd
  rw [if_neg hruns]
  simp only [hok, if_true]
  generalize List.range 134 = l
  rfl

/-- What the end of a window can touch of port `p`: its totals and peaks, and the counters' own part. -/
def windowView (s : State) (p : Nat) : Word × Word × Word × Word × Pct :=
  (s.rw .PCT_BW_RX p, s.rw .PCT_BW_TX p, s.rw .PCT_PEAK_RX p, s.rw .PCT_PEAK_TX p, s.pct)

/-- The registers that the end of a window writes. -/
def windowFams : List Fam := [.PCT_BW_RX, .PCT_BW_TX, .PCT_PEAK_RX, .PCT_PEAK_TX]

/-- The registers of a window's end lie each at its own address. -/
theorem windowKey_ne {f g : Fam} {p q : Nat} (hf : f ∈ windowFams) (hg : g ∈ windowFams) (h : f ≠ g ∨ p ≠ q) :
    Reg.key ⟨f, p, 0⟩ ≠ Reg.key ⟨g, q, 0⟩ := by
  simp only [windowFams, List.mem_cons, List.not_mem_nil, or_false] at hf hg
  rcases hf with rfl | rfl | rfl | rfl <;> rcases hg with rfl | rfl | rfl | rfl <;> simp only [Reg.key, Fam.row] <;>
    simp only [ne_eq, not_true_eq_false, false_or] at h <;> omega

theorem windowPort_pct (s : State) (p : Nat) : (windowPort s p).pct = s.pct := by
  rw [windowPort, raisePeak_pct, raisePeak_pct]; rfl

theorem windowPort_time (s : State) (p : Nat) : (windowPort s p).time = s.time := by
  rw [windowPort, raisePeak_time, raisePeak_time]; rfl

/-- Another port's totals and peaks stay. -/
theorem windowView_other (s : State) {p q : Nat} (h : q ≠ p) : windowView (windowPort s q) p = windowView s p := by
  have hne {f g : Fam} (hf : f ∈ windowFams) (hg : g ∈ windowFams) : Reg.key ⟨g, p, 0⟩ ≠ Reg.key ⟨f, q, 0⟩ :=
    windowKey_ne hg hf (.inr (Ne.symm h))
  have hrw {g : Fam} (hg : g ∈ windowFams) : (windowPort s q).rw g p = s.rw g p := by
    unfold windowPort
    rw [raisePeak_rw_ne _ _ (hne (by decide) hg), raisePeak_rw_ne _ _ (hne (by decide) hg), rw_wr_ne _ _ (hne (by decide) hg),
      rw_wr_ne _ _ (hne (by decide) hg)]
  simp only [windowView, windowPort_pct]
  rw [hrw (by decide), hrw (by decide), hrw (by decide), hrw (by decide)]

/-- The port's own totals are written and its peaks raised. -/
theorem windowPort_same (s : State) (p : Nat) :
    (windowPort s p).rw .PCT_BW_RX p = wd (mget 0 s.pct.rx p) ∧ (windowPort s p).rw .PCT_BW_TX p = wd (mget 0 s.pct.tx p) ∧
    (windowPort s p).rn .PCT_PEAK_RX p = max (s.rn .PCT_PEAK_RX p) (wd (mget 0 s.pct.rx p)).toNat ∧
    (windowPort s p).rn .PCT_PEAK_TX p = max (s.rn .PCT_PEAK_TX p) (wd (mget 0 s.pct.tx p)).toNat := by
  have hne {f g : Fam} (hf : f ∈ windowFams) (hg : g ∈ windowFams) (h : f ≠ g) : Reg.key ⟨f, p, 0⟩ ≠ Reg.key ⟨g, p, 0⟩ :=
    windowKey_ne hf hg (.inl h)
  unfold windowPort
  refine ⟨?_, ?_, ?_, ?_⟩
  · rw [raisePeak_rw_ne _ _ (hne (by decide) (by decide) (by decide)), raisePeak_rw_ne _ _ (hne (by decide) (by decide) (by decide)),
      rw_wr_ne _ _ (hne (by decide) (by decide) (by decide)), rw_wr_same]
  · rw [raisePeak_rw_ne _ _ (hne (by decide) (by decide) (by decide)), raisePeak_rw_ne _ _ (hne (by decide) (by decide) (by decide)),
      rw_wr_same]
  · rw [rn_eq_toNat_rw, raisePeak_rw_ne _ _ (hne (by decide) (by decide) (by decide)), ← rn_eq_toNat_rw, raisePeak_rn_same,
      rn_eq_toNat_rw, rw_wr_ne _ _ (hne (by decide) (by decide) (by decide)), rw_wr_ne _ _ (hne (by decide) (by decide) (by decide)),
      ← rn_eq_toNat_rw]
  · rw [raisePeak_rn_same, rn_eq_toNat_rw, raisePeak_rw_ne _ _ (hne (by decide) (by decide) (by decide)),
      rw_wr_ne _ _ (hne (by decide) (by decide) (by decide)), rw_wr_ne _ _ (hne (by decide) (by decide) (by decide)),
      ← rn_eq_toNat_rw]

theorem foldl_windowPort_frame (l : List Nat) (s : State) : (l.foldl windowPort s).pct = s.pct ∧ (l.foldl windowPort s).time = s.time := by
  induction l generalizing s with
  | nil => exact ⟨rfl, rfl⟩
  | cons p l ih =>
    obtain ⟨hpct, htime⟩ := ih (windowPort s p)
    exact ⟨hpct.trans (windowPort_pct s p), htime.trans (windowPort_time s p)⟩

/-- After the ports' turns every port's totals are written and its peaks raised. -/
theorem foldl_windowPort_port (s : State) {p : Nat} (hp : p < 134) :
    let t := (List.range 134).foldl windowPort s
    t.rw .PCT_BW_RX p = wd (mget 0 s.pct.rx p) ∧ t.rw .PCT_BW_TX p = wd (mget 0 s.pct.tx p) ∧
    t.rn .PCT_PEAK_RX p = max (s.rn .PCT_PEAK_RX p) (wd (mget 0 s.pct.rx p)).toNat ∧
    t.rn .PCT_PEAK_TX p = max (s.rn .PCT_PEAK_TX p) (wd (mget 0 s.pct.tx p)).toNat := by
  obtain ⟨c, hc, ht⟩ := foldl_view (view := fun s => windowView s p) List.nodup_range (List.mem_range.mpr hp)
    (fun c q _ hq => windowView_other c hq) s
  simp only [windowView, Prod.mk.injEq] at hc ht
  obtain ⟨-, -, hpeakRx, hpeakTx, hpct⟩ := hc
  obtain ⟨htRx, htTx, htPeakRx, htPeakTx, -⟩ := ht
  obtain ⟨hrx, htx, hprx, hptx⟩ := windowPort_same c p
  rw [hpct] at hrx htx hprx hptx
  simp only [rn_eq_toNat_rw] at hprx hptx ⊢
  rw [hpeakRx] at hprx
  rw [hpeakTx] at hptx
  exact ⟨htRx.trans hrx, htTx.trans htx, (congrArg BitVec.toNat htPeakRx).trans hprx, (congrArg BitVec.toNat htPeakTx).trans hptx⟩
/-- The end of a command leaves totals and peaks. -/
theorem levelRefresh_windowReg (s : State) {f : Fam} (p : Nat) (hf : f ∈ windowFams) : (levelRefresh s).rw f p = s.rw f p := by
  refine levelRefresh_reg s ?_
  simp only [windowFams, List.mem_cons, List.not_mem_nil, or_false] at hf
  rcases hf with rfl | rfl | rfl | rfl <;> simp only [Reg.key, Fam.row] <;> omega

/-- A window in which the collector does not run leaves no totals. -/
theorem windowEnd_off (h : tst (s.rw .PCT_BW_CFG) 31 = false ∨ closed s 28 = true ∨ domOn s 227 = false) :
    windowEnd s = { s with pct := { s.pct with rx := [], tx := [] } } :=
  if_pos (by rcases h with h | h | h <;> simp [h])

/-- A domain that is awake is not left asleep (R120). -/
theorem leftAsleep_of_domOn {d : Nat} (h : domOn s d = true) : leftAsleep s d = false := by simp [leftAsleep, h]

/-! ## Telemetry exports (R407) -/

theorem telemetryExport_off (b : Bool) (h : tst (s.rw .PCT_TEL_CFG) 31 = false ∨ closed s 28 = true ∨ domOn s 227 = false) :
    telemetryExport s b = s :=
  if_pos (by rcases h with h | h | h <;> simp [h])

/-- Counting in TEL_SEQ leaves what the bandwidth records read. -/
theorem bwRecords_wr_seq (s : State) (w : Word) : bwRecords (s.wr .PCT_TEL_SEQ 0 0 w) = bwRecords s := by
  have hports (k : Nat) : (s.wr .PCT_TEL_SEQ 0 0 w).rw .PCT_TEL_PORTS k = s.rw .PCT_TEL_PORTS k :=
    rw_wr_ne s w (by simp only [Reg.key, Fam.row]; omega)
  have hrx (p : Nat) : (s.wr .PCT_TEL_SEQ 0 0 w).rw .PCT_BW_RX p = s.rw .PCT_BW_RX p :=
    rw_wr_ne s w (by simp only [Reg.key, Fam.row]; omega)
  have htx (p : Nat) : (s.wr .PCT_TEL_SEQ 0 0 w).rw .PCT_BW_TX p = s.rw .PCT_BW_TX p :=
    rw_wr_ne s w (by simp only [Reg.key, Fam.row]; omega)
  have hrecord : bwRecord (s.wr .PCT_TEL_SEQ 0 0 w) = bwRecord s := funext (fun p => by rw [bwRecord, hrx, htx]; rfl)
  simp only [bwRecords, hports, hrecord]

section
variable (hon : tst (s.rw .PCT_TEL_CFG) 31 = true) (hc : closed s 28 = false) (hd : domOn s 227 = true)
include hon hc hd

/-- A falling due that finds the previous records still there is skipped, counted and flagged. -/
theorem telemetryExport_skips {b : Bool} (h : b = true ∨ s.pct.exp ≠ none) : telemetryExport s b =
    ((s.wr .PCT_TEL_SEQ 0 0 (wd (s.rn .PCT_TEL_SEQ + 1))).bump .PCT_TEL_SKIP).setFlags .PCT_STATUS 0 0 2 := by
  have hthere : (b || s.pct.exp.isSome) = true := by
    rcases h with h | h
    · rw [h, Bool.true_or]
    · rw [Option.isSome_iff_ne_none.mpr h, Bool.or_true]
  unfold telemetryExport
  rw [if_neg (by rw [hon, hc, hd]; decide)]
  exact if_pos hthere

/-- At a falling due the bandwidth values are taken and wait for their sweep. -/
theorem telemetryExport_takes (h : s.pct.exp = none) : telemetryExport s false =
    { s.wr .PCT_TEL_SEQ 0 0 (wd (s.rn .PCT_TEL_SEQ + 1)) with
      pct := { s.pct with exp := some { seq := s.rn .PCT_TEL_SEQ, bw := bwRecords s } } } := by
  unfold telemetryExport
  rw [if_neg (by rw [hon, hc, hd]; decide), ← bwRecords_wr_seq s (wd (s.rn .PCT_TEL_SEQ + 1))]
  exact if_neg (by rw [State.wr_pct, h]; decide)

end

/-- Settles O55: the collector's slots, the exports that wait for them, clears, windows and the exports themselves. -/
theorem countersAndTelemetry : Obligations.CountersAndTelemetry := by
  unfold Obligations.CountersAndTelemetry
  refine ⟨fun s h => commit_eq (sweepSlot_off h), fun s hc hd => ⟨fun h => commit_eq (sweepSlot_passes hc hd h),
      fun hp ha ho => ⟨fun hpair => ?_, fun hpair => ?_⟩⟩,
    fun s => ⟨fun h => ⟨exportBegin_none h, exportHand_none h⟩, fun x hx => ⟨fun v hv => exportBegin_begun hx hv,
      fun hnone => ⟨exportHand_waiting hx hnone, exportBegin_waiting hx hnone⟩,
      fun v hv => ⟨exportHand_empty hx hv, exportHand_single hx hv⟩⟩⟩,
    fun s c h => mirrorCopy_value h, fun s who w h hm => ⟨fun hw hb => ?_, fun hw => ?_⟩,
    fun s c d => ⟨fun h => ?_, fun h => ?_, clearCounter_other⟩, fun w h => mem_cmdCounters h, fun s h hasleep => ?_,
    fun s hb hc hd hok => ?_, fun s b h hasleep => ?_, fun s hon hc hd => ⟨fun b h => ?_, fun h => ?_⟩⟩
  · exact commit_eq ((sweepSlot_copies hc hd hp ha ho).trans (by rw [hpair]; rfl))
  · exact commit_eq ((sweepSlot_copies hc hd hp ha ho).trans (by rw [hpair]; rfl))
  · exact commit_writeOp h hm rfl (pctCmd_counters hw hb _)
  · exact commit_writeOp h hm rfl (pctCmd_peaks hw _)
  · rw [clearCounter_awake h]
    exact mget_mput_same 0 _ c 0
  · rw [clearCounter_asleep h]
    exact ⟨mget_mput_same 0 _ c 0, List.mem_cons_self⟩
  · exact commit_eq ((leftMaybe_awake _ hasleep).trans (windowEnd_off h))
  · have hframe := foldl_windowPort_frame (List.range 134) s
    have hports (p : Nat) (hp : p < 134) := foldl_windowPort_port s hp
    have hend := windowEnd_on hb hc hd hok
    dsimp only at hports hend
    generalize (List.range 134).foldl windowPort s = t at hframe hports hend
    obtain ⟨hpct, htime⟩ := hframe
    refine ⟨_, commit_eq ((leftMaybe_awake _ (leftAsleep_of_domOn hd)).trans hend), ?_, fun p hp => ?_⟩
    · rw [levelRefresh_pct, hpct, htime]
    · simp only [rn_eq_toNat_rw]
      rw [levelRefresh_windowReg _ p (by decide), levelRefresh_windowReg _ p (by decide), levelRefresh_windowReg _ p (by decide),
        levelRefresh_windowReg _ p (by decide)]
      exact hports p hp
  · exact commit_eq ((leftMaybe_awake _ hasleep).trans (telemetryExport_off b h))
  · exact commit_eq ((leftMaybe_awake _ (leftAsleep_of_domOn hd)).trans (telemetryExport_skips hon hc hd h))
  · exact commit_eq ((leftMaybe_awake _ (leftAsleep_of_domOn hd)).trans (telemetryExport_takes hon hc hd h))

end Sys2Proof.Machine
end

section
/-!
SUPPORT. What leaves the twin's own part as it was (R411 to R423): frames of the control engine, wakes, and a snapshot that is applied.
-/
namespace Sys2Proof.Machine

/-- Counting octets in the window in progress only reports (R406). -/
theorem bwCount_reports (s : State) (rx : Bool) (p n : Nat) : Reports s (bwCount s rx p n) := by
  unfold bwCount
  split
  · exact .refl s
  · split <;> rfl

theorem countTxAll_reports (s : State) (p n : Nat) : Reports s (countTxAll s p n) := by
  have hbw := bwCount_reports s false p n
  unfold countTxAll
  dsimp only
  split
  · exact (hbw.trans (occ_reports _ _ _ _ _)).trans (occ_reports _ _ _ _ _)
  · split
    · exact hbw.trans (occ_reports _ _ _ _ _)
    · exact hbw

theorem countTxGood_reports (s : State) (p : Nat) (f : Bytes) : Reports s (countTxGood s p f) :=
  (countTxAll_reports s p _).trans (macCounts_reports _ p _)

theorem sendFrame_twin (s : State) (p : Nat) (f : Bytes) : (sendFrame s p f).twin = s.twin := (countTxGood_reports s p f).twin_eq

theorem sendControl_twin (s : State) (p : Nat) (f : Bytes) (buf : Option (Nat × Nat)) : (sendControl s p f buf).twin = s.twin := by
  unfold sendControl
  dsimp only
  split
  · rfl
  · unfold ctlSend
    cases buf <;> exact sendFrame_twin s p f

/-- A fold of steps that leave a part of the state leaves it. -/
theorem foldl_keeps {β γ : Type} {g : State → β → State} {part : State → γ} (hg : ∀ s b, part (g s b) = part s) (l : List β) (s : State) :
    part (l.foldl g s) = part s := by
  induction l generalizing s with
  | nil => rfl
  | cons b t ih => exact (ih _).trans (hg s b)

theorem mgmtNotice_twin (s : State) : (mgmtNotice s).twin = s.twin := by
  unfold mgmtNotice
  split
  · rfl
  · refine foldl_keeps (part := State.twin) (fun s h => ?_) _ s
    split
    · exact sendControl_twin s _ _ _
    · rfl

theorem trigger_twin (s : State) (c d : Nat) : (trigger s c d).twin = s.twin := by
  unfold trigger
  split
  · rfl
  · rw [wake_wakes s c d]

/-- Reading words of the retention RAM only reports (R113). -/
theorem ramEcc_reports (s : State) (p : Nat → Bool) : Reports s (ramEcc s p) := by
  unfold ramEcc
  dsimp only
  split
  · exact .refl s
  · exact (setFlags_reports s _ _ _ _).trans (occ_reports _ _ _ _ _)

/-- Applying a snapshot writes registers and shadows (R419). -/
theorem applySnapshot_twin (s : State) : (applySnapshot s).twin = s.twin := by
  unfold applySnapshot
  split
  · exact setFlags_twin s _ _ _ _
  · rw [State.hwFld_twin]
    refine (foldl_keeps (part := State.twin) ?_ _ _).trans (ramEcc_reports s _).twin_eq
    intros
    rfl

theorem corrFollow_twin (s : State) : (corrFollow s).twin = s.twin := by
  unfold corrFollow
  split <;> rfl

/-- The completion of a takeover ends `taking` alone (R421). -/
theorem takeoverDone_twin (s : State) : (takeoverDone s).twin = { s.twin with taking := false } := by
  rw [takeoverDone, setFlags_twin]; rfl

/-- The state in which a device has just entered ACTIVE. -/
def activeEntered (s : State) : State := { s with twin := { s.twin with
    role := .active, since := some s.mono, taking := true, edges := 0, flashReset := false } }.setFlags .TWN_STATUS 0 0 1

/-- The same with the role state of its snapshot applied, where it has run before. -/
def activeApplied (s : State) : State := if s.twin.atStart then activeEntered s else applySnapshot (activeEntered s)

/-- The same with time I/O woken and the management notice sent. -/
def activeNoticed (s : State) : State :=
  mgmtNotice (if tioWanted (activeEntered s) (activeApplied s) then trigger (activeApplied s) 2 234 else activeApplied s)

theorem enterActive_eq (s : State) : enterActive s =
    if tst ((activeNoticed s).rw .TWN_CFG) 30 then activeNoticed s else takeoverDone (activeNoticed s) := rfl

theorem activeApplied_twin (s : State) : (activeApplied s).twin = (activeEntered s).twin := by
  unfold activeApplied
  split
  · rfl
  · exact applySnapshot_twin _

theorem activeNoticed_twin (s : State) : (activeNoticed s).twin = (activeEntered s).twin := by
  rw [activeNoticed, mgmtNotice_twin]
  split
  · rw [trigger_twin, activeApplied_twin]
  · exact activeApplied_twin s

/-- A device that enters ACTIVE holds the role from that instant (R414), whether the takeover is complete or not. -/
theorem enterActive_role (s : State) : (enterActive s).twin.role = .active ∧ (enterActive s).twin.since = some s.mono := by
  have hentered : (activeNoticed s).twin.role = .active ∧ (activeNoticed s).twin.since = some s.mono := by
    rw [activeNoticed_twin, activeEntered, setFlags_twin]
    exact ⟨rfl, rfl⟩
  rw [enterActive_eq]
  split
  · exact hentered
  · rw [takeoverDone_twin]
    exact hentered

/-- Flash authority alone is given up (R424). -/
theorem flashYield_role (s : State) : (flashYield s).twin.role = s.twin.role ∧ (flashYield s).twin.claimOut = s.twin.claimOut := by
  unfold flashYield
  split <;> exact ⟨rfl, rfl⟩

/-- A device that leaves its role shows the new one and releases ROLE_CLAIM_N (R414). -/
theorem leaveRole_role (s : State) (r : Role) : (leaveRole s r).twin.role = r ∧ (leaveRole s r).twin.claimOut = false := by
  unfold leaveRole
  dsimp only
  split
  · rw [setFlags_twin, corrFollow_twin]
    exact flashYield_role _
  · rw [corrFollow_twin]
    exact flashYield_role _

theorem dualClaim_role (s : State) : (dualClaim s).twin.role = .standby ∧ (dualClaim s).twin.claimOut = false := by
  rw [dualClaim, setFlags_twin, State.bump_twin]
  exact leaveRole_role s .standby

end Sys2Proof.Machine
end

section
/-!
SUPPORT. Roles of the twin (R411 to R421): each command of the role machine and of the heartbeat paths, by the states in which it acts.
-/
namespace Sys2Proof.Machine

variable {s : State} {who : Who}

/-! ## Heartbeats and silence (R412, R413) -/

theorem pinHeartbeat_off (h : isRunning s = false ∨ tst (s.rw .TWN_CFG) 28 = true) : pinHeartbeat s = s :=
  if_pos (by rcases h with h | h <;> simp [h])

theorem pinHeartbeat_toggles (hr : isRunning s = true) (hs : tst (s.rw .TWN_CFG) 28 = false) : pinHeartbeat s =
    occ ({ s with twin := { s.twin with hbOut := !s.twin.hbOut } }.emit (.pin 54 (!s.twin.hbOut) (16 * s.now : Nat))) 39 0x10 0 :=
  if_neg (by rw [hr, hs]; decide)

theorem heartbeatSend_off (h : s.twin.role = .off ∨ tst (s.rw .TWN_CFG) 28 = true ∨ hasTwin s = false) : heartbeatSend s = s :=
  if_pos (by simpa using h)

theorem heartbeatSend_sends (hrole : s.twin.role ≠ .off) (hs : tst (s.rw .TWN_CFG) 28 = false) (ht : hasTwin s = true) :
    heartbeatSend s = msgQueue { s with twin := { s.twin with hbSeq := (s.twin.hbSeq + 1) % 65536 } } 0 0 2
      (put 29 3 (roleCode s.twin.role) ||| bitw 28 (twinId s) ||| put 26 2 (devNo s) ||| bitw 25 (!s.twin.pinSilent) |||
        bitw 24 (s.time.servo == .locked) ||| put 0 16 s.twin.hbSeq) (wd s.twin.validSeq) [] :=
  if_neg (by simp [hrole, hs, ht])

theorem hbInEdge_off (h : isRunning s = false ∨ hasTwin s = false ∨ tst (s.rw .TWN_CFG) 27 = false) : hbInEdge s = s :=
  if_pos (by rcases h with h | h | h <;> simp [h])

/-- An edge of HB_IN ends the pin path's silence and the failure; a link path that stays silent is flagged. -/
theorem hbInEdge_event (hr : isRunning s = true) (ht : hasTwin s = true) (he : tst (s.rw .TWN_CFG) 27 = true) :
    let u := occ s 39 0x11 0
    let v := { u with twin := { u.twin with pinSilent := false, failed := false } }
    hbInEdge s = if s.twin.failed then v.setFlags .TWN_STATUS 0 0 (2 + 4 * b2n s.twin.linkSilent + 8 * b2n false) else v := by
  have htwin : (occ s 39 0x11 0).twin = s.twin := occ_twin s _ _ _ _
  intro u v
  have hevent : hbInEdge s = heartbeatEvent u true := if_neg (by rw [hr, ht, he]; decide)
  rw [hevent, ← htwin]
  rfl

section
variable (hr : isRunning s = true) (ht : hasTwin s = true)
include hr ht

theorem pathSilent_link_again (h : s.twin.linkSilent = true) : pathSilent s false = s := by
  simp [pathSilent, hr, ht, h]

/-- The link path falls silent, and no other enabled path has an event: the twin has failed. -/
theorem pathSilent_link_fails (h : s.twin.linkSilent = false) (hp : s.twin.pinSilent = true ∨ tst (s.rw .TWN_CFG) 27 = false) :
    pathSilent s false = { s with twin := { s.twin with linkSilent := true, failed := true } }.setFlags .TWN_STATUS 0 0 16 := by
  rcases hp with hp | hp <;> simp [pathSilent, hr, ht, h, hp]

theorem pathSilent_link_degrades (h : s.twin.linkSilent = false) (hp : s.twin.pinSilent = false) (he : tst (s.rw .TWN_CFG) 27 = true) :
    pathSilent s false = { s with twin := { s.twin with linkSilent := true } }.setFlags .TWN_STATUS 0 0 4 := by
  simp [pathSilent, hr, ht, h, hp, he]

/-- The enabled pin path falls silent: the twin has failed where the link path is silent too. -/
theorem pathSilent_pin (he : tst (s.rw .TWN_CFG) 27 = true) (h : s.twin.pinSilent = false) : pathSilent s true =
    if s.twin.linkSilent then { s with twin := { s.twin with pinSilent := true, failed := true } }.setFlags .TWN_STATUS 0 0 16
      else { s with twin := { s.twin with pinSilent := true } }.setFlags .TWN_STATUS 0 0 8 := by
  simp [pathSilent, hr, ht, he, h]

end

/-! ## Claims (R414, R415) -/

theorem roleClaim_claims (hst : s.twin.role = .standby) (htrig : s.twin.entry = true ∨ s.twin.failed = true ∨ s.twin.peerRole = 4)
    (hhigh : 157 ≤ s.twin.high) (ht : hasTwin s = true) : roleClaim s = { s with twin := { s.twin with
      role := .claiming, claimOut := true, claimTicks := 0, entry := false
      atStart := s.twin.entry && !s.twin.failed && s.twin.peerRole != 4 } } :=
  if_pos ⟨hst, htrig, hhigh, ht⟩

theorem roleClaim_waits (h : s.twin.role ≠ .standby ∨ s.twin.high < 157 ∨ hasTwin s = false ∨
    (s.twin.entry = false ∧ s.twin.failed = false ∧ s.twin.peerRole ≠ 4)) : roleClaim s = s := by
  refine if_neg ?_
  rintro ⟨hst, htrig, hhigh, ht⟩
  rcases h with h | h | h | ⟨hentry, hfailed, hpeer⟩
  · exact h hst
  · exact absurd hhigh (Nat.not_le.mpr h)
  · simp [h] at ht
  · simp [hentry, hfailed, hpeer] at htrig

theorem claimResolve_waits (h : s.twin.role ≠ .claiming ∨ s.twin.claimTicks < 63) : claimResolve s = s := if_pos h

section
variable (hst : s.twin.role = .claiming) (h63 : 63 ≤ s.twin.claimTicks)
include hst h63

theorem claimResolve_enters (h : s.twin.peerClaim = false) : claimResolve s = enterActive s := by
  simp [claimResolve, hst, Nat.not_lt.mpr h63, h]

theorem claimResolve_yields (h : s.twin.peerClaim = true) (hid : twinId s = true ∨ 126 ≤ s.twin.claimTicks) :
    claimResolve s = dualClaim s := by
  rcases hid with hid | hid <;> simp [claimResolve, hst, Nat.not_lt.mpr h63, h, hid]

theorem claimResolve_stays (h : s.twin.peerClaim = true) (hid : twinId s = false) (h126 : s.twin.claimTicks < 126) :
    claimResolve s = s := by
  simp [claimResolve, hst, Nat.not_lt.mpr h63, h, hid, h126]

end

/-! ## Handover, release and takeover (R414, R417, R421) -/

/-- What a write of TWN_CMD that starts no self-test brings of measurements. -/
def unmeasured : Measured := { hbRate := 0, hbBack := false, watch := [], claimHigh := false, peerHigh := false, ramOk := false }

theorem regWrite_twnCmd {w : Word} (c : Nat) (h : fld w 29 3 ≠ 3) :
    regWrite s c ⟨.TWN_CMD, 0, 0⟩ w false = twnCmd s w unmeasured := if_neg h

theorem twnCmd_handover {w : Word} (h : fld w 29 3 = 1) (m : Measured) : twnCmd s w m = handover s := by simp only [twnCmd, h]

/-- Whether a device has a twin rests on the Roast (R411). -/
theorem hasTwin_congr {t : State} (h : t.roast = s.roast) : hasTwin t = hasTwin s := by
  simp only [hasTwin, laneMode, laneRec, h]

theorem hasTwin_touched (s : State) (r : Reg) : hasTwin (touched s r) = hasTwin s := hasTwin_congr (touched_reports s r).roast_eq

theorem handover_releases (h : s.twin.role = .active) (ht : hasTwin s = true) :
    handover s = snapshotTake { s with twin := { s.twin with role := .releasing, taking := false, since := none } } := if_pos ⟨h, ht⟩

theorem handover_other (h : s.twin.role ≠ .active ∨ hasTwin s = false) : handover s = s := by
  refine if_neg ?_
  rintro ⟨hrole, ht⟩
  rcases h with h | h
  · exact h hrole
  · simp [h] at ht

theorem roleRelease_ends (hst : s.twin.role = .releasing) (hm : ∀ m ∈ (s.link 0).msgs, m.kind ≠ 7)
    (h0 : mget false s.time.pps 0 = false) (h1 : mget false s.time.pps 1 = false) (hi : s.time.irigBusy = false) :
    roleRelease s = leaveRole s .standby :=
  if_pos (by simpa [hst, h0, h1, hi] using hm)

theorem roleRelease_waits (h : s.twin.role ≠ .releasing ∨ s.time.irigBusy = true) : roleRelease s = s :=
  if_neg (by rcases h with h | h <;> simp [h])

theorem flashPoll_off (r : Bool) (h : s.twin.role ≠ .active ∨ s.twin.taking = false ∨ tst (s.rw .TWN_CFG) 30 = false) :
    flashPoll s r = s := if_pos (by simpa using h)

theorem flashResetTimeout_off (h : s.twin.role ≠ .active ∨ s.twin.taking = false ∨ tst (s.rw .TWN_CFG) 30 = false) :
    flashResetTimeout s = s := if_neg (by rcases h with h | h | h <;> simp [h])

section
variable (hst : s.twin.role = .active) (htk : s.twin.taking = true) (hsh : tst (s.rw .TWN_CFG) 30 = true)
include hst htk hsh

/-- Before the reset commands a poll asks the flash, and the takeover is complete once it is ready. -/
theorem flashPoll_asks (hrst : s.twin.flashReset = false) (r : Bool) : flashPoll s r =
    let u := s.emit (.flash 5 0 [])
    if r then takeoverDone { u with twin := { s.twin with flashAuth := true } } else u := by
  cases r <;> simp [flashPoll, hst, htk, hsh, hrst]

theorem flashPoll_afterReset (hrst : s.twin.flashReset = true) (r : Bool) :
    flashPoll s r = takeoverDone { s with twin := { s.twin with flashAuth := true } } := by
  simp [flashPoll, hst, htk, hsh, hrst]

theorem flashResetTimeout_resets (hrst : s.twin.flashReset = false) :
    flashResetTimeout s = { s with twin := { s.twin with flashReset := true } }.emit (.flash 6 0 []) :=
  if_pos (by simp [hst, htk, hsh, hrst])

end

theorem flashResetTimeout_again (hrst : s.twin.flashReset = true) : flashResetTimeout s = s := if_neg (by simp [hrst])

/-- Settles O57: the commands of the heartbeat paths and of the role machine, one law each. -/
theorem twinRoles : Obligations.TwinRoles := by
  unfold Obligations.TwinRoles
  refine ⟨fun s h => commit_eq (pinHeartbeat_off h), fun s hr hs => commit_eq (pinHeartbeat_toggles hr hs),
    fun s h => commit_eq (heartbeatSend_off h), fun s hrole hs ht => commit_eq (heartbeatSend_sends hrole hs ht),
    fun s hr ht he => commit_eq (hbInEdge_event hr ht he), fun s h => commit_eq (hbInEdge_off h),
    fun s hr ht => ⟨fun h => commit_eq (pathSilent_link_again hr ht h), fun h hp => commit_eq (pathSilent_link_fails hr ht h hp),
      fun h hp he => commit_eq (pathSilent_link_degrades hr ht h hp he), fun he h => commit_eq (pathSilent_pin hr ht he h)⟩,
    fun s hst htrig hhigh ht => commit_eq (roleClaim_claims hst htrig hhigh ht), fun s h => commit_eq (roleClaim_waits h),
    fun s h => commit_eq (claimResolve_waits h),
    fun s hst h63 => ⟨fun h => commit_eq (claimResolve_enters hst h63 h), fun h hid => commit_eq (claimResolve_yields hst h63 h hid),
      fun h hid h126 => commit_eq (claimResolve_stays hst h63 h hid h126)⟩,
    fun s => ⟨(enterActive_role s).1, (enterActive_role s).2, dualClaim_role s⟩,
    fun s who w h hm hw => ⟨fun hrole ht => commit_writeOp h hm rfl ?_, fun hoff => commit_writeOp h hm rfl ?_⟩,
    fun s hst hm h0 h1 hi => commit_eq (roleRelease_ends hst hm h0 h1 hi), fun s h => commit_eq (roleRelease_waits h),
    fun s hst htk hsh => ⟨fun hrst => ⟨commit_eq (flashPoll_asks hst htk hsh hrst false), commit_eq (flashPoll_asks hst htk hsh hrst true),
        commit_eq (flashResetTimeout_resets hst htk hsh hrst)⟩,
      fun hrst r => ⟨commit_eq (flashPoll_afterReset hst htk hsh hrst r), commit_eq (flashResetTimeout_again hrst)⟩⟩,
    fun s r h => ⟨commit_eq (flashPoll_off r h), commit_eq (flashResetTimeout_off h)⟩⟩
  · rw [regWrite_twnCmd _ (by rw [hw]; decide), twnCmd_handover hw,
      handover_releases ((congrArg Twin.role (touched_reports s _).twin_eq).trans hrole) ((hasTwin_touched s _).trans ht)]
  · rw [regWrite_twnCmd _ (by rw [hw]; decide), twnCmd_handover hw,
      handover_other (by rw [(touched_reports s _).twin_eq, hasTwin_touched]; exact hoff)]

end Sys2Proof.Machine
end

section
/-!
SUPPORT. Messages that arrive over a stitch link (R420, R425, R430 to R434): what each KIND does.
-/
namespace Sys2Proof.Machine

variable {s : State} {l : Nat}

/-- Words put one after the other from place `k + i` on: what each place then holds. -/
theorem get_foldl_zipIdx {put : State → Nat → Word → State} {get : State → Nat → Word} {k : Nat}
    (hget : ∀ s n w j, get (put s n w) j = if j = k + n then w else get s j) (ws : List Word) (s : State) (i j : Nat) :
    get ((ws.zipIdx i).foldl (fun s w => put s w.2 w.1) s) j =
      if k + i ≤ j ∧ j < k + i + ws.length then ws.getD (j - (k + i)) 0 else get s j := by
  induction ws generalizing s i with
  | nil => exact (if_neg (by simp only [List.length_nil]; omega)).symm
  | cons w ws ih =>
    rw [List.zipIdx_cons, List.foldl_cons, ih, hget]
    simp only [List.length_cons]
    by_cases hj : j = k + i
    · subst hj
      rw [if_neg (by omega), if_pos rfl, if_pos (by omega), Nat.sub_self, List.getD_cons_zero]
    · by_cases hin : k + i ≤ j ∧ j < k + i + (ws.length + 1)
      · rw [if_pos (by omega), if_pos hin, show j - (k + i) = j - (k + (i + 1)) + 1 by omega, List.getD_cons_succ]
      · rw [if_neg (by omega), if_neg hj, if_neg hin]

/-! ## HEARTBEAT (R412, R413) -/

/-- A heartbeat of the link path ends its silence and the failure. -/
theorem heartbeatEvent_link_twin (s : State) :
    (heartbeatEvent s false).twin = { s.twin with linkSilent := false, failed := false } := by
  unfold heartbeatEvent
  dsimp only
  split
  · exact setFlags_twin _ _ _ _ _
  · rfl

/-- A heartbeat event leaves the straps. -/
theorem heartbeatEvent_twinId (s : State) (pin : Bool) : twinId (heartbeatEvent s pin) = twinId s := by
  unfold heartbeatEvent twinId
  dsimp only
  split
  · exact congrArg (tst · 4) (setFlags_reg_ne _ _ (by decide))
  · rfl

theorem occ_twinId (s : State) (b ev sub n : Nat) (hb : b < 40) : twinId (occ s b ev sub n) = twinId s :=
  congrArg (tst · 4) (occ_reg s b ev sub n hb (by decide) (fun k _ => by simp only [Reg.key, Fam.row]; omega))

/-- A heartbeat of the other device that makes no claim against a claim gives the peer's role. -/
theorem heartbeatRx_twin {a : Word} (ht : hasTwin s = true) (hid : tst a 28 = !twinId s)
    (hdual : ¬ (s.twin.role = .active ∧ fld a 29 3 = 3 ∧ twinId s = true)) :
    (heartbeatRx s a).twin = { s.twin with linkSilent := false, failed := false, peerRole := fld a 29 3 } := by
  let v := heartbeatEvent (occ s 39 0x11 0) false
  let w := { v with twin := { v.twin with peerRole := fld a 29 3 } }
  have hv : v.twin = { s.twin with linkSilent := false, failed := false } :=
    (heartbeatEvent_link_twin _).trans (by rw [occ_twin])
  have hwid : twinId w = twinId s := (heartbeatEvent_twinId _ _).trans (occ_twinId s _ _ _ _ (by decide))
  have hother : ¬ ((tst a 28 == twinId s) = true) := by rw [hid]; cases twinId s <;> decide
  have hno : ¬ ((w.twin.role == .active && fld a 29 3 == 3 && twinId w) = true) := by
    have hrole : w.twin.role = s.twin.role := by
      show v.twin.role = _
      rw [hv]
    rw [hwid, hrole]
    simpa [and_assoc] using hdual
  have hrx : heartbeatRx s a = w := by
    unfold heartbeatRx
    rw [if_neg (by rw [ht]; decide), if_neg hother]
    exact if_neg hno
  rw [hrx]
  show { v.twin with peerRole := fld a 29 3 } = _
  rw [hv]

/-! ## TIME (R432) -/

/-- A TIME message whose timestamps find no match is kept for the next one. -/
theorem timeRx_unmatched {t q : Nat} {body : List Word} (h : mfind (s.link l).timeTx (body.getD 4 0).toNat = none) :
    timeRx s l t q body = s.setLink l { s.link l with timeRx := (q, t) :: (s.link l).timeRx.take 7 } := by
  simp only [timeRx, h]

/-- A TIME message that completes a set gives the link's offset and delay. -/
theorem timeRx_matched {t q t1 t2 t3 t4 : Nat} {body : List Word} (hl : l ≠ 0)
    (h1 : mfind (s.link l).timeTx (body.getD 4 0).toNat = some t1)
    (h2 : timeOf (s.setLink l { s.link l with timeRx := (q, t) :: (s.link l).timeRx.take 7 }) (body.getD 2 0) (body.getD 3 0) = some t2)
    (h3 : timeOf (s.setLink l { s.link l with timeRx := (q, t) :: (s.link l).timeRx.take 7 }) (body.getD 0 0) (body.getD 1 0) = some t3)
    (h4 : mfind (s.link l).timeRx ((q + 65535) % 65536) = some t4) :
    timeRx s l t q body = ((s.setLink l { s.link l with timeRx := (q, t) :: (s.link l).timeRx.take 7 }).wr .TWN_LINK_OFFSET l 0
      (wOfInt ((((t2 : Int) - t1) - ((t4 : Int) - t3)) / 8192))).wr .TWN_LINK_DELAY l 0
      (wOfInt ((((t2 : Int) - t1) + ((t4 : Int) - t3)) / 8192)) := by
  simp only [timeRx, h1, h2, h3, h4, if_neg hl]

/-! ## LEARN (R224) -/

theorem learnPush_enters {q : LearnReq} (hc : closed s 20 = false) (hq : s.tbl.queue.length < 1024) :
    learnPush s q = { s with tbl := { s.tbl with queue := s.tbl.queue ++ [q] } } := by
  unfold learnPush
  rw [if_neg (by rw [hc]; decide), if_neg (Nat.not_le.mpr hq)]

/-- A LEARN message of one notice brings one request to the learning queue. -/
theorem learnRx_one {a w0 w1 w2 : Word} (ha : fld a 0 4 = 1) (hc : closed s 20 = false) (hq : s.tbl.queue.length < 1024) :
    let u := occ s (29 + l) 0x13 0 1
    learnRx s l a [w0, w1, w2] = { u with tbl := { u.tbl with queue := u.tbl.queue ++ [{
      fid := fld w0 16 12, mac := fld w0 0 16 * 2 ^ 32 + w1.toNat, ref := fld w2 0 10, refresh := false, notice := true }] } } := by
  have hu := occ_reports s (29 + l) 0x13 0 1
  intro u
  have hrx : learnRx s l a [w0, w1, w2] = learnPush u {
      fid := fld w0 16 12, mac := fld w0 0 16 * 2 ^ 32 + w1.toNat, ref := fld w2 0 10, refresh := false, notice := true } := by
    have hn : min 1 ([w0, w1, w2].length / 3) = 1 := by simp
    simp only [learnRx, ha, hn]
    rfl
  rw [hrx]
  exact learnPush_enters ((hu.closed_eq 20).trans hc) (by rw [hu.tbl_eq]; exact hq)

/-! ## IMAGE_BLOCK and IMAGE_ACK (R434) -/

theorem imageBlockRx_ignored {off : Nat} {d : Bytes} (h : s.boot.st ≠ .load ∨ bootSrc s ≠ 2) : imageBlockRx s off d = s := if_pos h

/-- A block that does not lie at the byte expected is answered with the byte expected. -/
theorem imageBlockRx_misplaced {off : Nat} {d : Bytes} (hst : s.boot.st = .load) (hsrc : bootSrc s = 2) (h0 : off ≠ 0)
    (hoff : off ≠ s.boot.rx.length) :
    imageBlockRx s off d = imageAck { s with twin := { s.twin with blocksCame := true } } s.boot.rx.length 1 0 := by
  unfold imageBlockRx
  rw [if_neg (by simp [hst, hsrc])]
  dsimp only
  rw [if_neg h0, if_pos hoff]

theorem imageAckRx_stopped {a b : Word} (h : isRunning s = false) : imageAckRx s a b = s := if_pos (by rw [h]; rfl)

/-- An IMAGE_ACK that accepts or rejects the image ends its passing. -/
theorem imageAckRx_ends {a b : Word} (hr : isRunning s = true) (h : 2 ≤ fld b 0 8) :
    imageAckRx s a b = { s with twin := { s.twin with image := none } } := by
  obtain ⟨n, hn⟩ : ∃ n, fld b 0 8 = n + 2 := ⟨fld b 0 8 - 2, by omega⟩
  unfold imageAckRx
  rw [if_neg (by rw [hr]; decide), hn]
  rfl

/-! ## SNAPSHOT and HEALTH (R417, R425) -/

theorem snapshotRx_other {a b : Word} {body : List Word} (h1 : s.twin.role ≠ .standby) (h2 : s.twin.role ≠ .claiming) :
    snapshotRx s a b body = s := if_pos (by simp [h1, h2])

/-- The first message of a record of several is kept in the buffer that does not hold the latest valid snapshot. -/
theorem snapshotRx_first {a b : Word} {body : List Word} (hrole : s.twin.role = .standby ∨ s.twin.role = .claiming)
    (hfirst : fld b 16 15 = 0) (hmore : body.length < fld b 0 15) (htotal : fld b 0 15 ≤ 16384) :
    let k := 16384 * (if s.twin.valid = some 0 then 1 else 0)
    let t := body.zipIdx.foldl (fun s w => s.setRamW (k + w.2) w.1) s
    snapshotRx s a b body = { t with twin := { s.twin with rx := some ⟨a.toNat, fld b 0 15, body.length⟩ } } := by
  have hkeeps : ¬ ((!(s.twin.role == .standby || s.twin.role == .claiming)) = true) := by
    rcases hrole with h | h <;> simp [h]
  have hgoes : ¬ ((!(decide (0 + body.length ≤ fld b 0 15) && decide (fld b 0 15 ≤ 16384) &&
      (0 == 0 || s.twin.rx == some ⟨a.toNat, fld b 0 15, 0⟩))) = true) := by
    simp [htotal, Nat.le_of_lt hmore]
  unfold snapshotRx
  rw [if_neg hkeeps, hfirst]
  dsimp only
  rw [if_neg hgoes, Nat.zero_add, if_pos hmore]
  rfl

/-- Words stored one after the other in the retention RAM. -/
theorem foldl_setRamW_ramW (k : Nat) (ws : List Word) (s : State) (j : Nat) :
    (ws.zipIdx.foldl (fun s w => s.setRamW (k + w.2) w.1) s).ramW j =
      if k ≤ j ∧ j < k + ws.length then ws.getD (j - k) 0 else s.ramW j :=
  get_foldl_zipIdx (put := fun s n w => s.setRamW (k + n) w) (get := State.ramW) (fun s n w j => ramW_setRamW s (k + n) j w) ws s 0 j

/-- The words of a HEALTH message are shown in TWN_PEER_HEALTH. -/
theorem healthRx_word {body : List Word} {k : Nat} (h8 : k < 8) (hk : k < body.length) :
    (healthRx s body).rw .TWN_PEER_HEALTH k = body.getD k 0 := by
  have hput (s : State) (n : Nat) (w : Word) (j : Nat) : (s.wr .TWN_PEER_HEALTH n 0 w).rw .TWN_PEER_HEALTH j =
      if j = 0 + n then w else s.rw .TWN_PEER_HEALTH j := by
    rw [Nat.zero_add]
    split
    · rename_i h
      rw [h, rw_wr_same]
    · rename_i h
      exact rw_wr_ne s w (by simp only [Reg.key, Fam.row]; omega)
  have hword := get_foldl_zipIdx (get := fun s j => s.rw .TWN_PEER_HEALTH j) hput (body.take 8) s 0 k
  have hlen : (body.take 8).length = min 8 body.length := List.length_take
  rw [if_pos (by rw [hlen]; omega)] at hword
  refine hword.trans ?_
  simp only [List.getD_eq_getElem?_getD, Nat.sub_zero, Nat.add_zero, List.getElem?_take, if_pos h8]

end Sys2Proof.Machine
end

section
/-!
SUPPORT. Frames that arrive in segments over a stitch link (R427, R429, R431): what a segment makes of the frame of its channel.
-/
namespace Sys2Proof.Machine

variable {s : State} {l ch id : Nat} {f : CFrame} {w : Word} {d : Bytes}

/-! ## Frames whose lookup has not begun -/

/-- Two entries at one key: the later stands alone. -/
theorem mins_mins {α : Type} (m : List (Nat × α)) (k : Nat) (v w : α) : mins (mins m k v) k w = mins m k w := by
  induction m with
  | nil => simp [mins]
  | cons p t ih =>
    obtain ⟨a, x⟩ := p
    simp only [mins]
    split
    · simp [mins]
    · split
      · simp [mins]
      · rename_i hlt hne
        rw [mins, if_neg hlt, if_neg hne, ih]

theorem setFrm_setFrm (s : State) (id : Nat) (x y : CFrame) : (s.setFrm id x).setFrm id y = s.setFrm id y := by
  simp only [State.setFrm, mins_mins]

theorem frm_setFrm_same (s : State) (id : Nat) (x : CFrame) : (s.setFrm id x).frm id = some x := mfind_mins_same _ _ _

/-- A frame whose lookup has not begun enters no pipeline (R30). -/
theorem lookupResume_notStarted (h : s.frm id = some f) (hst : f.started = false) : lookupResume s id = s := by
  simp only [lookupResume, h, hst, Bool.false_and, if_false, Bool.false_eq_true]

/-- A frame that is not trapped fills no buffer (R197). -/
theorem dripFollow_none (h : s.frm id = some f) (hd : f.drip = none) : dripFollow s id = s := by
  simp only [dripFollow, h, hd]

/-- The end of a frame whose lookup has not begun is left to its verdict. -/
theorem frameEnds_notStarted (h : s.frm id = some f) (hst : f.started = false) : frameEnds s id = s.setFrm id f := by
  have hmod : s.modFrm id (fun f => if f.started && !f.looked then { f with ended := true }.stampCells s.car.slot else f) =
      s.setFrm id f := by
    rw [modFrm_found h, hst]
    rfl
  rw [frameEnds, hmod, lookupResume_notStarted (frm_setFrm_same s id f) hst]

/-! ## The frame of a channel -/

/-- The frame `f` with a segment's bytes, and with a code error where the link's FIFO failed within it (R138). -/
def segGrown (s : State) (f : CFrame) (d : Bytes) (e : Bool) : CFrame :=
  { f with bytes := f.bytes ++ d, codeErr := f.codeErr || e }.stampCells s.car.slot

section
variable (hch : mfind (s.link l).rx ch = some (some id)) (hf : s.frm id = some f) (hend : f.ended = false)
  (hst : f.started = false) (hdrip : f.drip = none)
include hf hend hst hdrip

/-- A segment's bytes join its frame, and set off nothing else before the lookup. -/
theorem segData_grows (d : Bytes) (e : Bool) :
    let u := if e then s.modFrm id (fun f => { f with codeErr := true }) else s
    dripFollow (lookupResume
      (u.modFrm id (fun f => if f.ended then f else { f with bytes := f.bytes ++ d }.stampCells u.car.slot)) id) id =
      s.setFrm id (segGrown s f d e) := by
  have hgrown := frm_setFrm_same s id (segGrown s f d e)
  have hjoin : (if e then s.modFrm id (fun f => { f with codeErr := true }) else s).modFrm id
      (fun f => if f.ended then f else { f with bytes := f.bytes ++ d }.stampCells
        (if e then s.modFrm id (fun f => { f with codeErr := true }) else s).car.slot) = s.setFrm id (segGrown s f d e) := by
    cases e
    · simp only [Bool.false_eq_true, if_false, modFrm_found hf, hend, segGrown, Bool.or_false]
    · simp only [if_true, modFrm_found hf, modFrm_found (frm_setFrm_same s id _), setFrm_setFrm, hend, Bool.false_eq_true,
        if_false, segGrown, Bool.or_true]
      rfl
  intro u
  rw [hjoin, lookupResume_notStarted hgrown hst, dripFollow_none hgrown hdrip]

include hch

/-- A segment that is not the last continues the frame of its channel. -/
theorem segData_continues (bad : Bool) (d : Bytes) : segData s l ch false bad d =
    s.setFrm id ({ f with bytes := f.bytes ++ d }.stampCells s.car.slot) := by
  have hgrows := segData_grows hf hend hst hdrip d false
  have hgrown : segGrown s f d false = { f with bytes := f.bytes ++ d }.stampCells s.car.slot := by
    rw [segGrown, Bool.or_false]
  simp only [segData, hch]
  exact hgrows.trans (by rw [hgrown])

/-- The last segment frees the channel and forms the verdict of the frame (R427, R431). -/
theorem segData_ends (bad : Bool) (d : Bytes) (e : Bool) :
    let u := s.setFrm id (segGrown s f d e)
    let v := u.setLink l { s.link l with rx := mdel (s.link l).rx ch }
    segData s l ch true bad d e =
      if bad then verdictFx (countRxAll (v.bump .TWN_BAD_END l) (130 + l) (f.bytes ++ d).length) id false
      else if fcsGood (f.bytes ++ d) && !(f.codeErr || e) then verdictFx (countRxGood v (130 + l) (f.bytes ++ d)) id true
      else verdictFx (countRxBad v (130 + l) (f.bytes ++ d).length (if f.codeErr || e then 19 else 18)) id false := by
  intro u v
  have hgrows := segData_grows hf hend hst hdrip d e
  have hv : v.frm id = some (segGrown s f d e) := frm_setFrm_same s id _
  have hends : frameEnds v id = v := by
    rw [frameEnds_notStarted hv hst]
    exact congrArg (fun t : State => t.setLink l { s.link l with rx := mdel (s.link l).rx ch }) (setFrm_setFrm s id _ _)
  have hfree : chanFreeRx u l ch = v := rfl
  dsimp only at hgrows
  simp only [segData, hch, hgrows]
  rw [hfree, hends]
  simp only [hv]
  rfl

end

/-! ## Data segments (R427, R429) -/

/-- A segment that does not fit its channel, or whose length is wrong, is an error and ends the channel's frame. -/
theorem dataSeg_misfit (h : 144 < fld w 8 8 ∨ (fld w 8 8 = 0 ∧ ¬ (tst w 18 = true ∧ tst w 17 = true)) ∨
    tst w 19 = (mfind (s.link l).rx ch).isSome) : dataSeg s l ch w d =
    chanBad ((s.setLink l { s.link l with got := ((s.link l).got + 1) % 65536 }).bump .TWN_SEG_ERR l) l ch :=
  if_pos (by simpa [imp_iff_not_or] using h)

section
variable (h144 : fld w 8 8 ≤ 144)
include h144

/-- A segment after the first one continues the frame of its busy channel. -/
theorem dataSeg_next (hpos : 0 < fld w 8 8) (hfirst : tst w 19 = false) (hbusy : (mfind (s.link l).rx ch).isSome = true) :
    dataSeg s l ch w d = segData (s.setLink l { s.link l with got := ((s.link l).got + 1) % 65536 }) l ch (tst w 18) (tst w 17)
      (slice d 0 (fld w 8 8)) := by
  have hfits : ¬ (fld w 8 8 > 144 ∨ (fld w 8 8 = 0 ∧ (!(tst w 18 && tst w 17)) = true) ∨
      tst w 19 = (mfind (s.link l).rx ch).isSome) := by
    rw [hfirst, hbusy]; simp; omega
  unfold dataSeg
  dsimp only
  rw [if_neg hfits, if_neg (by rw [hfirst]; decide)]

section
variable (hfirst : tst w 19 = true) (hfree : mfind (s.link l).rx ch = none) (hlen : 16 ≤ fld w 8 8)
include hfirst hfree hlen

theorem dataSeg_fits : ¬ (fld w 8 8 > 144 ∨ (fld w 8 8 = 0 ∧ (!(tst w 18 && tst w 17)) = true) ∨
    tst w 19 = (mfind (s.link l).rx ch).isSome) := by
  rw [hfirst, hfree]; simp; omega

/-- A first segment with a good header begins a frame on its free channel (R429). -/
theorem dataSeg_begins
    (hcrc : crc16 0xFFFF (slice (slice d 0 (fld w 8 8)) 0 14) = beAt (slice d 0 (fld w 8 8)) 14 2)
    (hkind : fld (wordAt (slice d 0 (fld w 8 8)) 0) 28 4 = 1) :
    let u := s.setLink l { s.link l with got := ((s.link l).got + 1) % 65536 }
    let r := u.newFrm (stitchFrame u l (slice d 0 (fld w 8 8)))
    dataSeg s l ch w d = segData (r.1.setLink l { u.link l with rx := mins (u.link l).rx ch (some r.2) }) l ch (tst w 18) (tst w 17)
      ((slice d 0 (fld w 8 8)).drop 16) := by
  unfold dataSeg
  dsimp only
  rw [if_neg (dataSeg_fits h144 hfirst hfree hlen), if_pos hfirst, if_pos ⟨hcrc, hkind, hlen⟩]
  rfl

/-- A whole frame whose header fails its check is counted and leaves nothing (R429). -/
theorem dataSeg_badHeader (hlast : tst w 18 = true)
    (hcrc : crc16 0xFFFF (slice (slice d 0 (fld w 8 8)) 0 14) ≠ beAt (slice d 0 (fld w 8 8)) 14 2) :
    dataSeg s l ch w d = (s.setLink l { s.link l with got := ((s.link l).got + 1) % 65536 }).bump .TWN_HCRC_ERR l := by
  unfold dataSeg
  dsimp only
  rw [if_neg (dataSeg_fits h144 hfirst hfree hlen), if_pos hfirst, if_neg (fun h => hcrc h.1), if_pos hlast]

end
end

end Sys2Proof.Machine
end

section
/-!
SUPPORT. Segments and messages on a stitch link (R104, R426, R427, R430): on a link that is down, behind a closed wrapper, and on a link
that is up.
-/
namespace Sys2Proof.Machine

variable {s : State} {l half kind : Nat} {w : Word} {d m : Bytes} {e : Bool}

theorem link_congr {t : State} (h : t.links = s.links) (k : Nat) : t.link k = s.link k := by rw [State.link, h]; rfl

/-- A timestamp rests on the time alone (R311). -/
theorem stamp_congr {t : State} (h : t.time = s.time) (half : Nat) : t.stamp half = s.stamp half := by
  simp only [State.stamp, State.now, h]

/-! ## The word of a message's one segment (R426, R427) -/

/-- The word of a message's segment, less its length: a SEG block of channel 15 that is first and last. -/
theorem toNat_segWord (n : Nat) : (segWord 15 true true false n).toNat = 0x78FC0000 + 2 ^ 8 * (n % 2 ^ 8) := by
  have hlen := toNat_put 8 8 n (by decide)
  have hhead : segWord 15 true true false n = (0x78FC0000 : Word) ||| put 8 8 n := rfl
  rw [hhead, toNat_or_of_lt (lo := 18) (q := 0x1E3F) rfl (by rw [hlen]; omega), hlen]
  rfl

theorem type_segWord (n : Nat) : fld (segWord 15 true true false n) 24 8 = 0x78 := by
  rw [fld, toNat_segWord, Nat.shiftRight_eq_div_pow]; omega

theorem chan_segWord (n : Nat) : fld (segWord 15 true true false n) 20 4 = 15 := by
  rw [fld, toNat_segWord, Nat.shiftRight_eq_div_pow]; omega

theorem len_segWord {n : Nat} (h : n ≤ 144) : fld (segWord 15 true true false n) 8 8 = n := by
  rw [fld, toNat_segWord, Nat.shiftRight_eq_div_pow]; omega

theorem first_segWord (n : Nat) : tst (segWord 15 true true false n) 19 = true := by
  rw [tst, toNat_segWord, Nat.testBit_eq_decide_div_mod_eq, decide_eq_true_eq]; omega

theorem last_segWord (n : Nat) : tst (segWord 15 true true false n) 18 = true := by
  rw [tst, toNat_segWord, Nat.testBit_eq_decide_div_mod_eq, decide_eq_true_eq]; omega

/-! ## Segments -/

theorem segRx_down (hc : closed s (29 + l) = false) (hdown : (s.link l).up = false) : segRx s l half w d e = s := by
  unfold segRx
  rw [if_neg (by rw [hc]; simp), if_pos (by rw [hdown]; rfl)]

/-- A closed wrapper counts what begins a frame or a message, and discards the rest (R104). -/
theorem segRx_closed (hl : l < 3) (hc : closed s (29 + l) = true) : segRx s l half w d e =
    if fld w 24 8 = 0x78 ∧ tst w 19 = true then isoDiscard s (29 + l) else s :=
  if_pos (by simp [hl, hc])

/-- The state in which a segment has arrived: its blocks are counted (R402). -/
def segCounted (s : State) (l : Nat) (w : Word) : State := occ s (29 + l) 0x11 0 (1 + ceilDiv (fld w 8 8) 8)

/-- The same with the credit of a message's segment taken (R428). -/
def msgTaken (s : State) (l : Nat) (w : Word) : State :=
  (segCounted s l w).setLink l { s.link l with msgGot := ((s.link l).msgGot + 1) % 256 }

section
variable (hc : closed s (29 + l) = false) (hup : (s.link l).up = true) (hawake : leftAsleep s (224 + l) = false)
include hc hup hawake

/-- What a segment does on a link that is up, by the TYPE and the channel of its word. -/
theorem segRx_up : segRx s l half w d e =
    if fld w 24 8 = 0xB4 ∨ fld w 24 8 = 0x1E then segCounted s l w
    else if fld w 24 8 ≠ 0x78 then (segCounted s l w).bump .TWN_SEG_ERR l
    else if fld w 20 4 < 15 then
      if e then dataSeg ((segCounted s l w).setFlags .LN_STATUS ((linkLanes l).headD 32) 0 2) l (fld w 20 4) w d true
      else dataSeg (segCounted s l w) l (fld w 20 4) w d
    else if !tst w 19 || !tst w 18 then (msgTaken s l w).bump .TWN_SEG_ERR l
    else msgRx (msgTaken s l w) l half (slice d 0 (fld w 8 8)) := by
  have hlink : (segCounted s l w).link l = s.link l := link_congr (occ_links s _ _ _ _) l
  unfold msgTaken
  rw [← hlink]
  unfold segRx
  rw [if_neg (by rw [hc]; simp), if_neg (by rw [hup]; decide), leftMaybe_awake _ hawake]
  rfl

theorem segRx_noSegment (h : fld w 24 8 = 0xB4 ∨ fld w 24 8 = 0x1E) : segRx s l half w d e = segCounted s l w := by
  rw [segRx_up hc hup hawake, if_pos h]

theorem segRx_unknown (h1 : fld w 24 8 ≠ 0xB4) (h2 : fld w 24 8 ≠ 0x78) (h3 : fld w 24 8 ≠ 0x1E) :
    segRx s l half w d e = (segCounted s l w).bump .TWN_SEG_ERR l := by
  rw [segRx_up hc hup hawake, if_neg (not_or.mpr ⟨h1, h3⟩), if_pos h2]

theorem segRx_data (ht : fld w 24 8 = 0x78) (hch : fld w 20 4 < 15) : segRx s l half w d e =
    if e then dataSeg ((segCounted s l w).setFlags .LN_STATUS ((linkLanes l).headD 32) 0 2) l (fld w 20 4) w d true
    else dataSeg (segCounted s l w) l (fld w 20 4) w d := by
  rw [segRx_up hc hup hawake, if_neg (by rw [ht]; decide), if_neg (not_not.mpr ht), if_pos hch]

theorem segRx_partial (ht : fld w 24 8 = 0x78) (hch : fld w 20 4 = 15) (h : tst w 19 = false ∨ tst w 18 = false) :
    segRx s l half w d e = (msgTaken s l w).bump .TWN_SEG_ERR l := by
  rw [segRx_up hc hup hawake, if_neg (by rw [ht]; decide), if_neg (not_not.mpr ht), if_neg (by rw [hch]; decide),
    if_pos (by rcases h with h | h <;> simp [h])]

/-- A message of at most 144 bytes is judged whole. -/
theorem segRx_message (h144 : m.length ≤ 144) : segRx s l half (segWord 15 true true false m.length) m false =
    msgRx (msgTaken s l (segWord 15 true true false m.length)) l half m := by
  have hwhole : slice m 0 m.length = m := by simp [slice]
  rw [segRx_up hc hup hawake, if_neg (by rw [type_segWord]; decide), if_neg (by rw [type_segWord]; decide),
    if_neg (by rw [chan_segWord]; decide), if_neg (by rw [first_segWord, last_segWord]; decide), len_segWord h144, hwhole]

end

/-! ## Messages -/

theorem msgRow_kind (hk : fld (wordAt m 0) 28 4 = kind) :
    msgRow s l half kind m = segRx s l half (segWord 15 true true false m.length) m := if_pos hk

theorem msgRow_down (hc : closed s (29 + l) = false) (hdown : (s.link l).up = false) (kind : Nat) : msgRow s l half kind m = s := by
  unfold msgRow
  split
  · exact segRx_down hc hdown
  · rfl

theorem msgRow_closed (hl : l < 3) (hc : closed s (29 + l) = true) (hk : fld (wordAt m 0) 28 4 = kind) :
    msgRow s l half kind m = isoDiscard s (29 + l) := by
  rw [msgRow_kind hk, segRx_closed hl hc, if_pos ⟨type_segWord _, first_segWord _⟩]

theorem msgRx_bad (h : msgGood l m = false) : msgRx s l half m = s.bump .TWN_MSG_ERR l := if_pos (by rw [h]; rfl)

/-- A good message does what its KIND says (R430). -/
theorem msgRx_good (h : msgGood l m = true) :
    let w := wordAt m
    let body := (List.range (m.length / 4 - 5)).map (fun i => w (4 + i))
    let k := fld (w 0) 28 4
    (k = 2 → msgRx s l half m = heartbeatRx s (w 1)) ∧
    (k = 3 → msgRx s l half m = timeRx s l (s.stamp half) (fld (w 0) 0 16) body) ∧
    (k = 4 → msgRx s l half m = learnRx s l (w 1) body) ∧
    (k = 5 → msgRx s l half m = imageBlockRx s (w 1).toNat (slice m 16 (4 * (m.length / 4 - 5)))) ∧
    (k = 6 → msgRx s l half m = imageAckRx s (w 1) (w 2)) ∧
    (k = 7 → msgRx s l half m = snapshotRx s (w 1) (w 2) body) ∧
    (k = 8 → msgRx s l half m = healthRx s body) := by
  have hgood : ¬ ((!msgGood l m) = true) := by rw [h]; decide
  refine ⟨fun hk => ?_, fun hk => ?_, fun hk => ?_, fun hk => ?_, fun hk => ?_, fun hk => ?_, fun hk => ?_⟩ <;>
    simp only [msgRx, if_neg hgood, hk]

/-- The row of a KIND on a link that is up: its message is judged whole, with the credit of its segment taken. -/
theorem msgRow_up (hc : closed s (29 + l) = false) (hup : (s.link l).up = true) (hawake : leftAsleep s (224 + l) = false)
    (h144 : m.length ≤ 144) (hk : fld (wordAt m 0) 28 4 = kind) : msgRow s l half kind m =
      msgRx ((occ s (29 + l) 0x11 0 (1 + ceilDiv m.length 8)).setLink l { s.link l with msgGot := ((s.link l).msgGot + 1) % 256 })
        l half m := by
  rw [msgRow_kind hk, segRx_message hc hup hawake h144, msgTaken, segCounted, len_segWord h144]

/-- Settles O60: segments by their words, messages by their KINDs, and frames by their segments. -/
theorem stitchSegmentsAndMessages : Obligations.StitchSegmentsAndMessages := by
  unfold Obligations.StitchSegmentsAndMessages
  refine ⟨fun s l half w d e hc hdown => ⟨commit_eq (segRx_down hc hdown), commit_eq (msgRow_down hc hdown 2),
      commit_eq (msgRow_down hc hdown 3), commit_eq (msgRow_down hc hdown 4)⟩,
    fun s l half w d e hl hc => ⟨fun ht hfirst => commit_eq ((segRx_closed hl hc).trans (if_pos ⟨ht, hfirst⟩)),
      fun h => commit_eq ((segRx_closed hl hc).trans (if_neg ?_)), fun hk => commit_eq (msgRow_closed hl hc hk)⟩,
    fun s l half w d e hc hup hawake => ⟨fun h => commit_eq (segRx_noSegment hc hup hawake h),
      fun h1 h2 h3 => commit_eq (segRx_unknown hc hup hawake h1 h2 h3),
      fun ht hch => ⟨commit_eq (segRx_data hc hup hawake ht hch), commit_eq (segRx_data hc hup hawake ht hch)⟩,
      fun ht hch h => commit_eq (segRx_partial hc hup hawake ht hch h)⟩,
    fun s l half m hc hup h144 hawake => ?_, fun s a ht hid hdual => heartbeatRx_twin ht hid hdual,
    fun s l ch w d _ => ⟨dataSeg_misfit, fun hpos h144 hfirst hbusy => dataSeg_next h144 hpos hfirst hbusy,
      fun hlen h144 hfirst hfree hcrc hkind => dataSeg_begins h144 hfirst hfree hlen hcrc hkind,
      fun hlen h144 hfirst hlast hfree hcrc => dataSeg_badHeader h144 hfirst hfree hlen hlast hcrc⟩,
    fun s l ch id bad d f hch hf hend hst hdrip => segData_continues hch hf hend hst hdrip bad d,
    fun s l ch id bad e d f hch hf hend hst hdrip => ?_,
    fun s l t q body => ⟨timeRx_unmatched, fun t1 t2 t3 t4 hl h1 h2 h3 h4 => timeRx_matched hl h1 h2 h3 h4⟩,
    fun s l a w0 w1 w2 ha hc hq => learnRx_one ha hc hq,
    fun s off d => ⟨imageBlockRx_ignored, imageBlockRx_misplaced⟩, fun s a b => ⟨imageAckRx_stopped, imageAckRx_ends⟩,
    fun s a b body h1 h2 => snapshotRx_other h1 h2, fun s a b body hrole hfirst hmore htotal => ?_,
    fun s body k h8 hk => healthRx_word h8 hk⟩
  · rintro ⟨ht, hfirst⟩
    rcases h with h | h
    · exact h ht
    · exact Bool.false_ne_true (h.symm.trans hfirst)
  · have hrow (kind : Nat) (hk : fld (wordAt m 0) 28 4 = kind) := msgRow_up (half := half) hc hup hawake h144 hk
    refine ⟨fun hbad hk => commit_eq ((hrow 2 hk).trans (msgRx_bad hbad)), fun hgood => ?_⟩
    obtain ⟨hheartbeat, htime, hlearn, hblock, hack, hsnapshot, hhealth⟩ := msgRx_good (half := half)
      (s := (occ s (29 + l) 0x11 0 (1 + ceilDiv m.length 8)).setLink l { s.link l with msgGot := ((s.link l).msgGot + 1) % 256 }) hgood
    rw [stamp_congr (s := s) ((State.setLink_time ..).trans (occ_time s _ _ _ _))] at htime
    exact ⟨fun hk => commit_eq ((hrow 2 hk).trans (hheartbeat hk)), fun hk => commit_eq ((hrow 3 hk).trans (htime hk)),
      fun hk => commit_eq ((hrow 4 hk).trans (hlearn hk)), fun hk => commit_eq ((hrow 5 hk).trans (hblock hk)),
      fun hk => commit_eq ((hrow 6 hk).trans (hack hk)), fun hk => commit_eq ((hrow 7 hk).trans (hsnapshot hk)),
      fun hk => commit_eq ((hrow 8 hk).trans (hhealth hk))⟩
  · have hends := segData_ends hch hf hend hst hdrip bad d e
    have hgoodEnd (h : bad = false) : ¬ bad = true := by rw [h]; exact Bool.false_ne_true
    refine ⟨fun hbad => hends.trans (if_pos hbad), fun hgood hfcs hcode he => ?_, fun hgood hcode => ?_,
      fun hgood hcode he hfcs => ?_⟩
    · exact hends.trans ((if_neg (hgoodEnd hgood)).trans (if_pos (by rw [hfcs, hcode, he]; rfl)))
    · have herr : (f.codeErr || e) = true := Bool.or_eq_true_iff.mpr hcode
      rw [hends, if_neg (hgoodEnd hgood), if_neg (by rw [herr, Bool.not_true, Bool.and_false]; exact Bool.false_ne_true), if_pos herr]
      rfl
    · have hclean : ¬ (f.codeErr || e) = true := by rw [hcode, he]; exact Bool.false_ne_true
      rw [hends, if_neg (hgoodEnd hgood), if_neg (by rw [hfcs, Bool.false_and]; exact Bool.false_ne_true), if_neg hclean]
      rfl
  · dsimp only
    rw [snapshotRx_first hrole hfirst hmore htotal]
    exact ⟨rfl, fun j => foldl_setRamW_ramW _ body s j⟩

end Sys2Proof.Machine
end

section
/-!
SUPPORT. Snapshot records (R416, R417), rounds of the self-test (R425), and the operations of the flash (R424).
-/
namespace Sys2Proof.Machine

variable {s : State} {who : Who} {m : Measured}

/-! ## Snapshots that are taken (R417) -/

theorem snapshotTake_none (h : holdsRole s = false ∨ (s.link 0).up = false ∨ closed s 29 = true) : snapshotTake s = s :=
  if_pos (by rcases h with h | h | h <;> simp [h])

theorem snapshotTake_takes (hrole : holdsRole s = true) (hup : (s.link 0).up = true) (hc : closed s 29 = false)
    (hsent : ∀ m ∈ (s.link 0).msgs, m.kind ≠ 7) :
    let q := (s.twin.sentSeq + 1) % 2 ^ 32
    let r := snapRecord s q
    snapshotTake s = snapSend q r.length (r.length + 1) 0 r { s with twin := { s.twin with sentSeq := q } } :=
  if_neg (by simpa [hrole, hup, hc] using hsent)

theorem twnCmd_snapNow {w : Word} (h : fld w 29 3 = 2) (m : Measured) : twnCmd s w m = snapshotTake s := by simp only [twnCmd, h]

/-! ## Snapshot records (R416) -/

/-- What a record holds before its CRC. -/
def snapHead (s : State) (q : Nat) : List Word :=
  [0x534E5054, wd q, put 28 2 (devNo s) ||| put 0 14 (hostWords s), wd s.time.now.sec, put 0 30 s.time.now.ns, 0, 0]

/-- What a record holds after its CRC, before the host words. -/
def snapRole (s : State) : List Word :=
  snapRegs.map (fun r => s.rw r.1 r.2) ++ [s.rw .TWN_CFG, tkState s, tkFreq s, tkIntegral s] ++ List.replicate 10 0

/-- The host words of a record. -/
def snapHost (s : State) : List Word := (List.range (hostWords s)).map (fun i => s.ramW (32768 + i))

/-- The check word of a record: over all its words but itself. -/
def snapCheck (s : State) (q : Nat) : Word := wd (crc32 (wsBytes (snapHead s q ++ (snapRole s ++ snapHost s))))

theorem snapRecord_eq (s : State) (q : Nat) :
    snapRecord s q = snapHead s q ++ [snapCheck s q] ++ (snapRole s ++ snapHost s) := rfl

theorem length_snapRole (s : State) : (snapRole s).length = 24 := rfl

theorem length_snapHost (s : State) : (snapHost s).length = hostWords s := by rw [snapHost, List.length_map, List.length_range]

theorem length_snapRecord (s : State) (q : Nat) : (snapRecord s q).length = 32 + hostWords s := by
  rw [snapRecord_eq, List.length_append, List.length_append (as := snapRole s), length_snapRole, length_snapHost]
  show 8 + (24 + _) = _
  omega

/-- The header says how many host words follow. -/
theorem hostWords_snapHead (s : State) (q : Nat) : fld ((snapRecord s q).getD 2 0) 0 14 = hostWords s % 2 ^ 14 := by
  have hdev := toNat_put 28 2 (devNo s) (by decide)
  have hlow := toNat_put 0 14 (hostWords s) (by decide)
  have hword : (snapRecord s q).getD 2 0 = put 28 2 (devNo s) ||| put 0 14 (hostWords s) := rfl
  rw [hword, fld, toNat_or_of_lt hdev (by rw [hlow]; omega), hlow]
  omega

/-- How many host words a record is checked over: as many as its header counts, at most 16,352. -/
def hostChecked (s : State) : Nat := min 16352 (hostWords s % 2 ^ 14)

theorem hostChecked_le (s : State) : hostChecked s ≤ hostWords s := Nat.le_trans (Nat.min_le_right _ _) (Nat.mod_le _ _)

/-- A record is checked over the words that its header counts. -/
theorem snapGood_snapRecord_iff (s : State) (q : Nat) : snapGood (snapRecord s q) = true ↔
    snapCheck s q = wd (crc32 (wsBytes (snapHead s q ++ (snapRole s ++ (snapHost s).take (hostChecked s))))) := by
  have hbody : ((snapRecord s q).take (32 + hostChecked s)).drop 8 = snapRole s ++ (snapHost s).take (hostChecked s) := by
    rw [snapRecord_eq, List.drop_take]
    show ((snapRole s ++ snapHost s).take (32 + hostChecked s - 8)) = _
    rw [List.take_append, List.take_of_length_le (by rw [length_snapRole]; omega), length_snapRole]
    congr 2
    omega
  have hlen : decide (32 + hostChecked s ≤ (snapRecord s q).length) = true :=
    decide_eq_true (by rw [length_snapRecord]; exact Nat.add_le_add_left (hostChecked_le s) 32)
  have hhead : (snapRecord s q).take 7 = snapHead s q := rfl
  have hmagic : ((snapRecord s q).getD 0 0 == 0x534E5054) = true := rfl
  have hcheck : (snapRecord s q).getD 7 0 = snapCheck s q := rfl
  have hgood : snapGood (snapRecord s q) = (snapCheck s q ==
      wd (crc32 (wsBytes (snapHead s q ++ (snapRole s ++ (snapHost s).take (hostChecked s)))))) := by
    unfold snapGood
    dsimp only
    rw [hostWords_snapHead, hmagic, hcheck, hhead]
    change (true && decide (32 + hostChecked s ≤ _) && _ == wd (crc32 (wsBytes (_ ++ (List.take (32 + hostChecked s) _).drop 8)))) = _
    rw [hlen, hbody]
    rfl
  rw [hgood, beq_iff_eq]

/-- A record whose number of host words is in range is valid. -/
theorem snapGood_snapRecord (h : hostWords s ≤ 16352) (q : Nat) : snapGood (snapRecord s q) = true := by
  have hall : hostChecked s = hostWords s := by rw [hostChecked, Nat.mod_eq_of_lt (by omega), Nat.min_eq_right h]
  rw [snapGood_snapRecord_iff, hall, List.take_of_length_le (Nat.le_of_eq (length_snapHost s))]
  rfl

/-! ## The self-test (R425) -/

theorem selftest_off (h : isRunning s = false ∨ tst (s.rw .TWN_ST_CFG) 31 = false) : selftest s m = s :=
  if_pos (by rcases h with h | h <;> simp [h])

/-- What a round of the self-test must keep: the twin's own part, what ran and passed, and the twin's flags. -/
def twinView (s : State) : Twin × Word × Word := (s.twin, s.rw .TWN_HEALTH 1, s.rw .TWN_STATUS)

theorem twinView_occ (s : State) (b ev sub n : Nat) (hb : b < 40) : twinView (occ s b ev sub n) = twinView s := by
  have hreg {r : Reg} (h : r = ⟨.TWN_HEALTH, 1, 0⟩ ∨ r = ⟨.TWN_STATUS, 0, 0⟩) : (occ s b ev sub n).reg r = s.reg r := by
    refine occ_reg s b ev sub n hb ?_ (fun k hk => ?_) <;> rcases h with rfl | rfl <;> simp only [Reg.key, Fam.row] <;> omega
  rw [twinView, State.rw, State.rw, occ_twin, hreg (.inl rfl), hreg (.inr rfl)]
  rfl

theorem twinView_hotStatus (s : State) : twinView (s.setFlags .HOT_STATUS 0 0 4) = twinView s := by
  rw [twinView, State.rw, State.rw, setFlags_twin, setFlags_reg_ne _ _ (by decide), setFlags_reg_ne _ _ (by decide)]
  rfl

theorem twinView_ramEcc (s : State) (p : Nat → Bool) : twinView (ramEcc s p) = twinView s := by
  unfold ramEcc
  dsimp only
  split
  · rfl
  · exact (twinView_occ _ _ _ _ _ (by decide)).trans (twinView_hotStatus s)

theorem twinView_hostFill (s : State) (x : SMsg) : twinView (hostFill s x).2 = twinView s := by
  unfold hostFill
  split
  · rfl
  · exact twinView_ramEcc s _

/-- A message that leaves on link 0 keeps the twin's part and its registers. -/
theorem twinView_msgSend (s : State) (half : Nat) (x : SMsg) : twinView (msgSend s 0 half x) = twinView s := by
  unfold msgSend
  dsimp only
  have hfill := twinView_hostFill s x
  split
  · exact (twinView_occ _ _ _ _ _ (by decide)).trans ((twinView_occ _ _ _ _ _ (by decide)).trans hfill)
  · split
    · exact (twinView_occ _ _ _ _ _ (by decide)).trans ((twinView_occ _ _ _ _ _ (by decide)).trans hfill)
    · exact (twinView_occ _ _ _ _ _ (by decide)).trans hfill

theorem twinView_msgFlush (half n : Nat) (s : State) : twinView (msgFlush 0 half n s) = twinView s := by
  induction n generalizing s with
  | zero => rfl
  | succ n ih =>
    unfold msgFlush
    split
    · rfl
    · split
      · rfl
      · exact (ih _).trans (twinView_msgSend _ _ _)

/-- A message that is formed for link 0 keeps the twin's part and its registers. -/
theorem twinView_msgQueue (s : State) (half kind : Nat) (a b : Word) (body : List Word) :
    twinView (msgQueue s 0 half kind a b body) = twinView s := by
  unfold msgQueue
  split
  · rfl
  · exact twinView_msgFlush _ _ _

/-- The tests that run in a round: a device that holds the role leaves out those of the standby's time and snapshot (R425). -/
def testsRun (s : State) : List Nat := if holdsRole s then [1, 4, 5, 6, 7] else List.range 8

/-- Tests as bits of TWN_HEALTH. -/
def testBits (l : List Nat) : Nat := sumN (l.map (fun i => 2 ^ i))

theorem foldl_health (ws : List Word) (s : State) (j : Nat) :
    (ws.zipIdx.foldl (fun s w => s.wr .TWN_HEALTH w.2 0 w.1) s).rw .TWN_HEALTH j =
      if 0 ≤ j ∧ j < 0 + ws.length then ws.getD (j - 0) 0 else s.rw .TWN_HEALTH j := by
  have hput (s : State) (n : Nat) (w : Word) (j : Nat) : (s.wr .TWN_HEALTH n 0 w).rw .TWN_HEALTH j =
      if j = 0 + n then w else s.rw .TWN_HEALTH j := by
    rw [Nat.zero_add]
    split
    · rename_i h
      rw [h, rw_wr_same]
    · rename_i h
      exact rw_wr_ne s w (by simp only [Reg.key, Fam.row]; omega)
  exact get_foldl_zipIdx (get := fun s j => s.rw .TWN_HEALTH j) hput ws s 0 j

/-- Words written into TWN_HEALTH leave the twin's part and its flags. -/
theorem foldl_health_keeps (ws : List Word) (s : State) :
    ((ws.zipIdx.foldl (fun s w => s.wr .TWN_HEALTH w.2 0 w.1) s).twin,
      (ws.zipIdx.foldl (fun s w => s.wr .TWN_HEALTH w.2 0 w.1) s).rw .TWN_STATUS) = (s.twin, s.rw .TWN_STATUS) :=
  foldl_keeps (g := fun s (w : Word × Nat) => s.wr .TWN_HEALTH w.2 0 w.1) (part := fun s => (s.twin, s.rw .TWN_STATUS))
    (fun s w => Prod.ext rfl (rw_wr_ne s w.1 (by simp only [Reg.key, Fam.row]; omega))) _ s

/-- The words of a HEALTH message (R425). -/
def healthWords (s : State) (m : Measured) : List Word :=
  [put 28 4 1 ||| put 26 2 (devNo s) ||| bitw 25 (twinId s) ||| put 22 3 (roleCode s.twin.role) |||
      put 0 16 ((s.twin.reportSeq + 1) % 65536),
    put 16 16 (testBits (testsRun s)) ||| put 0 16 (testBits ((testsRun s).filter (testPass s m))),
    s.rw .TWN_LINK_OFFSET 0, wOfInt (worstOf m.watch), wd s.twin.validSeq,
    put 16 16 (min 65535 (snapAge s)) ||| put 0 16 m.hbRate, wd (bipTotal s + 2 ^ 32 - s.twin.bip), wd s.time.now.sec]

/-- The state in which a round has been shown in TWN_HEALTH. -/
def roundShown (s : State) (m : Measured) : State :=
  (healthWords s m).zipIdx.foldl (fun s w => s.wr .TWN_HEALTH w.2 0 w.1)
    { s with twin := { s.twin with reportSeq := (s.twin.reportSeq + 1) % 65536, bip := bipTotal s } }

/-- The state in which its HEALTH message has been formed. -/
def roundSent (s : State) (m : Measured) : State :=
  msgQueue (if testPass (roundShown s m) m 7 then roundShown s m else (roundShown s m).setFlags .HOT_STATUS 0 0 4) 0 0 8 0 0
    (healthWords s m)

theorem selftest_on (hr : isRunning s = true) (he : tst (s.rw .TWN_ST_CFG) 31 = true) : selftest s m =
    if ((testsRun s).filter (testPass s m)).length < (testsRun s).length then (roundSent s m).setFlags .TWN_STATUS 0 0 512
    else roundSent s m := if_neg (by rw [hr, he]; decide)

/-- A round that has been sent has advanced its sequence, kept the error total, and shown what ran and what passed. -/
theorem roundSent_view (s : State) (m : Measured) : twinView (roundSent s m) =
    ({ s.twin with reportSeq := (s.twin.reportSeq + 1) % 65536, bip := bipTotal s },
      put 16 16 (testBits (testsRun s)) ||| put 0 16 (testBits ((testsRun s).filter (testPass s m))), s.rw .TWN_STATUS) := by
  have hshown : twinView (roundShown s m) = ({ s.twin with reportSeq := (s.twin.reportSeq + 1) % 65536, bip := bipTotal s },
      put 16 16 (testBits (testsRun s)) ||| put 0 16 (testBits ((testsRun s).filter (testPass s m))), s.rw .TWN_STATUS) := by
    have hkeeps := Prod.ext_iff.mp (foldl_health_keeps (healthWords s m)
      { s with twin := { s.twin with reportSeq := (s.twin.reportSeq + 1) % 65536, bip := bipTotal s } })
    exact Prod.ext hkeeps.1 (Prod.ext (foldl_health _ _ 1) hkeeps.2)
  rw [roundSent, twinView_msgQueue, ← hshown]
  split
  · rfl
  · exact twinView_hotStatus _

/-- A round that some test fails flags SELFTEST_FAIL besides (R425). -/
theorem selftest_view (hr : isRunning s = true) (he : tst (s.rw .TWN_ST_CFG) 31 = true) :
    twinView (selftest s m) = ({ s.twin with reportSeq := (s.twin.reportSeq + 1) % 65536, bip := bipTotal s },
      put 16 16 (testBits (testsRun s)) ||| put 0 16 (testBits ((testsRun s).filter (testPass s m))),
      if ((testsRun s).filter (testPass s m)).length < (testsRun s).length then sqSet (s.rw .TWN_STATUS) 512
      else s.rw .TWN_STATUS) := by
  have hsent := roundSent_view s m
  rw [selftest_on hr he]
  split
  · obtain ⟨htwin, hrest⟩ := Prod.ext_iff.mp hsent
    obtain ⟨hhealth, hstatus⟩ := Prod.ext_iff.mp hrest
    exact Prod.ext ((setFlags_twin _ _ _ _ _).trans htwin) (Prod.ext ((setFlags_reg_ne _ _ (by decide)).trans hhealth)
      ((setFlags_rw_same _ _ _ _ _ (by decide)).trans (congrArg (sqSet · 512) hstatus)))
  · exact hsent

theorem levelRefresh_view (s : State) : twinView (levelRefresh s) = twinView s := by
  rw [twinView, State.rw, State.rw, levelRefresh_twin, levelRefresh_reg _ (by decide), levelRefresh_reg _ (by decide)]
  rfl

/-- A round that falls due, with the end of its command. -/
theorem selftestDue_view (hr : isRunning s = true) (he : tst (s.rw .TWN_ST_CFG) 31 = true) :
    let ran := testsRun s
    let ok := ran.filter (testPass s m)
    let t := levelRefresh (selftest s m)
    t.twin = { s.twin with reportSeq := (s.twin.reportSeq + 1) % 65536, bip := bipTotal s } ∧
      t.rw .TWN_HEALTH 1 = (put 16 16 (testBits ran) ||| put 0 16 (testBits ok)) ∧
      t.rw .TWN_STATUS = (if ok.length < ran.length then sqSet (s.rw .TWN_STATUS) 512 else s.rw .TWN_STATUS) := by
  have hview := (levelRefresh_view _).trans (selftest_view (m := m) hr he)
  simp only [twinView, Prod.mk.injEq] at hview
  exact hview

theorem twnCmd_selftestNow {w : Word} (h : fld w 29 3 = 3) (m : Measured) : twnCmd s w m = selftest s m := by simp only [twnCmd, h]

/-! ## The operations of the flash (R424) -/

/-- A command starts its operation where none is in progress and the device has authority. -/
def flashStarted (op n : Nat) (d : State → Bytes) (s : State) : State :=
  { s with flash := { s.flash with busy := some (op, s.rn .TWN_FLASH_ADDR, n) } }.emit (.flash op (s.rn .TWN_FLASH_ADDR) (d s))

theorem flashCmd_starts {w : Word} {op : Nat} (hop : fld w 28 4 = op) (h0 : op ≠ 0) (h4 : op ≤ 4) (hb : s.flash.busy = none)
    (ha : flashAuthority s = true) :
    flashCmd s w = flashStarted op (fld w 0 9) (fun u => if op = 2 then (flashBuf u).take (fld w 0 9) else []) s := by
  unfold flashCmd
  dsimp only
  rw [hop, if_neg (by rw [hb]; decide), if_neg (by omega), if_neg (by rw [ha]; decide)]
  rfl

theorem flashCmd_refused {w : Word} (hop : fld w 28 4 = 1) (hb : s.flash.busy = none) (ha : flashAuthority s = false) :
    flashCmd s w = { s with flash := { s.flash with result := 1 } } := by
  unfold flashCmd
  dsimp only
  rw [hop, if_neg (by rw [hb]; decide), if_neg (by decide), if_pos (by rw [ha]; rfl)]

/-- Reaching the flash's command register leaves who has authority. -/
theorem flashAuthority_touched (s : State) : flashAuthority (touched s ⟨.TWN_FLASH_CMD, 0, 0⟩) = flashAuthority s := by
  have hreports := touched_reports s ⟨.TWN_FLASH_CMD, 0, 0⟩
  have hcfg : (touched s ⟨.TWN_FLASH_CMD, 0, 0⟩).rw .TWN_CFG = s.rw .TWN_CFG :=
    occ_reg s 39 0x06 0 1 (by decide) (by decide) (fun k hk => by simp only [Reg.key, Fam.row]; omega)
  have hrun : isRunning (touched s ⟨.TWN_FLASH_CMD, 0, 0⟩) = isRunning s := by rw [isRunning, hreports.boot_eq]; rfl
  rw [flashAuthority, hcfg, hrun, hasTwin_touched, hreports.twin_eq]
  rfl

section
variable {w : Word} (h : Reached s who ⟨.TWN_FLASH_CMD, 0, 0⟩) (hm : MayWrite s who ⟨.TWN_FLASH_CMD, 0, 0⟩) (hb : s.flash.busy = none)
include h hm hb

/-- A permitted command with authority starts its operation once it has reached the register. -/
theorem flashWrite_starts {op : Nat} (ha : flashAuthority s = true) (hop : fld w 28 4 = op) (h0 : op ≠ 0) (h4 : op ≤ 4) :
    commit (writeOp s who (Reg.key ⟨.TWN_FLASH_CMD, 0, 0⟩) w) = .next (wrote s ⟨.TWN_FLASH_CMD, 0, 0⟩
      (flashStarted op (fld w 0 9) (fun u => if op = 2 then (flashBuf u).take (fld w 0 9) else []))) :=
  commit_writeOp h hm rfl (flashCmd_starts hop h0 h4 ((congrArg Flash.busy (touched_reports s _).flash_eq).trans hb)
    ((flashAuthority_touched s).trans ha))

theorem flashWrite_refused (ha : flashAuthority s = false) (hop : fld w 28 4 = 1) :
    commit (writeOp s who (Reg.key ⟨.TWN_FLASH_CMD, 0, 0⟩) w) = .next (wrote s ⟨.TWN_FLASH_CMD, 0, 0⟩
      (fun u => { u with flash := { u.flash with result := 1 } })) :=
  commit_writeOp h hm rfl (flashCmd_refused hop ((congrArg Flash.busy (touched_reports s _).flash_eq).trans hb)
    ((flashAuthority_touched s).trans ha))

end

theorem flashOpDone_idle (t : Bool) (d : Bytes) (h : s.flash.busy = none) : flashOpDone s t d = s := by simp only [flashOpDone, h]

/-- The state in which an operation of the flash has completed, with its result. -/
def flashEnded (s : State) (t : Bool) : State := { s with flash := { busy := none, result := if t then 2 else 0 } }

theorem flashOpDone_done {t : Bool} {op a n : Nat} (d : Bytes) (hb : s.flash.busy = some (op, a, n)) : flashOpDone s t d =
    flashYield (if op = 1 ∧ !t then
      (bytesWs 64 (patch (flashBuf s) 0 (d.take n))).zipIdx.foldl (fun s w => s.wr .TWN_FLASH_BUF w.2 0 w.1) (flashEnded s t)
    else flashEnded s t) := by
  simp only [flashOpDone, hb]
  rfl

/-! ## The check word tells the last word apart (R63) -/

theorem xor_cancel {a b p : Nat} (h : a ^^^ p = b ^^^ p) : a = b := by
  have hp := congrArg (· ^^^ p) h
  simpa only [Nat.xor_assoc, Nat.xor_self, Nat.xor_zero] using hp

/-- One bit of the CRC register. -/
def crcBit (c : Nat) : Nat := if c.testBit 0 then (c >>> 1) ^^^ 0xEDB88320 else c >>> 1

theorem shift_lt {c : Nat} (h : c < 2 ^ 32) : c >>> 1 < 2 ^ 31 := by rw [Nat.shiftRight_eq_div_pow]; omega

theorem crcBit_lt {c : Nat} (h : c < 2 ^ 32) : crcBit c < 2 ^ 32 := by
  have hs := shift_lt h
  unfold crcBit
  split
  · exact Nat.xor_lt_two_pow (by omega) (by decide)
  · omega

/-- The bit that leaves the register is the top bit of what it becomes: the top bit of the polynomial is 1. -/
theorem testBit_crcBit {c : Nat} (h : c < 2 ^ 32) : (crcBit c).testBit 31 = c.testBit 0 := by
  have hs : (c >>> 1).testBit 31 = false := Nat.testBit_lt_two_pow (shift_lt h)
  unfold crcBit
  split
  · rename_i h0
    rw [Nat.testBit_xor, hs, h0]
    decide
  · rename_i h0
    rw [hs, Bool.eq_false_iff.mpr h0]

theorem crcBit_inj {a b : Nat} (ha : a < 2 ^ 32) (hb : b < 2 ^ 32) (h : crcBit a = crcBit b) : a = b := by
  have hlow : a.testBit 0 = b.testBit 0 := by rw [← testBit_crcBit ha, ← testBit_crcBit hb, h]
  have hhigh : a >>> 1 = b >>> 1 := by
    unfold crcBit at h
    rw [hlow] at h
    split at h
    · exact xor_cancel h
    · exact h
  rw [Nat.testBit_zero, Nat.testBit_zero, decide_eq_decide] at hlow
  rw [Nat.shiftRight_eq_div_pow, Nat.shiftRight_eq_div_pow] at hhigh
  omega

theorem crc32Bits_lt (n : Nat) {c : Nat} (h : c < 2 ^ 32) : crc32Bits n c < 2 ^ 32 := by
  induction n generalizing c with
  | zero => exact h
  | succ n ih => exact ih (crcBit_lt h)

theorem crc32Bits_inj (n : Nat) {a b : Nat} (ha : a < 2 ^ 32) (hb : b < 2 ^ 32) (h : crc32Bits n a = crc32Bits n b) : a = b := by
  induction n generalizing a b with
  | zero => exact h
  | succ n ih => exact crcBit_inj ha hb (ih (crcBit_lt ha) (crcBit_lt hb) h)

/-- A byte into the register leaves a register of 32 bits. -/
theorem crc32Byte_lt {c : Nat} (h : c < 2 ^ 32) (b : BitVec 8) : c ^^^ b.toNat < 2 ^ 32 :=
  Nat.xor_lt_two_pow h (Nat.lt_trans b.isLt (by decide))

theorem crc32Reg_lt (bs : Bytes) {c : Nat} (h : c < 2 ^ 32) : crc32Reg c bs < 2 ^ 32 := by
  induction bs generalizing c with
  | nil => exact h
  | cons b bs ih => exact ih (crc32Bits_lt 8 (crc32Byte_lt h b))

/-- Two byte strings that differ in their last byte alone have different check words. -/
theorem crc32_last_inj (bs : Bytes) {a b : BitVec 8} (h : wd (crc32 (bs ++ [a])) = wd (crc32 (bs ++ [b]))) : a = b := by
  have hlt (x : BitVec 8) : crc32Reg 0xFFFFFFFF (bs ++ [x]) < 2 ^ 32 := crc32Reg_lt _ (by decide)
  have hnat := congrArg BitVec.toNat h
  unfold wd crc32 at hnat
  rw [BitVec.toNat_ofNat, BitVec.toNat_ofNat, Nat.mod_eq_of_lt (Nat.xor_lt_two_pow (hlt a) (by decide)),
    Nat.mod_eq_of_lt (Nat.xor_lt_two_pow (hlt b) (by decide))] at hnat
  have hreg : crc32Reg 0xFFFFFFFF (bs ++ [a]) = crc32Reg 0xFFFFFFFF (bs ++ [b]) := xor_cancel hnat
  have hpre : crc32Reg 0xFFFFFFFF bs < 2 ^ 32 := crc32Reg_lt bs (by decide)
  unfold crc32Reg at hreg hpre
  rw [List.foldl_append, List.foldl_append] at hreg
  have hin := crc32Bits_inj 8 (crc32Byte_lt hpre a) (crc32Byte_lt hpre b) hreg
  rw [Nat.xor_comm _ a.toNat, Nat.xor_comm _ b.toNat] at hin
  exact BitVec.eq_of_toNat_eq (xor_cancel hin)

/-! ## A record whose number of host words is out of range -/

section
variable {u : Nat} (s) (x : Word)

theorem hostWords_setRamW (k : Nat) : hostWords (s.setRamW k x) = hostWords s := rfl

theorem snapHead_setRamW (k q : Nat) : snapHead (s.setRamW k x) q = snapHead s q := rfl

theorem snapRole_setRamW (k : Nat) : snapRole (s.setRamW k x) = snapRole s := rfl

/-- The host words but the last. -/
def snapFront (s : State) (u : Nat) : List Word := (List.range u).map (fun i => s.ramW (32768 + i))

theorem length_snapFront : (snapFront s u).length = u := by rw [snapFront, List.length_map, List.length_range]

/-- The last host word comes from its place in the retention RAM. -/
theorem snapHost_setLast (hn : hostWords s = u + 1) : snapHost (s.setRamW (32768 + u) x) = snapFront s u ++ [x] := by
  rw [snapHost, hostWords_setRamW, hn, List.range_succ, List.map_append, List.map_singleton, ramW_setRamW, if_pos rfl]
  congr 1
  refine List.map_congr_left (fun i hi => ?_)
  rw [ramW_setRamW, if_neg (by have := List.mem_range.mp hi; omega)]

/-- Beyond 16,352 host words the last one is not among those that the record is checked over. -/
theorem snapGood_setLast_iff (hn : hostWords s = u + 1) (h : 16352 ≤ u) (q : Nat) :
    snapGood (snapRecord (s.setRamW (32768 + u) x) q) = true ↔
      wd (crc32 (wsBytes (snapHead s q ++ (snapRole s ++ snapFront s u)) ++ wBytes x)) =
        wd (crc32 (wsBytes (snapHead s q ++ (snapRole s ++ (snapFront s u).take (hostChecked s))))) := by
  have hshort : hostChecked s ≤ (snapFront s u).length := by
    rw [length_snapFront]
    exact Nat.le_trans (Nat.min_le_left _ _) h
  have hbytes : wsBytes (snapHead s q ++ (snapRole s ++ (snapFront s u ++ [x]))) =
      wsBytes (snapHead s q ++ (snapRole s ++ snapFront s u)) ++ wBytes x := by
    simp only [wsBytes, List.flatMap_append, List.flatMap_singleton, List.append_assoc]
  rw [snapGood_snapRecord_iff, snapCheck, hostChecked, hostWords_setRamW, snapHost_setLast s x hn, snapHead_setRamW, snapRole_setRamW,
    ← hostChecked, List.take_append_of_le_length hshort, hbytes]

/-- Two records that differ in their last host word alone are not both valid where that word is not checked. -/
theorem snapGood_last_unique (hn : hostWords s = u + 1) (h : 16352 ≤ u) (q : Nat)
    (h0 : snapGood (snapRecord (s.setRamW (32768 + u) 0) q) = true) :
    ¬ snapGood (snapRecord (s.setRamW (32768 + u) 1) q) = true := by
  intro h1
  have hsame := ((snapGood_setLast_iff s 0 hn h q).mp h0).trans ((snapGood_setLast_iff s 1 hn h q).mp h1).symm
  generalize wsBytes (snapHead s q ++ (snapRole s ++ snapFront s u)) = bs at hsame
  have hzero : wBytes 0 = [0, 0, 0] ++ [0] := by decide
  have hone : wBytes 1 = [0, 0, 0] ++ [1] := by decide
  rw [hzero, hone, ← List.append_assoc, ← List.append_assoc] at hsame
  exact absurd (crc32_last_inj _ hsame) (by decide)

theorem exists_not_snapGood (h : 16352 < hostWords s) (q : Nat) : ∃ t, ¬ snapGood (snapRecord t q) = true := by
  obtain ⟨u, hn⟩ : ∃ u, hostWords s = u + 1 := ⟨hostWords s - 1, by omega⟩
  by_cases h0 : snapGood (snapRecord (s.setRamW (32768 + u) 0) q) = true
  · exact ⟨_, snapGood_last_unique s hn (by omega) q h0⟩
  · exact ⟨_, h0⟩

end

/-- A state whose HOST_WORDS is out of range, so that the free value at place `c` stands for it (log entry 6). -/
def hostWordsFree (c : Nat) : State := { State.reset with freeCtr := c }.wr .TWN_SNAP_CFG 0 0 16383

theorem hostWords_hostWordsFree (c : Nat) : hostWords (hostWordsFree c) = Config.free c := by
  have hfield : (hostWordsFree c).rf .TWN_SNAP_CFG 0 0 0 14 = 16383 := by
    rw [State.rf, hostWordsFree, State.wr, reg_setReg_same]
    decide
  rw [hostWords, hfield]
  rfl

/-! ## What O58 rests on -/

/-- Every clause of O58 but that records are valid holds as it stands; that one holds where HOST_WORDS is in range or read as if. -/
theorem twinSnapshotsTestsAndFlash_of_inRange (hfree : ∀ n, Config.free n ≤ 16352) : Obligations.TwinSnapshotsTestsAndFlash := by
  have hrange (s : State) : hostWords s ≤ 16352 := by
    unfold hostWords State.within
    split
    · rename_i h
      exact h.2
    · exact hfree _
  unfold Obligations.TwinSnapshotsTestsAndFlash
  refine ⟨fun s hrole hup hc hsent => commit_eq (snapshotTake_takes hrole hup hc hsent), fun s h => commit_eq (snapshotTake_none h),
    fun s q => ⟨length_snapRecord s q, snapGood_snapRecord (hrange s) q, rfl⟩,
    fun s who w h hm hw => commit_writeOp h hm rfl ((regWrite_twnCmd _ (by rw [hw]; decide)).trans (twnCmd_snapNow hw _)),
    fun s m h => commit_eq (selftest_off h), fun s m hr he => ?_, fun s who w m h hw => ?_,
    fun s who w h hm hb => ⟨fun ha => ⟨fun hop => flashWrite_starts h hm hb ha hop (by decide) (by decide),
        fun hop => flashWrite_starts h hm hb ha hop (by decide) (by decide),
        fun hop => flashWrite_starts h hm hb ha hop (by decide) (by decide),
        fun hop => flashWrite_starts h hm hb ha hop (by decide) (by decide)⟩, fun ha hop => flashWrite_refused h hm hb ha hop⟩,
    fun s t d h => commit_eq (flashOpDone_idle t d h),
    fun s t d op a n hb => ⟨fun h => commit_eq ((flashOpDone_done d hb).trans ?_),
      fun hop ht => commit_eq ((flashOpDone_done d hb).trans ?_)⟩⟩
  · obtain ⟨htwin, hhealth, hstatus⟩ := selftestDue_view hr he
    exact ⟨levelRefresh (selftest s m), rfl, htwin, hhealth, hstatus⟩
  · show commit (hostOp s who _) = _
    rw [hostOp_served h]
    exact commit_eq (by rw [twnCmd_selftestNow hw])
  · rw [if_neg (by rcases h with h | h <;> simp [h])]; rfl
  · rw [if_pos ⟨hop, by rw [ht]; rfl⟩]; rfl

/-- O58 says neither more nor less than that no free value exceeds 16,352, which the model's free values leave open: a HOST_WORDS
out of range is such a value (log entry 6), and a record with more host words than 16,352 is checked over a part of them. -/
theorem twinSnapshotsTestsAndFlash_iff : Obligations.TwinSnapshotsTestsAndFlash ↔ ∀ n, Config.free n ≤ 16352 := by
  refine ⟨fun h c => ?_, twinSnapshotsTestsAndFlash_of_inRange⟩
  obtain ⟨-, -, hrecords, -⟩ := h
  by_contra hc
  obtain ⟨t, ht⟩ := exists_not_snapGood (hostWordsFree c) (by rw [hostWords_hostWordsFree]; omega) 0
  exact ht (hrecords t 0).2.1

end Sys2Proof.Machine
end
